-- ==== Sys2Proof/Word.lean ====
section
/-! DEFINITION. The words of the part, and a table of fixed size. -/

namespace Sys2Proof

/-- One byte of a frame (R3). -/
abbrev Byte := BitVec 8

/-- A value of two bytes (R5), a 16-bit counter (R23), a setting figure. -/
abbrev Word16 := BitVec 16

/-- Part time: a 32-bit count of 10 ms units since reset, wrapping (00_scope.md, Terms). -/
abbrev Word32 := BitVec 32

/-- The Tag of a frame, 0 to 15 (R3). -/
abbrev Tag := BitVec 4

/-- A table of exactly `n` records, kept as plain data. -/
structure Table (α : Type) (n : Nat) where
  list : List α
  size : list.length = n
deriving DecidableEq, Repr

namespace Table

variable {α β : Type} {n : Nat}

/-- The record with number `i`. -/
def get (t : Table α n) (i : Fin n) : α := t.list.get ⟨i.val, t.size.symm ▸ i.isLt⟩

/-- The table with record `i` replaced. -/
def set (t : Table α n) (i : Fin n) (a : α) : Table α n :=
  ⟨t.list.set i.val a, (List.length_set ..).trans t.size⟩

/-- The record with number `k`, when there is one. -/
def get? (t : Table α n) (k : Nat) : Option α := if h : k < n then some (t.get ⟨k, h⟩) else none

/-- The table with record `k` replaced, when there is one. -/
def put (t : Table α n) (k : Nat) (a : α) : Table α n := if h : k < n then t.set ⟨k, h⟩ a else t

/-- `n` equal records. -/
def fill (n : Nat) (a : α) : Table α n := ⟨List.replicate n a, List.length_replicate⟩

/-- The same change to every record. -/
def map (f : α → β) (t : Table α n) : Table β n := ⟨t.list.map f, (List.length_map f).trans t.size⟩

/-- A list changed record by record, the first having number `k`. -/
def mapFrom (f : Nat → α → β) : Nat → List α → List β
  | _, [] => []
  | k, a :: as => f k a :: mapFrom f (k + 1) as

theorem length_mapFrom (f : Nat → α → β) : ∀ (k : Nat) (l : List α), (mapFrom f k l).length = l.length
  | _, [] => rfl
  | k, _ :: as => congrArg (· + 1) (length_mapFrom f (k + 1) as)

/-- A change of every record that may depend on its number. -/
def imap (f : Nat → α → β) (t : Table α n) : Table β n :=
  ⟨mapFrom f 0 t.list, (length_mapFrom f 0 t.list).trans t.size⟩

/-- The records with their numbers, lowest first. -/
def entries (t : Table α n) : List (Nat × α) := mapFrom (fun k a => (k, a)) 0 t.list

end Table

end Sys2Proof
end

