-- ==== Sys2Proof/Syntax.lean ====
section
/-! DEFINITION. The commands of the part: one constructor of `Instr` for each row of
spec/opcode_table.json, with its operands, and the names the operands use. -/

namespace Sys2Proof

/-- The two link ports (file 01). -/
inductive Port where
  | s | m
deriving DecidableEq, Repr

/-- "The other port" of S is M and of M is S (file 01). -/
def Port.other : Port → Port
  | .s => .m
  | .m => .s

/-- The five settings, numbered 0 to 4 (R66). -/
inductive Setting where
  | drum | concave | upper | lower | fan
deriving DecidableEq, Repr

/-- The four axes, numbered 0 to 3 (R49). -/
inductive Axis where
  | moisture | feed | slope | side
deriving DecidableEq, Repr

/-- The two rotors with a slip dwell: DRUM_SLIP and FAN_STALL (R150). -/
inductive Rotor where
  | drum | fan
deriving DecidableEq, Repr

/-- The two machine lines (00_scope.md, Discrete lines). -/
inductive MachineLine where
  | hdrDown | sepOn
deriving DecidableEq, Repr

/-- One thing for each port. -/
structure PerPort (α : Type) where
  s : α
  m : α
deriving DecidableEq, Repr

/-- One thing for each setting. -/
structure PerSetting (α : Type) where
  drum : α
  concave : α
  upper : α
  lower : α
  fan : α
deriving DecidableEq, Repr

/-- One thing for each axis. -/
structure PerAxis (α : Type) where
  moisture : α
  feed : α
  slope : α
  side : α
deriving DecidableEq, Repr

/-- One thing for each side index 0 to 4 (R71). -/
structure PerSide (α : Type) where
  i0 : α
  i1 : α
  i2 : α
  i3 : α
  i4 : α
deriving DecidableEq, Repr

/-- Who sent a request, and the Tag its REPLY carries (R6). -/
structure Sender where
  station : Byte
  tag : Tag
deriving DecidableEq, Repr

/-- The fields of CHANNEL WRITE after Index (R44). -/
structure ChannelFields where
  flags : Byte
  station : Byte
  sub : Byte
  role : Byte
  gain : Word16
  offset : Word16
  plausibleMin : Word16
  plausibleMax : Word16
  period : Byte
deriving DecidableEq, Repr

/-- The cell record carried by CELL WRITE and CELL FILL (R77, R78). -/
structure CellFields where
  targets : PerSetting Word16
  flags : Byte
  llim : Word16
  tlim : Word16
deriving DecidableEq, Repr

/-- The block of bands named by CELL FILL (R78). -/
structure BandBlock where
  moistureLow : Byte
  moistureHigh : Byte
  feedLow : Byte
  feedHigh : Byte
  slopeLow : Byte
  slopeHigh : Byte
deriving DecidableEq, Repr

/-- The fields of GUARD CONFIG after Source (R154). -/
structure GuardFields where
  priority : Byte
  flags : Byte
  action : Byte
  clearDwell : Byte
deriving DecidableEq, Repr

/-- The commands: one constructor for each row of spec/opcode_table.json, in the table's order. -/
inductive Instr where
  /-- FRAME_END (R7): the bytes of the frame that ended at a port, and whether one of them missed its stop bit. -/
  | frameEnd (port : Port) (bytes : List Byte) (framingError : Bool)
  /-- TX_CHOOSE (R20): the port's line has been idle for `idleBits` bit times. -/
  | txChoose (port : Port) (idleBits : Nat)
  /-- TX_SUCCESS (R20). -/
  | txSuccess (port : Port)
  /-- TX_COLLISION (R21). -/
  | txCollision (port : Port)
  /-- BACKOFF_END (R21): the port's line has been idle without a break for `idleMs` ms. -/
  | backoffEnd (port : Port) (idleMs : Nat)
  /-- REPLY_HANDOVER (R19). -/
  | replyHandover (port : Port)
  /-- CHANNEL_WINDOW_EXPIRY (R35). -/
  | channelWindowExpiry (entry : Fin 24)
  /-- DWELL_EXPIRY (R61). -/
  | dwellExpiry
  /-- ACCEPT_TIMER_EXPIRY (R99). -/
  | acceptTimerExpiry (setting : Setting)
  /-- MOVE_TIMER_EXPIRY (R99). -/
  | moveTimerExpiry (setting : Setting)
  /-- DRIVE_TRACKING_EXPIRY (R103). -/
  | driveTrackingExpiry (setting : Setting)
  /-- WINDOW_A_EXPIRY (R121). -/
  | windowAExpiry
  /-- WINDOW_B_EXPIRY (R122). -/
  | windowBExpiry
  /-- SLIP_DWELL_EXPIRY (R150). -/
  | slipDwellExpiry (rotor : Rotor)
  /-- CLEAR_DWELL_EXPIRY (R164). -/
  | clearDwellExpiry (source : Fin 12)
  /-- LINE_LEVEL_SETTLED (R151): the line has held this level (true is high) for 10 ms. -/
  | lineLevelSettled (line : MachineLine) (high : Bool)
  /-- HEARTBEAT_EXPIRY (R177). -/
  | heartbeatExpiry
  /-- ANSWER_TIMER_EXPIRY (R189). -/
  | answerTimerExpiry
  /-- SAVE_WRITE_END (R203). -/
  | saveWriteEnd
  /-- POWER_ON_RESET (R204): the ADDR straps read as `straps`. -/
  | powerOnReset (straps : BitVec 3)
  /-- RESTART_ACT (R24): the ADDR straps read as `straps`. -/
  | restartAct (straps : BitVec 3)
  /-- UNKNOWN_REQUEST (R181): an unknown code, or too few bytes for the request the code names. -/
  | unknownRequest (r : Sender) (code : Byte) (fields : List Byte)
  /-- CHANNEL_READ (R43). -/
  | channelRead (r : Sender) (index view : Byte)
  /-- CHANNEL_WRITE (R44, R45). -/
  | channelWrite (r : Sender) (index : Byte) (f : ChannelFields)
  /-- ERROR_RESET (R46, R106). -/
  | errorReset (r : Sender)
  /-- CHANNEL_RESTART (R47). -/
  | channelRestart (r : Sender) (index : Byte)
  /-- AXIS_WRITE (R52, R53). -/
  | axisWrite (r : Sender) (axis : Byte) (hysteresis : Word16) (defaultBand : Byte) (thresholds : List Word16)
  /-- CLASS_READ (R64). -/
  | classRead (r : Sender) (view axis : Byte)
  /-- CELL_WRITE (R77). -/
  | cellWrite (r : Sender) (bank cell : Byte) (f : CellFields)
  /-- CELL_FILL (R78). -/
  | cellFill (r : Sender) (bank : Byte) (block : BandBlock) (f : CellFields)
  /-- PLAN_WRITE (R79). -/
  | planWrite (r : Sender) (bank count : Byte) (steps : List Word16)
  /-- SIDETRIM_WRITE (R80): for each side index the FAN and the UPPER offset. -/
  | sidetrimWrite (r : Sender) (bank : Byte) (offsets : PerSide (Word16 × Word16))
  /-- HEADER_WRITE (R81). -/
  | headerWrite (r : Sender) (bank : Byte) (label llim tlim : Word16)
  /-- CELL_READ (R82). -/
  | cellRead (r : Sender) (bank cell view side : Byte)
  /-- BANK_READ (R83). -/
  | bankRead (r : Sender) (bank view : Byte)
  /-- BANK_CLEAR (R84). -/
  | bankClear (r : Sender) (bank : Byte)
  /-- BANK_COPY (R85). -/
  | bankCopy (r : Sender)
  /-- SWITCH_BANK (R86). -/
  | switchBank (r : Sender)
  /-- CLEAR_TRIMS (R87). -/
  | clearTrims (r : Sender) (bank cell : Byte)
  /-- HOLD_ADJUST (R107). -/
  | holdAdjust (r : Sender) (mask : Byte)
  /-- RELEASE_ADJUST (R108). -/
  | releaseAdjust (r : Sender) (mask : Byte)
  /-- RELEASE_ONCE (R108). -/
  | releaseOnce (r : Sender) (mask : Byte)
  /-- MOVE_READ (R112). -/
  | moveRead (r : Sender) (setting : Byte)
  /-- TUNE_WINDOWS (R117). -/
  | tuneWindows (r : Sender) (settle measure recheck : Word16)
  /-- REGULATOR_READ (R144). -/
  | regulatorRead (r : Sender)
  /-- GUARD_CONFIG (R154). -/
  | guardConfig (r : Sender) (source : Byte) (f : GuardFields)
  /-- GUARD_MASK (R155). -/
  | guardMask (r : Sender) (mask : Word16)
  /-- GUARD_FLOOR (R159). -/
  | guardFloor (r : Sender) (floor : Byte)
  /-- GUARD_RELEASE (R163). -/
  | guardRelease (r : Sender) (source : Byte)
  /-- GUARD_RAISE (R166). -/
  | guardRaise (r : Sender)
  /-- GUARD_PEEK (R167). -/
  | guardPeek (r : Sender) (view source : Byte)
  /-- SUBSTITUTE_WRITE (R170). -/
  | substituteWrite (r : Sender) (presentMask : Byte) (values : PerSetting Word16)
  /-- BEAT_ENABLE (R175). -/
  | beatEnable (r : Sender)
  /-- BEAT_DISABLE (R175). -/
  | beatDisable (r : Sender)
  /-- BEAT (R176). -/
  | beat (r : Sender)
  /-- SUBSTITUTE_READ (R178). -/
  | substituteRead (r : Sender)
  /-- PARAM_WRITE (R185). -/
  | paramWrite (r : Sender) (item : Byte) (value : Word16)
  /-- PARAM_CLOSE (R186). -/
  | paramClose (r : Sender)
  /-- PARAM_OPEN (R187). -/
  | paramOpen (r : Sender)
  /-- PARAM_READ (R187). -/
  | paramRead (r : Sender) (view item : Byte)
  /-- LAYOUT_WRITE (R188): for each setting the drive station and the report period. -/
  | layoutWrite (r : Sender) (pairs : PerSetting (Byte × Byte))
  /-- LAYOUT_CLOSE (R188). -/
  | layoutClose (r : Sender)
  /-- START (R191). -/
  | start (r : Sender)
  /-- STOP (R191). -/
  | stop (r : Sender)
  /-- RELEASE_OWNER (R192). -/
  | releaseOwner (r : Sender)
  /-- FETCH_NOTICES (R196). -/
  | fetchNotices (r : Sender)
  /-- PICTURE_READ (R199). -/
  | pictureRead (r : Sender)
  /-- COUNTERS_READ (R200). -/
  | countersRead (r : Sender)
  /-- SAVE (R203). -/
  | save (r : Sender)
  /-- RESTART (R204). -/
  | restart (r : Sender)
  /-- RESUME (R205). -/
  | resume (r : Sender)
  /-- RESET_DRIVEN_ACTIVE (R204): RESET is driven low, or power is removed. -/
  | resetDrivenActive
deriving DecidableEq, Repr

end Sys2Proof
end

