-- ==== Sys2Proof/Config.lean ====
section
/-! DEFINITION. What is fixed in the part. The manual leaves one VALUE open, the bytes of a stored image, which is
the opaque constant `imageBytes` (Machine/Types.lean; log 14); the orders it leaves open are chosen by the state's
own field `order` (Machine/Ops.lean; log 4). -/

namespace Sys2Proof.Config

/-- The device range of each setting, fixed in the part (R66). -/
def deviceRange : Setting → Nat × Nat
  | .drum => (250, 1400)
  | .concave => (20, 500)
  | .upper => (0, 250)
  | .lower => (0, 200)
  | .fan => (300, 1500)

/-- Entries of a transmit queue (R14, R15). -/
def queueSize : Nat := 24

/-- Forwarded frames a transmit queue holds at most (R15, R17). -/
def forwardLimit : Nat := 16

/-- The failed attempt at which a frame is dropped (R21). -/
def attemptLimit : Nat := 8

/-- The idle bit times before a transmitter may begin (R2, R20). -/
def idleBitTimes : Nat := 12

/-- The accept timer: 200 ms, in 10 ms units (R92). -/
def acceptTicks : Nat := 20

/-- The answer timer of checking: 100 ms, in 10 ms units (R189). -/
def answerTicks : Nat := 10

/-- The longest store write: 2 s, in 10 ms units (R203). -/
def storeWriteTicks : Nat := 200

/-- Notices the ring holds when full (R195). -/
def noticeLimit : Nat := 31

end Sys2Proof.Config
end

