-- ==== Sys2Proof/Machine/Types.lean ====
section
/-! DEFINITION. The records the twelve blocks hold, as plain data (00_scope.md, the table of blocks). -/

namespace Sys2Proof

/-- The thing of one port. -/
def PerPort.get {α : Type} (p : PerPort α) : Port → α
  | .s => p.s
  | .m => p.m

/-- The thing of one port replaced. -/
def PerPort.set {α : Type} (p : PerPort α) (k : Port) (a : α) : PerPort α :=
  match k with
  | .s => { p with s := a }
  | .m => { p with m := a }

/-- The setting number (R66). -/
def Setting.num : Setting → Nat
  | .drum => 0
  | .concave => 1
  | .upper => 2
  | .lower => 3
  | .fan => 4

/-- The setting with a number, when there is one (R66). -/
def Setting.ofNum : Nat → Option Setting
  | 0 => some .drum
  | 1 => some .concave
  | 2 => some .upper
  | 3 => some .lower
  | 4 => some .fan
  | _ => none

/-- The settings from DRUM to FAN. -/
def Setting.all : List Setting := [.drum, .concave, .upper, .lower, .fan]

/-- The THRESH group holds DRUM and CONCAVE; the others are CLEAN (R66). -/
def Setting.isThresh : Setting → Bool
  | .drum => true
  | .concave => true
  | _ => false

/-- The setting whose move record a rotor's source reads (R149). -/
def Rotor.setting : Rotor → Setting
  | .drum => .drum
  | .fan => .fan

/-- The source of a rotor: 0 DRUM_SLIP, 3 FAN_STALL (R146). -/
def Rotor.source : Rotor → Fin 12
  | .drum => 0
  | .fan => 3

/-- The thing of one setting. -/
def PerSetting.get {α : Type} (p : PerSetting α) : Setting → α
  | .drum => p.drum
  | .concave => p.concave
  | .upper => p.upper
  | .lower => p.lower
  | .fan => p.fan

/-- The thing of one setting replaced. -/
def PerSetting.set {α : Type} (p : PerSetting α) (k : Setting) (a : α) : PerSetting α :=
  match k with
  | .drum => { p with drum := a }
  | .concave => { p with concave := a }
  | .upper => { p with upper := a }
  | .lower => { p with lower := a }
  | .fan => { p with fan := a }

/-- The same thing for every setting. -/
def PerSetting.fill {α : Type} (a : α) : PerSetting α := ⟨a, a, a, a, a⟩

/-- One thing worked out for each setting. -/
def PerSetting.tabulate {α : Type} (f : Setting → α) : PerSetting α :=
  ⟨f .drum, f .concave, f .upper, f .lower, f .fan⟩

/-- The things from DRUM to FAN. -/
def PerSetting.toList {α : Type} (p : PerSetting α) : List α := [p.drum, p.concave, p.upper, p.lower, p.fan]

/-- The axis with a number, when there is one (R49). -/
def Axis.ofNum : Nat → Option Axis
  | 0 => some .moisture
  | 1 => some .feed
  | 2 => some .slope
  | 3 => some .side
  | _ => none

/-- The axis number (R49). -/
def Axis.num : Axis → Nat
  | .moisture => 0
  | .feed => 1
  | .slope => 2
  | .side => 3

/-- The number of thresholds of an axis, which is also its highest band (R49). -/
def Axis.highest : Axis → Nat
  | .moisture => 3
  | .feed => 5
  | .slope => 4
  | .side => 4

/-- The four axes in the order of R49. -/
def Axis.all : List Axis := [.moisture, .feed, .slope, .side]

/-- The thing of one axis. -/
def PerAxis.get {α : Type} (p : PerAxis α) : Axis → α
  | .moisture => p.moisture
  | .feed => p.feed
  | .slope => p.slope
  | .side => p.side

/-- The thing of one axis replaced. -/
def PerAxis.set {α : Type} (p : PerAxis α) (k : Axis) (a : α) : PerAxis α :=
  match k with
  | .moisture => { p with moisture := a }
  | .feed => { p with feed := a }
  | .slope => { p with slope := a }
  | .side => { p with side := a }

/-- One thing worked out for each axis. -/
def PerAxis.tabulate {α : Type} (f : Axis → α) : PerAxis α := ⟨f .moisture, f .feed, f .slope, f .side⟩

/-- The thing of one side index; an index above 4 reads as index 4. -/
def PerSide.get {α : Type} (p : PerSide α) : Nat → α
  | 0 => p.i0
  | 1 => p.i1
  | 2 => p.i2
  | 3 => p.i3
  | _ => p.i4

/-- A change of every side index's thing. -/
def PerSide.map {α β : Type} (f : α → β) (p : PerSide α) : PerSide β := ⟨f p.i0, f p.i1, f p.i2, f p.i3, f p.i4⟩

/-- The things from side index 0 to 4. -/
def PerSide.toList {α : Type} (p : PerSide α) : List α := [p.i0, p.i1, p.i2, p.i3, p.i4]

namespace Machine

/-- A running timer: its starting moment in part time and its length in 10 ms units (R59, R116). -/
structure Timer where
  start : Word32
  length : Nat
deriving DecidableEq, Repr

/-! ### Link ports and frame path -/

/-- The ten frame kinds (R5). -/
inductive FrameKind where
  | sample | set | accept | report | done | identAsk | ident | request | reply | attention
deriving DecidableEq, Repr

/-- A frame: envelope, payload and check (R3). -/
structure Frame where
  dest : Byte
  source : Byte
  kind : FrameKind
  tag : Tag
  payload : List Byte
  check : Word16
deriving DecidableEq, Repr

/-- An entry of the station side table (R9). -/
inductive Side where
  | s | m | unknown
deriving DecidableEq, Repr

/-- The class of a queued frame (R14). -/
inductive EntryClass where
  | forward | part
deriving DecidableEq, Repr

/-- An entry of a transmit queue: its class, its frame, and its pending content (R14, R18). -/
structure Entry where
  cls : EntryClass
  frame : Frame
  held : Option Frame
deriving DecidableEq, Repr

/-- What a transmitter does with its frame in progress (R14). -/
inductive TxPhase where
  | sending | backoff
deriving DecidableEq, Repr

/-- A transmitter: IDLE, or at work on the queue entry `index` with an attempt count (R14, R20, R21). -/
inductive Tx where
  | idle
  | active (phase : TxPhase) (index : Nat) (attempts : Nat)
deriving DecidableEq, Repr

/-- One port: its transmit queue, oldest first, its transmitter, and its five counters (R14, R23). -/
structure PortState where
  queue : List Entry
  tx : Tx
  good : Word16
  checkErrors : Word16
  filtered : Word16
  forwardDrops : Word16
  collisionDrops : Word16
deriving DecidableEq, Repr

/-- The link ports and the frame path. -/
structure Link where
  side : Table Side 63
  ports : PerPort PortState
deriving DecidableEq, Repr

/-- The discrete lines, and the straps as last read (R1, R151, R173, R197, R204). -/
structure Pins where
  straps : BitVec 3
  inReset : Bool
  hdrDown : Option Bool
  sepOn : Option Bool
  safeOut : Bool
  attn : Bool
deriving DecidableEq, Repr

/-! ### Channel unit -/

/-- The roles (R26), in the order of their codes (R44). -/
inductive Role where
  | none | shoeLoss | sepLoss | tailings | grainFlow | feedLoad | drumSpeed | fanSpeed | moisture | pitch | roll
deriving DecidableEq, Repr

/-- The four lock states (R29), used for channels and for drives (R103). -/
inductive Lock where
  | search | locked | oneMissed | lost
deriving DecidableEq, Repr

/-- The definition of a channel entry (R25). -/
structure ChannelDef where
  enabled : Bool
  station : Byte
  sub : BitVec 2
  role : Role
  gain : Word16
  offset : Word16
  plausibleMin : Word16
  plausibleMax : Word16
  period : Byte
  mirror : Bool
  required : Bool
deriving DecidableEq, Repr

/-- The runtime record of a channel entry (R29). -/
structure ChannelRt where
  lock : Lock
  window : Option Timer
  oneMissedLatch : Bool
  twoMissedLatch : Bool
  rangeLatch : Bool
  faultLatch : Bool
  rangeCount : Byte
  lastValue : Option Word16
  lastTime : Option Word32
  sum : Word32
  count : Word16
  interrupted : Bool
deriving DecidableEq, Repr

/-- One entry of the channel table with its runtime record. -/
structure Channel where
  defn : ChannelDef
  rt : ChannelRt
deriving DecidableEq, Repr

/-- The channel unit (R25, R29, R39, R40). -/
structure ChannelUnit where
  entries : Table Channel 24
  gate : Bool
  lostIndicator : Bool
deriving DecidableEq, Repr

/-! ### Classifier -/

/-- An axis definition (R49). -/
structure AxisDef where
  thresholds : List Word16
  hysteresis : Word16
  defaultBand : Nat
deriving DecidableEq, Repr

/-- An axis with its runtime record (R55). The frozen flag is also the one of the adopted class record (R62). -/
structure AxisState where
  defn : AxisDef
  frozen : Bool
  value : Option Word16
  candidate : Nat
deriving DecidableEq, Repr

/-- The classifier (R55, R58, R59, R62). -/
structure Classifier where
  axes : PerAxis AxisState
  adopted : PerAxis Nat
  adoptedAt : Word32
  dwell : Option Timer
deriving DecidableEq, Repr

/-! ### Setting map -/

/-- The two banks (R68). -/
inductive BankId where
  | a | b
deriving DecidableEq, Repr

/-- A trim record (R69): one signed offset for each setting and the kept-trials count. -/
structure Trim where
  offsets : PerSetting Word16
  kept : Nat
deriving DecidableEq, Repr

/-- A written cell (R69). -/
structure CellRecord where
  targets : PerSetting Word16
  trialPermission : Bool
  ownLlim : Option Word16
  ownTlim : Option Word16
  trim : Option Trim
deriving DecidableEq, Repr

/-- The condition of a plan step (R70). -/
inductive StepCondition where
  | loss | tailings | any
deriving DecidableEq, Repr

/-- A plan step (R70); the amount is signed, over the ten bits of R79. -/
structure PlanStep where
  setting : Setting
  amount : BitVec 10
  condition : StepCondition
deriving DecidableEq, Repr

/-- A side-trim entry (R71). -/
structure SideTrim where
  fan : Word16
  upper : Word16
deriving DecidableEq, Repr

/-- A bank (R68 to R71). A cell is `none` while it is unwritten. -/
structure Bank where
  label : Word16
  llim : Word16
  tlim : Word16
  cells : Table (Option CellRecord) 120
  plan : List PlanStep
  sideTrims : PerSide SideTrim
deriving DecidableEq, Repr

/-- A keep the regulator hands the setting map: the trial's bank and cell, and its step (R74, R131). -/
structure Keep where
  bank : BankId
  cell : Nat
  setting : Setting
  amount : BitVec 10
deriving DecidableEq, Repr

/-- The setting map (R68). -/
structure SettingMap where
  bankA : Bank
  bankB : Bank
  active : BankId
deriving DecidableEq, Repr

/-! ### Move unit -/

/-- An entry of the layout roster (R89). -/
structure RosterEntry where
  station : Option Byte
  period : Byte
deriving DecidableEq, Repr

/-- The states of a move record (R92). -/
inductive MoveState where
  | idle | issued | moving | fault
deriving DecidableEq, Repr

/-- Who gave a goal (R92). -/
inductive GoalSource where
  | regulator | guard
deriving DecidableEq, Repr

/-- A goal with its source (R92). -/
structure Goal where
  value : Word16
  source : GoalSource
deriving DecidableEq, Repr

/-- The fault causes (R105). -/
inductive FaultCause where
  | none | acceptTimeout | moveTimeout | refused | driveFlag | reportLost
deriving DecidableEq, Repr

/-- A move record (R92). -/
structure MoveRecord where
  state : MoveState
  tag : Tag
  goal : Option Goal
  leg : Option Word16
  deferred : Option Word16
  resendUsed : Bool
  lastActual : Option Word16
  flagMoving : Bool
  flagAtLimit : Bool
  tracking : Lock
  trackWindow : Option Timer
  manual : Bool
  limited : Bool
  cause : FaultCause
  acceptTimer : Option Timer
  moveTimer : Option Timer
deriving DecidableEq, Repr

/-- The move unit (R89, R92, R100, R105, R107). -/
structure MoveUnit where
  roster : PerSetting RosterEntry
  records : PerSetting MoveRecord
  stale : PerSetting Word16
  unmatched : Word16
  heldThresh : Bool
  heldClean : Bool
  driveFault : Bool
deriving DecidableEq, Repr

/-! ### Regulator -/

/-- The eleven regulator states (R114). -/
inductive RegState where
  | idle | follow | settle | measure | hold | trialMove | trialSettle | trialMeasure | revert | paused | safe
deriving DecidableEq, Repr

/-- Why the regulator is in SAFE (R114). -/
inductive SafeCause where
  | guard | ownerLoss
deriving DecidableEq, Repr

/-- The two window timers (R116). -/
inductive WindowId where
  | a | b
deriving DecidableEq, Repr

/-- The kind of a window result (R125). -/
inductive ResultKind where
  | measure | trial
deriving DecidableEq, Repr

/-- The outcome of a window result (R125), in the order of the codes of R144. -/
inductive WindowOutcome where
  | good | highLoss | highTailings | both | void
deriving DecidableEq, Repr

/-- A window result (R125). -/
structure WindowResult where
  kind : ResultKind
  cell : Nat
  outcome : WindowOutcome
  voidCause : Nat
  l : Word16
  t : Word16
  s : Word16
  time : Word32
deriving DecidableEq, Repr

/-- The trial record (R114, R129). -/
structure Trial where
  bank : BankId
  cell : Nat
  position : Nat
  setting : Setting
  amount : BitVec 10
  target : Word16
deriving DecidableEq, Repr

/-- The regulator record (R114). `window` is the window in use with its running timer (R116). -/
structure Regulator where
  state : RegState
  safeCause : Option SafeCause
  window : Option (WindowId × Timer)
  targets : PerSetting (Option Word16)
  cursor : Nat
  exhausted : Bool
  baseline : Option WindowResult
  trial : Option Trial
  last : Option WindowResult
deriving DecidableEq, Repr

/-! ### Guard arbiter -/

/-- The actions in their order of severity (R153). -/
inductive Action where
  | noticeOnly | pause | openConcave | safeSet
deriving DecidableEq, Repr

/-- The configuration record of a guard (R153). -/
structure GuardConfig where
  priority : Nat
  masked : Bool
  edge : Bool
  action : Action
  auto : Bool
  clearDwell : Byte
deriving DecidableEq, Repr

/-- The three states of a guard (R156). -/
inductive GuardState where
  | idle | pending | acting
deriving DecidableEq, Repr

/-- A guard: its configuration (R153) and its runtime record (R156). -/
structure Guard where
  config : GuardConfig
  state : GuardState
  condition : Bool
  armed : Bool
  clearTimer : Option Timer
deriving DecidableEq, Repr

/-- The last value handed to the arbiter for each role a source reads; none is unusable (R148). -/
structure KeptValues where
  tailings : Option Word16
  feedLoad : Option Word16
  drumSpeed : Option Word16
  fanSpeed : Option Word16
  pitch : Option Word16
  roll : Option Word16
deriving DecidableEq, Repr

/-- Whether an examination of the arbiter, with its judgement, is put off until after an event that comes together
with the one just handled (the model's own, R165; log 39): it is not; it follows a raise that is no request's; it
follows a GUARD RELEASE naming its guard, and then comes before the next request (R181). -/
inductive ExamineDue where
  | no | raised | released
deriving DecidableEq, Repr

/-- The guard arbiter (R150, R153, R156, R159, R161). The stack lists sources, bottom first. `examineDue` is the
model's own (log 39). -/
structure Arbiter where
  table : Table Guard 12
  floor : Nat
  stack : List (Fin 12)
  effective : Action
  slipDrum : Option Timer
  slipFan : Option Timer
  kept : KeptValues
  examineDue : ExamineDue
deriving DecidableEq, Repr

/-! ### Safe set and heartbeat -/

/-- The substitute set (R169). -/
structure Substitute where
  values : PerSetting (Option Word16)
  loaded : Bool
deriving DecidableEq, Repr

/-- The safe set and heartbeat block (R169, R175). -/
structure SafeBlock where
  substitute : Substitute
  beatRunning : Bool
  beatCount : Word16
deriving DecidableEq, Repr

/-! ### The parameter block -/

/-- The parameter block: 43 items (R185). -/
structure Params where
  items : Table Word16 43
deriving DecidableEq, Repr

/-! ### Store -/

/-- What the store holds (R202). -/
structure Image where
  params : Params
  roster : PerSetting RosterEntry
  channels : Table ChannelDef 24
  axes : PerAxis AxisDef
  bankA : Bank
  bankB : Bank
  active : BankId
  substitute : Substitute
  guards : Table GuardConfig 12
deriving DecidableEq, Repr

/-- The bytes of an image in store order. The manual gives no layout, so this is a free value: an opaque
constant, of which nothing is known (log 14). -/
opaque imageBytes (i : Image) : List Byte

/-- What stands in the store's locations: the erased value 255 in every one (R202), an image written
whole, or an image partly overwritten (R203), of which nothing is ever loaded. -/
inductive StoreContent where
  | erased
  | image (i : Image)
  | torn
deriving DecidableEq, Repr

/-- The store: its image and the 16-bit check stored with it (R202). -/
structure Store where
  content : StoreContent
  check : Word16
deriving DecidableEq, Repr

/-- The three conditions in which a reset may find the store (R202). -/
inductive StoreCondition where
  | blank
  | valid (image : Image)
  | failed
deriving DecidableEq, Repr

/-! ### Management unit -/

/-- The part states (R180). -/
inductive PartState where
  | awaitParam | awaitLayout | checking | ready | regulating
deriving DecidableEq, Repr

/-- The results of a request (R5). -/
inductive Result where
  | done | busy | notOwner | wrongState | badField | conflict | unknown
deriving DecidableEq, Repr

/-- What a REPLY is to the management unit (R22): an ordinary reply, a part of a PICTURE READ still
in progress (R199), or the DONE of a RESTART (R24). -/
inductive ReplyOrigin where
  | plain | picture | restart
deriving DecidableEq, Repr

/-- A reply that is ready (R184). -/
structure Reply where
  asker : Sender
  code : Byte
  result : Result
  part : Nat
  more : Bool
  fields : List Byte
  origin : ReplyOrigin
deriving DecidableEq, Repr

/-- The checking record (R189). -/
structure Checking where
  setting : Setting
  asks : Nat
  timer : Timer
deriving DecidableEq, Repr

/-- A SAVE whose store write runs (R203). -/
structure SaveJob where
  sender : Sender
  image : Image
  started : Word32
deriving DecidableEq, Repr

/-- A PICTURE READ in progress (R199): the part that is ready, waiting or queued. -/
structure ReadJob where
  sender : Sender
  part : Nat
deriving DecidableEq, Repr

/-- The management unit (Chapter 9). -/
structure Mgmt where
  partState : PartState
  owner : Option Byte
  params : Params
  pendingParams : Params
  checking : Option Checking
  saving : Option SaveJob
  reading : Option ReadJob
  waiting : List Reply
  outstanding : PerPort (Option ReplyOrigin)
  restartDue : Bool
  imageHeld : Bool
  inbox : List Instr
deriving DecidableEq, Repr

/-! ### Notice and picture units -/

/-- The notice kinds, in the order of their codes (R194). -/
inductive NoticeKind where
  | guardActing | guardReleased | safeEntered | safeLeft
  | driveFault | moveLimited | manualOn | manualOff
  | channelLost | channelLocked | rangeError | sensorFault
  | classAdopted | trialKept | trialReverted | planExhausted | bankSwitched
  | stationClash | linkFault | beatExpired | layoutConflict | checkPassed | storeFault
deriving DecidableEq, Repr

/-- A queued notice (R194); its class is fixed by its kind. -/
structure Notice where
  kind : NoticeKind
  time : Word32
  subject : Byte
  detail : Word16
deriving DecidableEq, Repr

/-- The notice unit: a ring of 32 slots with its two points, and the lost-notice counter (R195). -/
structure NoticeUnit where
  slots : Table (Option Notice) 32
  writePoint : BitVec 5
  readPoint : BitVec 5
  lost : Word16
deriving DecidableEq, Repr

/-- What a picture shows of one move record (R198, bytes 27 to 41). -/
structure PictureMove where
  actual : Option Word16
  state : MoveState
  manual : Bool
  limited : Bool
deriving DecidableEq, Repr

/-- A picture: what its 63 bytes show of the blocks (R198), and the lock state of every channel entry under its
own name (R34), which has no byte among the 63 (log 33). -/
structure Picture where
  sequence : Word16
  time : Word32
  partState : PartState
  regState : RegState
  safeCause : Option SafeCause
  window : Option WindowId
  adopted : PerAxis Nat
  frozen : PerAxis Bool
  activeBank : BankId
  label : Word16
  targets : PerSetting (Option Word16)
  moves : PerSetting PictureMove
  heldThresh : Bool
  heldClean : Bool
  last : Option WindowResult
  cursor : Nat
  stack : List (Fin 12)
  effective : Action
  noticesQueued : Nat
  lostNotices : Word16
  locks : Table Lock 24
deriving DecidableEq, Repr

/-- The roles of a picture buffer (R198). -/
inductive BufferRole where
  | u | n | f
deriving DecidableEq, Repr

/-- A picture buffer (R198). -/
structure Buffer where
  role : BufferRole
  picture : Picture
deriving DecidableEq, Repr

/-- The picture unit (R198). -/
structure PictureUnit where
  seq : Word16
  buffers : Table Buffer 3
deriving DecidableEq, Repr

end Machine
end Sys2Proof
end

