-- ==== Sys2Proof/Machine/Operands.lean ====
section
/-! DEFINITION. Operand forms: the codes the frames carry, byte order, the frame check, exact
arithmetic with its clamping and saturation, and the item table of the parameter block. -/

namespace Sys2Proof.Machine

/-! ### Bytes and words -/

/-- A byte holding a small number. -/
def byteOf (n : Nat) : Byte := BitVec.ofNat 8 n

/-- A two-byte value from its bytes, low byte first (R5). -/
def word16 (lo hi : Byte) : Word16 := hi ++ lo

/-- The bytes of a two-byte value, low byte first (R5). -/
def le16 (w : Word16) : List Byte := [w.extractLsb' 0 8, w.extractLsb' 8 8]

/-- The bytes of a four-byte value, low byte first (00_scope.md, Multi-byte values). -/
def le32 (w : Word32) : List Byte :=
  [w.extractLsb' 0 8, w.extractLsb' 8 8, w.extractLsb' 16 8, w.extractLsb' 24 8]

/-- A 16-bit counter one up, stopping at 65535 (R23). -/
def satInc16 (w : Word16) : Word16 := if w = 65535#16 then w else w + 1#16

/-- An 8-bit counter one up, stopping at 255 (R31). -/
def satInc8 (w : Byte) : Byte := if w = 255#8 then w else w + 1#8

/-- A number kept between two limits (R72, R94). -/
def clampInt (lo hi x : Int) : Int := if x < lo then lo else if hi < x then hi else x

/-- A number saturated to the signed 16-bit range (R27). -/
def saturateS16 (x : Int) : Int := clampInt (-32768) 32767 x

/-- A number saturated to 65535 (R124). -/
def saturateU16 (n : Nat) : Nat := min n 65535

/-- Bits packed into a byte, bit 0 first. -/
def packBits : List Bool → Byte
  | [] => 0#8
  | b :: bs => (packBits bs <<< 1) ||| (if b then 1#8 else 0#8)

/-- A set of numbers as a 16-bit mask, bit 0 first. -/
def packBits16 : List Bool → Word16
  | [] => 0#16
  | b :: bs => (packBits16 bs <<< 1) ||| (if b then 1#16 else 0#16)

/-! ### Time -/

/-- The time passed since a timer started, in 10 ms units; part time wraps. -/
def Timer.elapsed (now : Word32) (t : Timer) : Nat := (now - t.start).toNat

/-- The timer's length has passed since it started (R33, R59, R116). -/
def Timer.due (now : Word32) (t : Timer) : Bool := decide (t.length ≤ t.elapsed now)

/-- The length less the time passed (R64, R144, R167). -/
def Timer.remaining (now : Word32) (t : Timer) : Nat := t.length - t.elapsed now

/-- A timer that runs and whose length has passed. -/
def timerDue (now : Word32) : Option Timer → Bool
  | none => false
  | some t => t.due now

/-- The remaining time of a timer; 0 when it is stopped. -/
def timerRemaining (now : Word32) : Option Timer → Nat
  | none => 0
  | some t => t.remaining now

/-- A tracking window: the period plus half of it, truncated (R33, R103). -/
def trackingLength (period : Byte) : Nat := period.toNat + period.toNat / 2

/-- A length in 100 ms units, in 10 ms units (00_scope.md, Units). -/
def tenths (n : Nat) : Nat := n * 10

/-! ### Frames -/

/-- The kind codes (R5). -/
def FrameKind.code : FrameKind → Nat
  | .sample => 1
  | .set => 2
  | .accept => 3
  | .report => 4
  | .done => 5
  | .identAsk => 6
  | .ident => 7
  | .request => 8
  | .reply => 9
  | .attention => 10

/-- The kind of a code, when it is one of the ten (R5, R7 check 6). -/
def FrameKind.ofCode : Nat → Option FrameKind
  | 1 => some .sample
  | 2 => some .set
  | 3 => some .accept
  | 4 => some .report
  | 5 => some .done
  | 6 => some .identAsk
  | 7 => some .ident
  | 8 => some .request
  | 9 => some .reply
  | 10 => some .attention
  | _ => none

/-- The Length matches the kind (R5, R7 check 7). -/
def FrameKind.lengthOk : FrameKind → Nat → Bool
  | .sample, n => n == 3
  | .set, n => n == 3
  | .accept, n => n == 1
  | .report, n => n == 4
  | .done, n => n == 4
  | .identAsk, n => n == 0
  | .ident, n => n == 5
  | .request, n => decide (1 ≤ n)
  | .reply, n => decide (3 ≤ n)
  | .attention, n => n == 1

/-- One bit step of the CRC register with generator x^16 + x^12 + x^5 + 1 (R4). -/
def crcShift (reg : Word16) : Word16 :=
  if reg.getLsbD 15 then (reg <<< 1) ^^^ 0x1021#16 else reg <<< 1

/-- One byte fed into the CRC register, most significant bit first (R4). -/
def crcByte (reg : Word16) (b : Byte) : Word16 :=
  let r0 := reg ^^^ (b.setWidth 16 <<< 8)
  crcShift (crcShift (crcShift (crcShift (crcShift (crcShift (crcShift (crcShift r0)))))))

/-- The Check over a list of bytes: the register starts with all ones and is not inverted (R4). -/
def crc16 (bytes : List Byte) : Word16 := bytes.foldl crcByte 0xFFFF#16

/-- The bytes a frame's Check is computed over: byte 0 to the last payload byte (R3, R4). -/
def Frame.checkedBytes (f : Frame) : List Byte :=
  [f.dest, f.source, byteOf (f.kind.code * 16 + f.tag.toNat), byteOf f.payload.length] ++ f.payload

/-- The bytes of a frame as they are sent, the Check high byte first (R3, R4). -/
def Frame.bytes (f : Frame) : List Byte :=
  f.checkedBytes ++ [f.check.extractLsb' 8 8, f.check.extractLsb' 0 8]

/-- A frame the part originates, its Check computed (R4, R6). -/
def Frame.make (dest source : Byte) (kind : FrameKind) (tag : Tag) (payload : List Byte) : Frame :=
  let f : Frame := ⟨dest, source, kind, tag, payload, 0#16⟩
  { f with check := crc16 f.checkedBytes }

/-- The receive checks 2 to 7 of R7 on the envelope of a frame of at least six bytes. -/
def receiveEnvelope (dest source kindTag length : Byte) (rest : List Byte) : Option Frame :=
  let n := length.toNat
  if rest.length ≠ n + 2 ∨ 24 < n then none
  else
    let payload := rest.take n
    let check := word16 (rest.getD (n + 1) 0#8) (rest.getD n 0#8)
    match FrameKind.ofCode (kindTag.toNat / 16) with
    | none => none
    | some kind =>
      let f : Frame := ⟨dest, source, kind, kindTag.setWidth 4, payload, check⟩
      if crc16 ([dest, source, kindTag, length] ++ payload) ≠ check then none
      else if 64 ≤ dest.toNat then none
      else if 62 < source.toNat then none
      else if kind.lengthOk n then some f else none

/-- The receive checks of R7: the good frame, or none. -/
def receiveChecks (bytes : List Byte) (framingError : Bool) : Option Frame :=
  if framingError ∨ bytes.length < 6 then none
  else
    match bytes with
    | dest :: source :: kindTag :: length :: rest => receiveEnvelope dest source kindTag length rest
    | _ => none

/-- The codes of the results of a request (R5). -/
def Result.code : Result → Nat
  | .done => 0
  | .busy => 1
  | .notOwner => 2
  | .wrongState => 3
  | .badField => 4
  | .conflict => 5
  | .unknown => 6

/-- The port an entry of the side table names for a part frame: UNKNOWN gives the M port (R16). -/
def Side.port : Side → Port
  | .s => .s
  | .m => .m
  | .unknown => .m

/-- The side table entry for a port (R9). -/
def Side.ofPort : Port → Side
  | .s => .s
  | .m => .m

/-! ### Channels -/

/-- The role of a code (R44). -/
def Role.ofCode : Nat → Option Role
  | 0 => some .none
  | 1 => some .shoeLoss
  | 2 => some .sepLoss
  | 3 => some .tailings
  | 4 => some .grainFlow
  | 5 => some .feedLoad
  | 6 => some .drumSpeed
  | 7 => some .fanSpeed
  | 8 => some .moisture
  | 9 => some .pitch
  | 10 => some .roll
  | _ => Option.none

/-- The code of a role (R44). -/
def Role.code : Role → Nat
  | .none => 0
  | .shoeLoss => 1
  | .sepLoss => 2
  | .tailings => 3
  | .grainFlow => 4
  | .feedLoad => 5
  | .drumSpeed => 6
  | .fanSpeed => 7
  | .moisture => 8
  | .pitch => 9
  | .roll => 10

/-- The axis a role feeds (R26, R49). -/
def Role.axis : Role → Option Axis
  | .moisture => some .moisture
  | .feedLoad => some .feed
  | .pitch => some .slope
  | .roll => some .side
  | _ => Option.none

/-- The loss terms of a measure window (R26). -/
def Role.isLoss : Role → Bool
  | .shoeLoss => true
  | .sepLoss => true
  | _ => false

/-- The roles of the measured entries (R26). -/
def Role.isMeasured : Role → Bool
  | .shoeLoss => true
  | .sepLoss => true
  | .tailings => true
  | .grainFlow => true
  | _ => false

/-- How many enabled entries may hold a role at once; none means any number (R28). -/
def Role.limit : Role → Option Nat
  | .none => Option.none
  | .shoeLoss => some 4
  | .sepLoss => some 4
  | _ => some 1

/-- The codes of the lock states (R43, R112). -/
def Lock.code : Lock → Nat
  | .search => 0
  | .locked => 1
  | .oneMissed => 2
  | .lost => 3

/-- Valid: LOCKED or ONE_MISSED (R29, R103). -/
def Lock.valid : Lock → Bool
  | .locked => true
  | .oneMissed => true
  | _ => false

/-- The scaled value of a raw sample (R27): product, quotient truncated toward zero, offset, saturation. -/
def scaleSample (gain offset raw : Word16) : Word16 :=
  BitVec.ofInt 16 (saturateS16 (Int.tdiv (raw.toInt * gain.toInt) 256 + offset.toInt))

/-! ### Bands -/

/-- The plain band of a value: how many thresholds it equals or exceeds (R50). -/
def plainBand (thresholds : List Word16) (v : Int) : Nat :=
  (thresholds.filter (fun t => decide (t.toInt ≤ v))).length

/-- The largest k above the present band b with v at least tk + h; `k` numbers the head of the list (R51, Rising). -/
def risenBand (b : Nat) (h v : Int) : Nat → List Word16 → Option Nat
  | _, [] => none
  | k, t :: ts =>
    match risenBand b h v (k + 1) ts with
    | some j => some j
    | none => if b < k ∧ t.toInt + h ≤ v then some k else none

/-- The smallest k at or below the present band b with v less than tk - h (R51, Falling). -/
def fallenBand (b : Nat) (h v : Int) : Nat → List Word16 → Option Nat
  | _, [] => none
  | k, t :: ts => if k ≤ b ∧ v < t.toInt - h then some k else fallenBand b h v (k + 1) ts

/-- The new candidate band of an axis that is not frozen (R51). -/
def hysteresisBand (thresholds : List Word16) (h : Int) (b : Nat) (v : Int) : Nat :=
  match risenBand b h v 1 thresholds with
  | some k => k
  | none =>
    match fallenBand b h v 1 thresholds with
    | some k => k - 1
    | none => b

/-- Thresholds each greater than the one before it (R52). -/
def strictlyAscending : List Word16 → Bool
  | [] => true
  | [_] => true
  | a :: b :: rest => decide (a.toInt < b.toInt) && strictlyAscending (b :: rest)

/-- The cell number of a class (R62, R69). -/
def cellNumber (c : PerAxis Nat) : Nat := 30 * c.moisture + 5 * c.feed + c.slope

/-! ### The setting map -/

/-- The bank of a number (R68). -/
def BankId.ofNum : Nat → Option BankId
  | 0 => some .a
  | 1 => some .b
  | _ => none

/-- The number of a bank (R68). -/
def BankId.num : BankId → Nat
  | .a => 0
  | .b => 1

/-- The bank that is not this one (R68). -/
def BankId.other : BankId → BankId
  | .a => .b
  | .b => .a

/-- A step word as PLAN WRITE carries it, when it is a legal step (R79). -/
def stepOfWord (w : Word16) : Option PlanStep :=
  let amount := w.extractLsb' 0 10
  if w.getLsbD 15 ∨ amount.toInt = 0 ∨ 500 < amount.toInt.natAbs then none
  else
    match Setting.ofNum (w.extractLsb' 10 3).toNat, (w.extractLsb' 13 2).toNat with
    | some st, 0 => some ⟨st, amount, .loss⟩
    | some st, 1 => some ⟨st, amount, .tailings⟩
    | some st, 2 => some ⟨st, amount, .any⟩
    | _, _ => none

/-- The code of a step's condition (R79). -/
def StepCondition.code : StepCondition → Nat
  | .loss => 0
  | .tailings => 1
  | .any => 2

/-- The step word of a plan step (R79). -/
def wordOfStep (p : PlanStep) : Word16 :=
  BitVec.ofNat 16 (p.amount.toNat + 1024 * p.setting.num + 8192 * p.condition.code)

/-! ### The parameter block -/

/-- The own range of a parameter item (R185). -/
def paramRange (item : Nat) : Nat × Nat :=
  match item with
  | 0 => Config.deviceRange .drum
  | 1 => Config.deviceRange .concave
  | 2 => Config.deviceRange .upper
  | 3 => Config.deviceRange .lower
  | 4 => Config.deviceRange .fan
  | 5 => Config.deviceRange .drum
  | 6 => Config.deviceRange .concave
  | 7 => Config.deviceRange .upper
  | 8 => Config.deviceRange .lower
  | 9 => Config.deviceRange .fan
  | 25 => (20, 500)
  | 26 => (5, 600)
  | 27 => (10, 600)
  | 28 => (10, 3000)
  | 29 => (1, 100)
  | 30 => (0, 1)
  | 31 => (0, 1000)
  | 32 => (0, 5000)
  | 33 => (100, 1000)
  | 34 => (50, 99)
  | 35 => (50, 99)
  | 36 => (1, 100)
  | 37 => (1, 250)
  | 38 => (1, 2000)
  | 39 => (1, 900)
  | 40 => (10, 6000)
  | 41 => (0, 1)
  | 42 => (0, 31)
  | k => if k < 15 then (0, 1000) else if k < 20 then (1, 600) else (0, 500)

/-- The defaults of the items from DRUM to FAN of one group (R67, R93, R185), then those of items 25 to 42. -/
def paramDefaults : List Nat :=
  [250, 20, 0, 0, 300] ++ [1400, 500, 250, 200, 1500] ++ [150, 60, 0, 0, 200] ++
  [150, 150, 150, 150, 150] ++ [100, 60, 40, 30, 150] ++ [500] ++ [40, 80, 300] ++ [20, 1] ++
  [50, 200, 300] ++ [85, 80, 10] ++ [180, 900, 250] ++ [200, 1, 23]

/-- The parameter block at its defaults (R185). -/
def defaultParams : Params :=
  ⟨Table.imap (fun k _ => BitVec.ofNat 16 (paramDefaults.getD k 0)) (Table.fill 43 0#16)⟩

/-- The value of an item. -/
def Params.item (p : Params) (k : Nat) : Nat := ((p.items.get? k).getD 0#16).toNat

/-- An item written. -/
def Params.write (p : Params) (k : Nat) (v : Word16) : Params := ⟨p.items.put k v⟩

/-- Items 0 to 4: Global min (R67). -/
def Params.globalMin (p : Params) (st : Setting) : Nat := p.item st.num

/-- Items 5 to 9: Global max (R67). -/
def Params.globalMax (p : Params) (st : Setting) : Nat := p.item (5 + st.num)

/-- Items 10 to 14: leg step limit (R93). -/
def Params.legStep (p : Params) (st : Setting) : Nat := p.item (10 + st.num)

/-- Items 15 to 19: move timeout, in 100 ms units (R93). -/
def Params.moveTimeout (p : Params) (st : Setting) : Nat := p.item (15 + st.num)

/-- Items 20 to 24: trim bound (R67). -/
def Params.trimBound (p : Params) (st : Setting) : Nat := p.item (20 + st.num)

/-- Item 25: concave release target (R115). -/
def Params.releaseTarget (p : Params) : Nat := p.item 25

/-- Item 26: settle length, in 100 ms units (R115). -/
def Params.settleLength (p : Params) : Nat := p.item 26

/-- Item 27: measure length, in 100 ms units (R115). -/
def Params.measureLength (p : Params) : Nat := p.item 27

/-- Item 28: recheck length, in 100 ms units (R115). -/
def Params.recheckLength (p : Params) : Nat := p.item 28

/-- Item 29: dwell, in 100 ms units (R59). -/
def Params.dwell (p : Params) : Nat := p.item 29

/-- Item 30: trials enable (R115). -/
def Params.trialsEnable (p : Params) : Bool := p.item 30 == 1

/-- Item 31: gain margin (R115). -/
def Params.gainMargin (p : Params) : Nat := p.item 31

/-- Item 32: flow floor (R115). -/
def Params.flowFloor (p : Params) : Nat := p.item 32

/-- Item 33: alarm ratio (R115). -/
def Params.alarmRatio (p : Params) : Nat := p.item 33

/-- Items 34 and 35: slip percent and stall percent (R147). -/
def Params.slipPercent (p : Params) : Rotor → Nat
  | .drum => p.item 34
  | .fan => p.item 35

/-- Item 36: slip dwell, in 100 ms units (R147). -/
def Params.slipDwell (p : Params) : Nat := p.item 36

/-- Item 37: surge limit (R147). -/
def Params.surgeLimit (p : Params) : Nat := p.item 37

/-- Item 38: overload limit (R147). -/
def Params.overloadLimit (p : Params) : Nat := p.item 38

/-- Item 39: slope limit (R147). -/
def Params.slopeLimit (p : Params) : Nat := p.item 39

/-- Item 40: beat interval, in 10 ms units (R175). -/
def Params.beatInterval (p : Params) : Nat := p.item 40

/-- Item 41: attention enable (R197). -/
def Params.attentionEnable (p : Params) : Bool := p.item 41 == 1

/-- Item 42: notice class enables (R195). -/
def Params.classEnables (p : Params) : Nat := p.item 42

/-- A setting figure lies inside the setting's global limits. -/
def Params.inLimits (p : Params) (st : Setting) (v : Nat) : Bool :=
  decide (p.globalMin st ≤ v) && decide (v ≤ p.globalMax st)

/-- A sum clamped to a setting's global limits (R72 step 4, R94 step 1). -/
def Params.clamp (p : Params) (st : Setting) (x : Int) : Int := clampInt (p.globalMin st) (p.globalMax st) x

/-! ### Moves -/

/-- The leg target toward a goal (R94), from the starting value if there is one. -/
def legTarget (p : Params) (st : Setting) (goal : Nat) (start : Option Nat) : Word16 :=
  let aim := p.clamp st goal
  let step := p.legStep st
  let raw : Int :=
    match start with
    | none => aim
    | some v =>
      if step = 0 ∨ (aim - v).natAbs ≤ step then aim
      else if (v : Int) < aim then v + step else v - step
  BitVec.ofInt 16 (p.clamp st raw)

/-- The starting value of a leg (R94 step 2). -/
def MoveRecord.startValue (r : MoveRecord) : Option Nat :=
  match r.tracking.valid, r.lastActual, r.leg with
  | true, some v, _ => some v.toNat
  | _, _, some l => some l.toNat
  | _, _, none => none

/-- The states of a move record as MOVE READ codes them (R112). -/
def MoveState.code : MoveState → Nat
  | .idle => 0
  | .issued => 1
  | .moving => 2
  | .fault => 3

/-- The codes of the fault causes (R105). -/
def FaultCause.code : FaultCause → Nat
  | .none => 0
  | .acceptTimeout => 1
  | .moveTimeout => 2
  | .refused => 3
  | .driveFlag => 4
  | .reportLost => 5

/-- Settled (R109): IDLE with no deferred goal, manual, or in FAULT. -/
def MoveRecord.settled (r : MoveRecord) : Bool :=
  r.manual || (match r.state with
    | .idle => r.deferred.isNone
    | .fault => true
    | _ => false)

/-- The move record after a change of its drive station (R91) or a reset (R113), keeping a tag. -/
def MoveRecord.fresh (tag : Tag) : MoveRecord :=
  { state := .idle, tag := tag, goal := none, leg := none, deferred := none, resendUsed := false,
    lastActual := none, flagMoving := false, flagAtLimit := false, tracking := .search,
    trackWindow := none, manual := false, limited := false, cause := .none, acceptTimer := none,
    moveTimer := none }

/-! ### Codes of the other blocks -/

/-- The regulator states as REGULATOR READ codes them (R144). -/
def RegState.code : RegState → Nat
  | .idle => 0
  | .follow => 1
  | .settle => 2
  | .measure => 3
  | .hold => 4
  | .trialMove => 5
  | .trialSettle => 6
  | .trialMeasure => 7
  | .revert => 8
  | .paused => 9
  | .safe => 10

/-- The cycle states (R114). -/
def RegState.isCycle : RegState → Bool
  | .idle => false
  | .paused => false
  | .safe => false
  | _ => true

/-- The SAFE causes as codes (R144, R171). -/
def SafeCause.code : SafeCause → Nat
  | .guard => 1
  | .ownerLoss => 2

/-- The SAFE cause code, 0 when there is none (R144). -/
def safeCauseCode : Option SafeCause → Nat
  | none => 0
  | some c => c.code

/-- The Window in use as a code (R144). -/
def windowCode : Option WindowId → Nat
  | none => 0
  | some .a => 1
  | some .b => 2

/-- The outcomes as codes (R144). -/
def WindowOutcome.code : WindowOutcome → Nat
  | .good => 0
  | .highLoss => 1
  | .highTailings => 2
  | .both => 3
  | .void => 4

/-- The outcomes that open the way to a trial (R126). -/
def WindowOutcome.isHigh : WindowOutcome → Bool
  | .highLoss => true
  | .highTailings => true
  | .both => true
  | _ => false

/-- The step's condition matches the baseline outcome (R128 test 2). -/
def StepCondition.covers : StepCondition → WindowOutcome → Bool
  | .loss, .highLoss => true
  | .loss, .both => true
  | .tailings, .highTailings => true
  | .tailings, .both => true
  | .any, _ => true
  | _, _ => false

/-- The action codes, which are the order of severity (R153). -/
def Action.code : Action → Nat
  | .noticeOnly => 0
  | .pause => 1
  | .openConcave => 2
  | .safeSet => 3

/-- The action of a code (R154). -/
def Action.ofCode : Nat → Option Action
  | 0 => some .noticeOnly
  | 1 => some .pause
  | 2 => some .openConcave
  | 3 => some .safeSet
  | _ => none

/-- The more severe of two actions (R161). -/
def Action.worse (a b : Action) : Action := if a.code < b.code then b else a

/-- The states of a guard as GUARD PEEK codes them (R167). -/
def GuardState.code : GuardState → Nat
  | .idle => 0
  | .pending => 1
  | .acting => 2

/-- The sources that receive events: LOSS_ALARM, LINK_FAULT and OPERATOR (R146). -/
def isEventSource (n : Fin 12) : Bool := n == 5 || n == 10 || n == 11

/-- The part states as the picture codes them (R198). -/
def PartState.code : PartState → Nat
  | .awaitParam => 0
  | .awaitLayout => 1
  | .checking => 2
  | .ready => 3
  | .regulating => 4

/-- The codes of the notice kinds (R194). -/
def NoticeKind.code : NoticeKind → Nat
  | .guardActing => 0
  | .guardReleased => 1
  | .safeEntered => 2
  | .safeLeft => 3
  | .driveFault => 4
  | .moveLimited => 5
  | .manualOn => 6
  | .manualOff => 7
  | .channelLost => 8
  | .channelLocked => 9
  | .rangeError => 10
  | .sensorFault => 11
  | .classAdopted => 12
  | .trialKept => 13
  | .trialReverted => 14
  | .planExhausted => 15
  | .bankSwitched => 16
  | .stationClash => 17
  | .linkFault => 18
  | .beatExpired => 19
  | .layoutConflict => 20
  | .checkPassed => 21
  | .storeFault => 22

/-- The bit of the class of a kind in the notice class enables (R185 item 42, R194):
0 GUARD, 1 DRIVE, 2 CHANNEL, 3 REGULATION, 4 LINK. -/
def NoticeKind.classBit (k : NoticeKind) : Nat :=
  if k.code < 4 then 0 else if k.code < 8 then 1 else if k.code < 12 then 2
  else if k.code < 17 then 3 else 4

end Sys2Proof.Machine
end

