-- ==== Sys2Proof/Machine/Flags.lean ====
section
/-! DEFINITION. The flag bytes: how the flags of each record are packed into the bytes of replies and
pictures, and how the Flags and Mask bytes of requests are read. -/

namespace Sys2Proof.Machine

/-- Bits at or above `k` of a byte are all 0. -/
def highBitsClear (k : Nat) (b : Byte) : Bool := decide (b.toNat < 2 ^ k)

/-- Flags of a channel definition: bit 0 Enabled, bit 1 Mirror, bit 2 Required (R43). -/
def channelFlags (d : ChannelDef) : Byte := packBits [d.enabled, d.mirror, d.required]

/-- Marks of a channel runtime record (R43); bit 7 is the gate. -/
def channelMarks (r : ChannelRt) (gate : Bool) : Byte :=
  packBits [r.oneMissedLatch, r.twoMissedLatch, r.rangeLatch, r.faultLatch, r.lastValue.isSome,
    r.lastTime.isSome, r.interrupted, gate]

/-- Flags of an axis: bit 0 Frozen, bit 1 Axis value present (R64). -/
def axisFlags (a : AxisState) : Byte := packBits [a.frozen, a.value.isSome]

/-- The frozen mask: 1 moisture, 2 feed, 4 slope, 8 side (R63, R198). -/
def frozenMask (f : PerAxis Bool) : Byte := packBits [f.moisture, f.feed, f.slope, f.side]

/-- Cell Flags: written, trial permission, own Llim, own Tlim, trim record present (R82). -/
def cellFlags : Option CellRecord → Byte
  | none => 0#8
  | some c => packBits [true, c.trialPermission, c.ownLlim.isSome, c.ownTlim.isSome, c.trim.isSome]

/-- Flags of a move record in MOVE READ (R112). -/
def moveFlags (r : MoveRecord) (held : Bool) : Byte :=
  packBits [r.goal.isSome, r.deferred.isSome, r.resendUsed, r.lastActual.isSome, r.manual, r.limited,
    (match r.goal with | some g => decide (g.source = GoalSource.guard) | none => false), held]

/-- Drive flags in MOVE READ: Moving, At limit, leg target present (R112). -/
def driveFlags (r : MoveRecord) : Byte := packBits [r.flagMoving, r.flagAtLimit, r.leg.isSome]

/-- One byte of the picture's moves: state, manual, last actual present, limited (R198, bytes 37 to 41). -/
def pictureMoveByte (m : PictureMove) : Byte :=
  byteOf m.state.code ||| (packBits [m.manual, m.actual.isSome, m.limited] <<< 2)

/-- Flags of REGULATOR READ; bits 6..4 are the VOID cause of the last result (R144). -/
def regulatorFlags (r : Regulator) : Byte :=
  packBits [r.exhausted, r.baseline.isSome, r.trial.isSome, r.last.isSome] |||
    (byteOf (match r.last with | some w => w.voidCause | none => 0) <<< 4)

/-- Flags of one guard in GUARD PEEK (R167); bit 5 tells whether its slip dwell runs. -/
def guardFlags (g : Guard) (slip : Bool) : Byte :=
  packBits [g.config.masked, g.config.edge, g.config.auto, g.condition, g.armed, slip]

/-- The present mask of the substitute set: bit n set when the value of setting n is present (R171, R178). -/
def presentMask (v : PerSetting (Option Word16)) : Byte := packBits (v.toList.map Option.isSome)

/-- Flags of SUBSTITUTE READ (R178): Loaded, heartbeat RUNNING, SAFE_OUT active, and the SAFE cause in bits 4..3. -/
def substituteFlags (loaded running safeOut : Bool) (cause : Option SafeCause) : Byte :=
  packBits [loaded, running, safeOut] ||| (byteOf (safeCauseCode cause) <<< 3)

/-- Flags of BANK READ: bit 0 active, bit 1 valid (R83). -/
def bankFlags (active valid : Bool) : Byte := packBits [active, valid]

/-- The groups a Mask selects: bit 0 THRESH, bit 1 CLEAN; a Mask of 0 selects both (R107). -/
def groupsOfMask (mask : Byte) : Bool × Bool :=
  if mask = 0#8 then (true, true) else (mask.getLsbD 0, mask.getLsbD 1)

end Sys2Proof.Machine
end

