-- ==== Sys2Proof/Machine/Picture.lean ====
section
/-! DEFINITION. The operating picture: how it is composed from the blocks and laid out in 63 bytes (R198). -/

namespace Sys2Proof.Machine

/-- Notices held by the ring: the write point less the read point, modulo 32 (R195). -/
def NoticeUnit.held (n : NoticeUnit) : Nat := (n.writePoint - n.readPoint).toNat

/-- The bank with a name (R68). -/
def SettingMap.bank (m : SettingMap) : BankId → Bank
  | .a => m.bankA
  | .b => m.bankB

/-- What a picture shows of a move record (R198). -/
def pictureMove (r : MoveRecord) : PictureMove := ⟨r.lastActual, r.state, r.manual, r.limited⟩

/-- The lock state of every channel entry (R29, R34). -/
def ChannelUnit.locks (u : ChannelUnit) : Table Lock 24 := u.entries.map (fun c => c.rt.lock)

/-- A picture composed from the blocks as they stand (R198 step 2), the lock states of the channel entries with
them (R34). That the picture holds those beside its 63 bytes, which have no field for them, is the model's choice
(log 33). -/
def composePicture (sequence : Word16) (time : Word32) (partState : PartState) (c : Classifier)
    (m : SettingMap) (v : MoveUnit) (r : Regulator) (g : Arbiter) (n : NoticeUnit) (u : ChannelUnit) :
    Picture :=
  { sequence := sequence
    time := time
    partState := partState
    regState := r.state
    safeCause := r.safeCause
    window := r.window.map Prod.fst
    adopted := c.adopted
    frozen := PerAxis.tabulate (fun a => (c.axes.get a).frozen)
    activeBank := m.active
    label := (m.bank m.active).label
    targets := r.targets
    moves := PerSetting.tabulate (fun st => pictureMove (v.records.get st))
    heldThresh := v.heldThresh
    heldClean := v.heldClean
    last := r.last
    cursor := r.cursor
    stack := g.stack
    effective := g.effective
    noticesQueued := n.held
    lostNotices := n.lost
    locks := u.locks }

/-- The acting stack in eight bytes: source numbers, bottom first, 255 past the depth (R167, R198). -/
def stackBytes (stack : List (Fin 12)) : List Byte :=
  ((stack.map (fun n => byteOf n.val)) ++ List.replicate 8 255#8).take 8

/-- An optional figure as two bytes, 0 when absent. -/
def optional16 (o : Option Word16) : List Byte := le16 (o.getD 0#16)

/-- The 63 bytes of a picture (R198). -/
def Picture.bytes (p : Picture) : List Byte :=
  le16 p.sequence ++ le32 p.time ++
  [byteOf p.partState.code, byteOf (p.regState.code + 16 * safeCauseCode p.safeCause),
   byteOf (windowCode p.window)] ++
  [byteOf p.adopted.moisture, byteOf p.adopted.feed, byteOf p.adopted.slope, byteOf p.adopted.side] ++
  [frozenMask p.frozen, byteOf p.activeBank.num] ++ le16 p.label ++
  (p.targets.toList.map optional16).flatten ++
  (p.moves.toList.map (fun m => optional16 m.actual)).flatten ++
  p.moves.toList.map pictureMoveByte ++
  [packBits [p.heldThresh, p.heldClean]] ++
  (match p.last with
   | some w => le16 w.l ++ le16 w.t ++ le16 w.s ++ [byteOf w.outcome.code]
   | none => [0#8, 0#8, 0#8, 0#8, 0#8, 0#8, 255#8]) ++
  [byteOf p.cursor] ++ stackBytes p.stack ++
  [byteOf p.effective.code, byteOf p.noticesQueued] ++ le16 p.lostNotices

/-- The bytes of part 0, 1 or 2 of a PICTURE READ: bytes 0–20, 21–41 and 42–62 (R198). -/
def Picture.part (p : Picture) (k : Nat) : List Byte := (p.bytes.drop (21 * k)).take 21

end Sys2Proof.Machine
end

