-- ==== Sys2Proof/Machine/Defaults.lean ====
section
/-! DEFINITION. The after-reset value of every block, from the "After Reset" section of each chapter. -/

namespace Sys2Proof.Machine

/-- The default channel definition (R25). -/
def defaultChannel : ChannelDef :=
  { enabled := false, station := 0#8, sub := 0#2, role := .none, gain := 256#16, offset := 0#16,
    plausibleMin := BitVec.ofInt 16 (-32768), plausibleMax := 32767#16, period := 0#8, mirror := true,
    required := false }

/-- A runtime record in SEARCH with everything clear (R45, R47, R48). -/
def freshRuntime (interrupted : Bool) : ChannelRt :=
  { lock := .search, window := none, oneMissedLatch := false, twoMissedLatch := false,
    rangeLatch := false, faultLatch := false, rangeCount := 0#8, lastValue := none, lastTime := none,
    sum := 0#32, count := 0#16, interrupted := interrupted }

/-- The default thresholds of an axis (R49). -/
def defaultThresholds : Axis → List Int
  | .moisture => [150, 190, 240]
  | .feed => [10, 40, 70, 100, 140]
  | .slope => [-120, -40, 40, 120]
  | .side => [-120, -40, 40, 120]

/-- The default definition of an axis (R49). -/
def defaultAxis (a : Axis) : AxisDef :=
  { thresholds := (defaultThresholds a).map (BitVec.ofInt 16)
    hysteresis := match a with
      | .moisture => 5#16
      | .feed => 4#16
      | .slope => 10#16
      | .side => 10#16
    defaultBand := match a with
      | .moisture => 1
      | .feed => 2
      | .slope => 2
      | .side => 2 }

/-- A side-trim entry of zero (R71). -/
def zeroSideTrim : SideTrim := ⟨0#16, 0#16⟩

/-- A bank as BANK CLEAR leaves it (R84). -/
def blankBank : Bank :=
  { label := 0#16, llim := 150#16, tlim := 300#16, cells := Table.fill 120 none, plan := [],
    sideTrims := ⟨zeroSideTrim, zeroSideTrim, zeroSideTrim, zeroSideTrim, zeroSideTrim⟩ }

/-- The default configuration of a guard (R153). -/
def defaultGuard (n : Nat) : GuardConfig :=
  { priority := n % 8, masked := false, edge := n == 5 || n == 10 || n == 11, action := .noticeOnly,
    auto := false, clearDwell := 20#8 }

/-- The default roster entry (R89). -/
def defaultRosterEntry : RosterEntry := ⟨none, 20#8⟩

/-- An empty substitute set (R169). -/
def emptySubstitute : Substitute := ⟨PerSetting.fill none, false⟩

/-- The configuration a blank or failed store gives: every part at its default (R202). -/
def defaultImage : Image :=
  { params := defaultParams
    roster := PerSetting.fill defaultRosterEntry
    channels := Table.fill 24 defaultChannel
    axes := PerAxis.tabulate defaultAxis
    bankA := blankBank
    bankB := blankBank
    active := .a
    substitute := emptySubstitute
    guards := Table.imap (fun k _ => defaultGuard k) (Table.fill 12 (defaultGuard 0)) }

/-- The check of an image: computed as the frame Check of R4, over the image bytes in store order (R202). -/
def imageCheck (i : Image) : Word16 := crc16 (imageBytes i)

/-- An image written whole, with its check (R203). -/
def Store.written (i : Image) : Store := ⟨.image i, imageCheck i⟩

/-- The store as delivered: the erased value 255 in every location, those of the check included (R202). -/
def Store.delivered : Store := ⟨.erased, 0xFFFF#16⟩

/-- The condition in which a reset finds the store (R202): the stored check against the check computed over
the image. A partly overwritten image has a check that fails (R203). -/
def Store.found (x : Store) : StoreCondition :=
  match x.content with
  | .erased => if x.check = 0xFFFF#16 then .blank else .failed
  | .image i => if x.check = imageCheck i then .valid i else .failed
  | .torn => .failed

/-- The configuration a reset loads (R202): the image when it is valid, otherwise the defaults. -/
def Store.loaded (x : Store) : Image :=
  match x.found with
  | .valid image => image
  | .blank => defaultImage
  | .failed => defaultImage

/-- The store holds a valid image: what the image-held flag becomes at reset (R202). -/
def Store.holdsImage (x : Store) : Bool :=
  match x.found with
  | .valid _ => true
  | .blank => false
  | .failed => false

/-- One port after reset (R24). -/
def resetPort : PortState :=
  { queue := [], tx := .idle, good := 0#16, checkErrors := 0#16, filtered := 0#16,
    forwardDrops := 0#16, collisionDrops := 0#16 }

/-- The frame path after reset (R24). -/
def resetLink : Link := ⟨Table.fill 63 .unknown, ⟨resetPort, resetPort⟩⟩

/-- The channel unit after reset (R48). -/
def resetChannels (i : Image) : ChannelUnit :=
  { entries := Table.map (fun d => ⟨d, freshRuntime false⟩) i.channels, gate := false, lostIndicator := false }

/-- The classifier after reset (R65). -/
def resetClassifier (i : Image) : Classifier :=
  { axes := PerAxis.tabulate (fun a =>
      { defn := i.axes.get a, frozen := true, value := none, candidate := (i.axes.get a).defaultBand })
    adopted := PerAxis.tabulate (fun a => (i.axes.get a).defaultBand)
    adoptedAt := 0#32
    dwell := none }

/-- The setting map after reset (R88). -/
def resetMap (i : Image) : SettingMap := ⟨i.bankA, i.bankB, i.active⟩

/-- The move unit after reset (R113). -/
def resetMoves (i : Image) : MoveUnit :=
  { roster := i.roster, records := PerSetting.fill (MoveRecord.fresh 0#4), stale := PerSetting.fill 0#16,
    unmatched := 0#16, heldThresh := false, heldClean := false, driveFault := false }

/-- The regulator after reset (R145). -/
def resetRegulator : Regulator :=
  { state := .idle, safeCause := none, window := none, targets := PerSetting.fill none, cursor := 0,
    exhausted := false, baseline := none, trial := none, last := none }

/-- A guard's runtime after reset (R168). -/
def resetGuard (c : GuardConfig) : Guard := ⟨c, .idle, false, true, none⟩

/-- The guard arbiter after reset (R168). -/
def resetGuards (i : Image) : Arbiter :=
  { table := Table.map resetGuard i.guards, floor := 8, stack := [], effective := .noticeOnly,
    slipDrum := none, slipFan := none, kept := ⟨none, none, none, none, none, none⟩, examineDue := .no }

/-- The safe set and heartbeat after reset (R179). -/
def resetSafe (i : Image) : SafeBlock := ⟨i.substitute, false, 0#16⟩

/-- The management unit after reset (R193). -/
def resetMgmt (i : Image) (imageHeld : Bool) : Mgmt :=
  { partState := .awaitParam, owner := none, params := i.params, pendingParams := i.params,
    checking := none, saving := none, reading := none, waiting := [], outstanding := ⟨none, none⟩,
    restartDue := false, imageHeld := imageHeld, inbox := [] }

/-- The notice unit after reset (R201). DESIGN CHOICE (log 21): a slot never written is `none`. -/
def resetNotices : NoticeUnit := ⟨Table.fill 32 none, 0#5, 0#5, 0#16⟩

/-- The picture of buffer 0 after reset (R201). -/
def resetPicture (i : Image) : Picture :=
  composePicture 0#16 0#32 .awaitParam (resetClassifier i) (resetMap i) (resetMoves i) resetRegulator
    (resetGuards i) resetNotices (resetChannels i)

/-- The picture unit after reset (R201). DESIGN CHOICE (log 20): the F buffers hold the same picture. -/
def resetPictures (i : Image) : PictureUnit :=
  { seq := 0#16
    buffers := (Table.fill 3 ⟨.f, resetPicture i⟩).set 0 ⟨.u, resetPicture i⟩ }

end Sys2Proof.Machine
end

