-- ==== Sys2Proof/Machine/State.lean ====
section
/-! DEFINITION. The state of the part, the reasons a step can stop, and the state after reset. -/

namespace Sys2Proof.Machine

/-- The state: the twelve blocks, the lines, part time, the store, a keep on its way, and the model's own
two fields, `order` and `pending`. -/
structure State where
  /-- Part time (00_scope.md, Terms). -/
  partTime : Word32
  /-- The discrete lines and the straps as last read. -/
  pins : Pins
  /-- Link ports and frame path (file 01). -/
  link : Link
  /-- Channel unit (file 02). -/
  channels : ChannelUnit
  /-- Classifier (file 03). -/
  classifier : Classifier
  /-- Setting map (file 04). -/
  map : SettingMap
  /-- Move unit (file 05). -/
  moves : MoveUnit
  /-- Regulator (file 06). -/
  regulator : Regulator
  /-- Guard arbiter (file 07). -/
  guards : Arbiter
  /-- Safe set and heartbeat (file 08). -/
  safe : SafeBlock
  /-- Management unit (file 09). -/
  mgmt : Mgmt
  /-- Notice unit (file 10). -/
  notices : NoticeUnit
  /-- Picture unit (file 10). -/
  pictures : PictureUnit
  /-- Store (file 11). -/
  store : Store
  /-- A keep the regulator has handed on and the setting map has not yet taken (R75; log 37). -/
  keep : Option Keep
  /-- The model's own: choices for the handings whose order the spec leaves open (log 4). -/
  order : List Nat
  /-- The model's own: the commands that wait, first in, first out. -/
  pending : List Instr
deriving DecidableEq, Repr

/-- The part has no fault: no rule stops it (INVENTORY.md, Faults). Nothing raises one. -/
inductive Fault : Type
deriving DecidableEq, Repr

/-- A command without a meaning. -/
inductive Refusal where
  /-- Raised by an arm of `exec` whose command has no meaning yet; safe, since nothing is claimed of it.
  No arm does: every command has its meaning. -/
  | notModelled (mnemonic : String)
deriving DecidableEq, Repr

/-- Right after a power-on reset (R204), with every block as its "After Reset" section says.
DESIGN CHOICE (log 15): the store is blank as delivered from the factory, and the straps read 0.
DESIGN CHOICE (log 4): `order` is empty. DESIGN CHOICE (log 26): the machine lines are not yet judged. -/
def State.reset : State :=
  { partTime := 0#32
    pins := { straps := 0#3, inReset := false, hdrDown := none, sepOn := none, safeOut := false, attn := false }
    link := resetLink
    channels := resetChannels defaultImage
    classifier := resetClassifier defaultImage
    map := resetMap defaultImage
    moves := resetMoves defaultImage
    regulator := resetRegulator
    guards := resetGuards defaultImage
    safe := resetSafe defaultImage
    mgmt := resetMgmt defaultImage false
    notices := resetNotices
    pictures := resetPictures defaultImage
    store := .delivered
    keep := none
    order := []
    pending := [] }

/-! ### One block replaced

Every operation changes the state through these. -/

namespace State

/-- The state with its `partTime` replaced. -/
def withPartTime (s : State) (x : Word32) : State := { s with partTime := x }

/-- The state with its `pins` replaced. -/
def withPins (s : State) (x : Pins) : State := { s with pins := x }

/-- The state with its `link` replaced. -/
def withLink (s : State) (x : Link) : State := { s with link := x }

/-- The state with its `channels` replaced. -/
def withChannels (s : State) (x : ChannelUnit) : State := { s with channels := x }

/-- The state with its `classifier` replaced. -/
def withClassifier (s : State) (x : Classifier) : State := { s with classifier := x }

/-- The state with its `map` replaced. -/
def withMap (s : State) (x : SettingMap) : State := { s with map := x }

/-- The state with its `moves` replaced. -/
def withMoves (s : State) (x : MoveUnit) : State := { s with moves := x }

/-- The state with its `regulator` replaced. -/
def withRegulator (s : State) (x : Regulator) : State := { s with regulator := x }

/-- The state with its `guards` replaced. -/
def withGuards (s : State) (x : Arbiter) : State := { s with guards := x }

/-- The state with its `safe` replaced. -/
def withSafe (s : State) (x : SafeBlock) : State := { s with safe := x }

/-- The state with its `mgmt` replaced. -/
def withMgmt (s : State) (x : Mgmt) : State := { s with mgmt := x }

/-- The state with its `notices` replaced. -/
def withNotices (s : State) (x : NoticeUnit) : State := { s with notices := x }

/-- The state with its `pictures` replaced. -/
def withPictures (s : State) (x : PictureUnit) : State := { s with pictures := x }

/-- The state with its `store` replaced. -/
def withStore (s : State) (x : Store) : State := { s with store := x }

/-- The state with its `keep` replaced. -/
def withKeep (s : State) (x : Option Keep) : State := { s with keep := x }

/-- The state with its `order` replaced. -/
def withOrder (s : State) (x : List Nat) : State := { s with order := x }

/-- The state with its `pending` replaced. -/
def withPending (s : State) (x : List Instr) : State := { s with pending := x }

end State

end Sys2Proof.Machine
end

