-- ==== Sys2Proof/Machine/Ops.lean ====
section
/-! DEFINITION. The shared operations: the order of handings, the transmit queues, notices, pictures
and replies. -/

namespace Sys2Proof.Machine

/-- What `exec` and `step` answer. -/
abbrev Outcome := Host.Outcome State Fault Refusal

/-- A handing: what the receiving block does with an event, carried out whole. -/
abbrev Handing := State → State

/-- The effect of a command while the part works. While RESET is driven active the part does not
work, and a command has no effect (R204; log 16). -/
def live (f : State → State) (s : State) : Outcome :=
  .next (if s.pins.inReset then s else f s)

/-! ### Handings that are not ordered between them -/

/-- Chains merged into one list, each chain keeping its own order; the choices say which chain goes
next. The first argument bounds the number of elements. -/
def mergeChains {α : Type} : Nat → List Nat → List (List α) → List α × List Nat
  | 0, cs, _ => ([], cs)
  | n + 1, cs, chains =>
    match chains.filter (fun c => !c.isEmpty) with
    | [] => ([], cs)
    | [c] => (c, cs)
    | several =>
      let k := cs.headD 0 % several.length
      match several[k]? with
      | some (x :: rest) =>
        let m := mergeChains n cs.tail (several.set k rest)
        (x :: m.1, m.2)
      | _ => ([], cs)

/-- Handings in the order the state's `order` field picks: each chain in its own order, the chains
not ordered between them (R38, R63, R109, R125, R136, R161, R171, R177, R183, R194; log 4). -/
def interleave (chains : List (List Handing)) (s : State) : State :=
  let m := mergeChains chains.flatten.length s.order chains
  m.1.foldl (fun t h => h t) (s.withOrder m.2)

/-! ### Link ports -/

/-- The regulator's own station number: 48 plus the straps (R1). -/
def State.ownStation (s : State) : Byte := 48#8 + s.pins.straps.setWidth 8

/-- The backoff of both ports, in ms: 1 plus the own station number modulo 8 (R1, R21). -/
def State.backoffMs (s : State) : Nat := 1 + s.ownStation.toNat % 8

/-- One port. -/
def State.port (s : State) (p : Port) : PortState := s.link.ports.get p

/-- One port changed. -/
def updPort (p : Port) (f : PortState → PortState) (s : State) : State :=
  s.withLink { s.link with ports := s.link.ports.set p (f (s.link.ports.get p)) }

/-- The side table entry of a station (R9). -/
def State.sideOf (s : State) (station : Byte) : Side := (s.link.side.get? station.toNat).getD .unknown

/-- The port a part frame for a station is queued on (R16). -/
def State.portFor (s : State) (station : Byte) : Port := (s.sideOf station).port

/-- The entry holds a frame the regulator originated (R14). -/
def Entry.isPart (e : Entry) : Bool := decide (e.cls = .part)

/-- The new frame takes the place of the old one: a SET for the same setting, an IDENT_ASK, an ATTENTION (R18). -/
def replaces (new old : Frame) : Bool :=
  match new.kind, old.kind with
  | .set, .set => decide (new.payload.head? = old.payload.head?)
  | .identAsk, .identAsk => true
  | .attention, .attention => true
  | _, _ => false

/-- The position of the queued PART frame a new part frame replaces, if there is one (R18). -/
def PortState.replaced (ps : PortState) (f : Frame) : Option Nat :=
  ps.queue.findIdx? (fun e => e.isPart && replaces f e.frame)

/-- A part frame joins a queue, or replaces an earlier one of its sort (R15, R18). -/
def PortState.joinPart (ps : PortState) (f : Frame) : PortState :=
  match ps.replaced f with
  | none => { ps with queue := ps.queue ++ [⟨.part, f, none⟩] }
  | some i =>
    match ps.tx with
    | .idle => { ps with queue := ps.queue.set i ⟨.part, f, none⟩ }
    | .active .sending j n =>
      if i = j then { ps with queue := ps.queue.modify i (fun e => { e with held := some f }) }
      else { ps with queue := ps.queue.set i ⟨.part, f, none⟩, tx := .active .sending j n }
    | .active .backoff j n =>
      { ps with
        queue := ps.queue.set i ⟨.part, f, none⟩
        tx := .active .backoff j (if i = j then 0 else n) }

/-- How many FORWARD frames a queue holds (R15, R17). -/
def PortState.forwardCount (ps : PortState) : Nat := (ps.queue.filter (fun e => !e.isPart)).length

/-- A frame to be forwarded joins the queue, or is dropped and counted (R17). -/
def PortState.joinForward (ps : PortState) (f : Frame) : PortState :=
  if ps.forwardCount < Config.forwardLimit then { ps with queue := ps.queue ++ [⟨.forward, f, none⟩] }
  else { ps with forwardDrops := satInc16 ps.forwardDrops }

/-- The queue holds a REPLY of the part that has not yet left (R13, R19; log 10). -/
def PortState.hasReply (ps : PortState) : Bool :=
  ps.queue.any (fun e => e.isPart && decide (e.frame.kind = .reply))

/-- A part frame queued on the port its destination was last heard on (R16). -/
def queuePart (f : Frame) (s : State) : State := updPort (s.portFor f.dest) (·.joinPart f) s

/-! ### Notices -/

/-- The level of ATTN judged again: active while attention enable is on and the queue is not empty (R197). -/
def judgeAttn (s : State) : State :=
  s.withPins { s.pins with attn := s.mgmt.params.attentionEnable && decide (s.notices.held ≠ 0) }

/-- A notice written at the write point, which advances by one slot modulo 32 (R195). -/
def NoticeUnit.join (n : NoticeUnit) (x : Notice) : NoticeUnit :=
  { n with slots := n.slots.put n.writePoint.toNat (some x), writePoint := n.writePoint + 1#5 }

/-- An ATTENTION frame to the owner, if attention enable is on and an owner is present (R197). -/
def sendAttention (s : State) : State :=
  match s.mgmt.params.attentionEnable, s.mgmt.owner with
  | true, some o => queuePart (Frame.make o s.ownStation .attention 0#4 [byteOf s.notices.held]) s
  | _, _ => s

/-- The notice unit takes a notice: it is judged against the class enables, then queued, or dropped
and counted as lost; ATTN is judged, and a notice joining an empty queue brings an ATTENTION (R195, R197). -/
def raiseNotice (kind : NoticeKind) (subject : Nat) (detail : Word16) (s : State) : State :=
  if s.mgmt.params.classEnables.testBit kind.classBit then
    if s.notices.held = Config.noticeLimit then
      s.withNotices { s.notices with lost := satInc16 s.notices.lost }
    else
      let s1 := judgeAttn (s.withNotices (s.notices.join ⟨kind, s.partTime, byteOf subject, detail⟩))
      if s.notices.held = 0 then sendAttention s1 else s1
  else s

/-! ### Pictures -/

/-- The picture of the present state with the next sequence number (R198 steps 1 and 2). -/
def State.nextPicture (s : State) : Picture :=
  composePicture (s.pictures.seq + 1#16) s.partTime s.mgmt.partState s.classifier s.map s.moves
    s.regulator s.guards s.notices s.channels

/-- The F buffer written next: the lower-numbered one (R198 step 3). -/
def PictureUnit.freeBuffer (u : PictureUnit) : Option (Fin 3) :=
  if (u.buffers.get 0).role = .f then some 0
  else if (u.buffers.get 1).role = .f then some 1
  else if (u.buffers.get 2).role = .f then some 2
  else none

/-- A previous N becomes F (R198 step 4). -/
def Buffer.freed (b : Buffer) : Buffer := if b.role = .n then { b with role := .f } else b

/-- A picture published (R198): the sequence number advances, the picture goes into an F buffer,
that buffer becomes N, and a previous N becomes F. -/
def PictureUnit.publish (u : PictureUnit) (p : Picture) : PictureUnit :=
  { seq := u.seq + 1#16
    buffers :=
      match u.freeBuffer with
      | some k => (u.buffers.map Buffer.freed).set k ⟨.n, p⟩
      | none => u.buffers }

/-- The picture unit takes an event and publishes a picture (R198). -/
def publish (s : State) : State := s.withPictures (s.pictures.publish s.nextPicture)

/-! ### Replies -/

/-- The REPLY frame of a ready reply (R5, R6). -/
def Reply.frame (own : Byte) (r : Reply) : Frame :=
  Frame.make r.asker.station own .reply r.asker.tag
    ([r.code, byteOf r.result.code, byteOf (r.part + if r.more then 128 else 0)] ++ r.fields)

/-- The first waiting reply for a port leaves the list of waiting replies (R184). -/
def takeWaiting (s : State) (p : Port) : Option Reply :=
  s.mgmt.waiting.find? (fun r => decide (s.portFor r.asker.station = p))

/-- A waiting reply can be handed to a port: the port's queue holds no REPLY, and one waits for it (R19). -/
def State.canHandOver (s : State) (p : Port) : Bool :=
  !(s.port p).hasReply && (takeWaiting s p).isSome

/-- The oldest reply waiting for a port is handed to it, while its queue holds no other REPLY (R19, R184). -/
def handOver (p : Port) (s : State) : State :=
  if (s.port p).hasReply || decide (s.guards.examineDue ≠ .no) then s
  else
    match takeWaiting s p with
    | none => s
    | some r =>
      queuePart (r.frame s.ownStation)
        (s.withMgmt { s.mgmt with
          waiting := s.mgmt.waiting.erase r
          outstanding := s.mgmt.outstanding.set p (some r.origin) })

/-- A reply becomes ready: it waits, and is handed to its port at once when that port is free (R19, R184; log 8). -/
def readyReply (r : Reply) (s : State) : State :=
  handOver (s.portFor r.asker.station) (s.withMgmt { s.mgmt with waiting := s.mgmt.waiting ++ [r] })

/-- A single-frame reply to a request (R6, R181). -/
def answer (r : Sender) (code : Nat) (result : Result) (fields : List Byte) (s : State) : State :=
  readyReply { asker := r, code := byteOf code, result := result, part := 0, more := false, fields := fields,
               origin := .plain } s

/-- The bytes of a part of the picture in the U buffer (R198, R199). -/
def State.readingPart (s : State) (k : Nat) : List Byte :=
  match s.pictures.buffers.list.find? (fun b => decide (b.role = .u)) with
  | some b => b.picture.part k
  | none => []

/-- A part of a PICTURE READ as a ready reply (R199). -/
def pictureReply (r : Sender) (k : Nat) (fields : List Byte) : Reply :=
  { asker := r, code := 45#8, result := .done, part := k, more := decide (k < 2), fields := fields, origin := .picture }

/-- The next part of the PICTURE READ becomes ready, or after the third part the read ends (R184, R199). -/
def nextPicturePart (s : State) : State :=
  match s.mgmt.reading with
  | none => s
  | some j =>
    if j.part < 2 then
      s.withMgmt { s.mgmt with
        reading := some { j with part := j.part + 1 }
        waiting := s.mgmt.waiting ++ [pictureReply j.sender (j.part + 1) (s.readingPart (j.part + 1))] }
    else s.withMgmt { s.mgmt with reading := none }

/-- The management unit is told that the REPLY of a port has left its queue, sent or dropped (R22, R24, R199). -/
def replyLeft (p : Port) (s : State) : State :=
  let s1 := s.withMgmt { s.mgmt with outstanding := s.mgmt.outstanding.set p none }
  match s.mgmt.outstanding.get p with
  | some .picture => nextPicturePart s1
  | some .restart => s1.withMgmt { s1.mgmt with restartDue := true }
  | _ => s1

end Sys2Proof.Machine
end

