-- ==== Sys2Proof/Machine/MapOps.lean ====
section
/-! DEFINITION. The setting map: cells, effective targets, limits in force, keeps (R68 to R75). -/

namespace Sys2Proof.Machine

/-- A bank replaced. -/
def SettingMap.withBank (m : SettingMap) (k : BankId) (b : Bank) : SettingMap :=
  match k with
  | .a => { m with bankA := b }
  | .b => { m with bankB := b }

/-- The record of a cell; none while it is unwritten (R69). -/
def Bank.cell (b : Bank) (n : Nat) : Option CellRecord := (b.cells.get? n).getD none

/-- The number of written cells (R73). -/
def Bank.writtenCount (b : Bank) : Nat := (b.cells.list.filter Option.isSome).length

/-- The number of trim records (R83). -/
def Bank.trimCount (b : Bank) : Nat :=
  (b.cells.list.filter (fun c => match c with | some r => r.trim.isSome | none => false)).length

/-- A bank is valid when all 120 of its cells are written (R73). -/
def Bank.valid (b : Bank) : Bool := b.cells.list.all Option.isSome

/-- The active bank (R68). -/
def State.activeBank (s : State) : Bank := s.map.bank s.map.active

/-- The number of the adopted cell (R62). -/
def State.adoptedCell (s : State) : Nat := cellNumber s.classifier.adopted

/-- The present trim offset of a setting: 0 when the record is absent (R73). -/
def CellRecord.trimOffset (c : CellRecord) (st : Setting) : Int :=
  match c.trim with
  | some t => (t.offsets.get st).toInt
  | none => 0

/-- The side trim of a setting: FAN and UPPER have one (R71, R72 step 3). -/
def sideOffset (e : SideTrim) : Setting → Int
  | .fan => e.fan.toInt
  | .upper => e.upper.toInt
  | _ => 0

/-- The exact sum of steps 1 to 3 of R72. -/
def unclampedTarget (b : Bank) (c : CellRecord) (side : Nat) (st : Setting) : Int :=
  (c.targets.get st).toNat + c.trimOffset st + sideOffset (b.sideTrims.get side) st

/-- The effective target of a setting (R72). -/
def effectiveTarget (p : Params) (b : Bank) (c : CellRecord) (side : Nat) (st : Setting) : Word16 :=
  BitVec.ofInt 16 (p.clamp st (unclampedTarget b c side st))

/-- A setting is clamped when step 4 of R72 changed its value. -/
def targetClamped (p : Params) (b : Bank) (c : CellRecord) (side : Nat) (st : Setting) : Bool :=
  decide (p.clamp st (unclampedTarget b c side st) ≠ unclampedTarget b c side st)

/-- The loss limit in force in a cell of a bank (R73). -/
def Bank.lossLimit (b : Bank) (n : Nat) : Nat :=
  match b.cell n with
  | some c => (c.ownLlim.getD b.llim).toNat
  | none => b.llim.toNat

/-- The tailings limit in force in a cell of a bank (R73). -/
def Bank.tailingsLimit (b : Bank) (n : Nat) : Nat :=
  match b.cell n with
  | some c => (c.ownTlim.getD b.tlim).toNat
  | none => b.tlim.toNat

/-- A trim record created by a keep, before its step is added (R74). -/
def emptyTrim : Trim := ⟨PerSetting.fill 0#16, 0⟩

/-- A step added to a trim record, held within the trim bound, and the kept count one up, stopping at 15 (R74). -/
def Trim.add (t : Trim) (bound : Nat) (st : Setting) (amount : Int) : Trim :=
  { offsets := t.offsets.set st
      (BitVec.ofInt 16 (clampInt (-(bound : Int)) bound ((t.offsets.get st).toInt + amount)))
    kept := min (t.kept + 1) 15 }

/-- A written cell with a step kept: its trim record, created if there is none, takes the step (R74). -/
def CellRecord.keep (c : CellRecord) (bound : Nat) (st : Setting) (amount : Int) : CellRecord :=
  { c with trim := some ((c.trim.getD emptyTrim).add bound st amount) }

/-- A keep on a bank (R74): discarded when the cell is unwritten. -/
def Bank.keep (b : Bank) (bound : Nat) (n : Nat) (st : Setting) (amount : Int) : Bank :=
  match b.cell n with
  | none => b
  | some c => { b with cells := b.cells.put n (some (c.keep bound st amount)) }

/-- The map takes a keep naming the bank, the cell, the setting and the step amount (R74). -/
def takeKeep (k : BankId) (n : Nat) (st : Setting) (amount : Int) (s : State) : State :=
  s.withMap (s.map.withBank k ((s.map.bank k).keep (s.mgmt.params.trimBound st) n st amount))

/-- The keep that waits, taken by the map (R75; log 37); nothing when none waits. -/
def takeWaitingKeep (s : State) : State :=
  match s.keep with
  | none => s
  | some k => takeKeep k.bank k.cell k.setting k.amount.toInt (s.withKeep none)

/-- The keep waits in the state's `keep` field, after one that waited there has been taken (log 37). -/
def postponeKeep (k : Keep) (s : State) : State := (takeWaitingKeep s).withKeep (some k)

/-- A keep handed to the map (R131 step 1). R75 lets it come on either side of a request, so a number of the
`order` field says whether the map takes it at once (an even one, or none) or later (log 37). -/
def handKeep (k : Keep) (s : State) : State :=
  let t := s.withOrder s.order.tail
  if s.order.headD 0 % 2 = 0 then
    takeKeep k.bank k.cell k.setting k.amount.toInt (takeWaitingKeep t)
  else postponeKeep k t

/-- A keep that waits names a cell (R74). -/
def Keep.names (k : Keep) (bank : BankId) (n : Nat) : Bool := decide (k.bank = bank) && decide (k.cell = n)

/-- The record of the adopted cell of the active bank, as the regulator works with it: a step whose keep the
map has not yet taken counts (R74: the regulator works out the next target itself from the kept step). -/
def State.cellInUse (s : State) : Option CellRecord :=
  match s.activeBank.cell s.adoptedCell, s.keep with
  | some c, some k =>
    some (if k.names s.map.active s.adoptedCell then c.keep (s.mgmt.params.trimBound k.setting) k.setting k.amount.toInt
      else c)
  | c, _ => c

/-- A cell without its trim record (R69, R87). -/
def dropTrim : Option CellRecord → Option CellRecord
  | some c => some { c with trim := none }
  | none => none

/-- The trim records of one cell, or of every cell, removed from a bank (R87). -/
def Bank.clearTrims (b : Bank) (which : Option Nat) : Bank :=
  { b with cells := b.cells.imap (fun k c => if which = none ∨ which = some k then dropTrim c else c) }

/-- At least one of the named cells of a bank holds a trim record (R87). -/
def Bank.hasTrim (b : Bank) (which : Option Nat) : Bool :=
  b.cells.entries.any (fun e => decide (which = none ∨ which = some e.1) &&
    (match e.2 with | some c => c.trim.isSome | none => false))

/-- The plan step at a position (R70). -/
def Bank.step (b : Bank) (k : Nat) : Option PlanStep := b.plan[k]?

end Sys2Proof.Machine
end

