-- ==== Sys2Proof/Machine/MoveOps.lean ====
section
/-! DEFINITION. The move unit's own operations: giving a goal and issuing a SET (R94 to R96). -/

namespace Sys2Proof.Machine

/-- The move record of a setting (R92). -/
def State.record (s : State) (st : Setting) : MoveRecord := s.moves.records.get st

/-- A move record replaced. -/
def setRecord (st : Setting) (r : MoveRecord) (s : State) : State :=
  s.withMoves { s.moves with records := s.moves.records.set st r }

/-- A setting's group is held (R107). -/
def State.groupHeld (s : State) (st : Setting) : Bool :=
  if st.isThresh then s.moves.heldThresh else s.moves.heldClean

/-- The drive station of a setting (R89). -/
def State.driveStation (s : State) (st : Setting) : Option Byte := (s.moves.roster.get st).station

/-- All five settings are settled (R109). -/
def State.allSettled (s : State) : Bool := Setting.all.all (fun st => (s.record st).settled)

/-- A SET frame for a setting (R5, R6). -/
def setFrame (own drive : Byte) (st : Setting) (target : Word16) (tag : Tag) : Frame :=
  Frame.make drive own .set tag (byteOf st.num :: le16 target)

/-- The record after a SET is issued for its goal (R96 steps 1, 2, 3 and 5). -/
def MoveRecord.issue (r : MoveRecord) (p : Params) (st : Setting) (now : Word32) (goal : Word16) : MoveRecord :=
  { r with
    tag := r.tag + 1#4
    resendUsed := false
    limited := false
    leg := some (legTarget p st goal.toNat r.startValue)
    state := .issued
    moveTimer := none
    acceptTimer := some ⟨now, Config.acceptTicks⟩ }

/-- A SET of a record's leg target queued toward the roster's drive station (R96 step 4, R16, R18). -/
def queueSet (st : Setting) (s : State) : State :=
  match s.driveStation st, (s.record st).leg with
  | some d, some leg => queuePart (setFrame s.ownStation d st leg (s.record st).tag) s
  | _, _ => s

/-- A SET is issued for a record that holds a goal (R96). -/
def issueSet (st : Setting) (s : State) : State :=
  match (s.record st).goal with
  | none => s
  | some g => queueSet st (setRecord st ((s.record st).issue s.mgmt.params st s.partTime g.value) s)

/-- A goal stored with its source; any deferred goal is discarded (R95). -/
def storeGoal (st : Setting) (g : Goal) (s : State) : State :=
  setRecord st { s.record st with goal := some g, deferred := none } s

/-- No SET may be issued: the record is manual or in FAULT, or the setting has no drive station (R95). -/
def State.goalKept (s : State) (st : Setting) : Bool :=
  (s.record st).manual || decide ((s.record st).state = .fault) || (s.driveStation st).isNone

/-- A goal reaches a move record (R95). -/
def giveGoal (st : Setting) (g : Goal) (s : State) : State :=
  if s.goalKept st then storeGoal st g s
  else if g.source = .regulator ∧ s.groupHeld st then
    setRecord st { s.record st with deferred := some g.value } s
  else issueSet st (storeGoal st g s)

/-- A deferred goal passed over the hold by RELEASE ONCE: stored as a REGULATOR goal and issued at
once, or kept by a record that is manual or in FAULT (R108). -/
def issueOverHold (st : Setting) (v : Word16) (s : State) : State :=
  let s1 := storeGoal st ⟨v, .regulator⟩ s
  if s.goalKept st then s1 else issueSet st s1

/-- The SET of the present exchange queued again with the same tag, its leg target clamped again to
the global limits (R99; log 23). -/
def resendSet (st : Setting) (s : State) : State :=
  let r := s.record st
  queueSet st (setRecord st
    { r with
      leg := r.leg.map (fun l => BitVec.ofInt 16 (s.mgmt.params.clamp st l.toNat))
      resendUsed := true
      acceptTimer := some ⟨s.partTime, Config.acceptTicks⟩ } s)

end Sys2Proof.Machine
end

