-- ==== Sys2Proof/Machine/RegulatorOps.lean ====
section
/-! DEFINITION. The regulation cycle: the regulator's states and what it does with each event (Chapter 6). -/

namespace Sys2Proof.Machine

/-! ### The measure window gate and the timers -/

/-- The gate opened (R40): every accumulator and mark cleared, then each enabled measured entry that is LOST is marked. -/
def ChannelUnit.openGate (u : ChannelUnit) : ChannelUnit :=
  { u with
    gate := true
    entries := u.entries.map (fun c =>
      { c with rt := { c.rt with
          sum := 0#32
          count := 0#16
          interrupted := c.defn.enabled && c.defn.role.isMeasured && decide (c.rt.lock = .lost) } }) }

/-- The gate closed (R40): the accumulators and marks keep their contents. -/
def ChannelUnit.closeGate (u : ChannelUnit) : ChannelUnit := { u with gate := false }

/-- A window timer started with a length in 100 ms units (R116). -/
def State.windowTimer (s : State) (w : WindowId) (length : Nat) : Option (WindowId × Timer) :=
  some (w, ⟨s.partTime, tenths length⟩)

/-- The regulator stands aside from what it was doing: the trial record becomes absent, the timers
stop, the gate is closed without a result (R119 steps 2 and 3, R138, R141, R142). -/
def abandonCycle (s : State) : State :=
  (s.withChannels s.channels.closeGate).withRegulator { s.regulator with trial := none, window := none }

/-! ### Entering the states -/

/-- A figure given to the move unit as a REGULATOR goal and set in the target set (R119, R129, R132). -/
def giveTarget (st : Setting) (v : Word16) (s : State) : State :=
  giveGoal st ⟨v, .regulator⟩ (s.withRegulator { s.regulator with targets := s.regulator.targets.set st (some v) })

/-- The effective targets of the adopted cell and side index in the active bank, given from DRUM to
FAN (R119 step 4). With an unwritten cell, which R114 rules out, no figure is given (log 22). -/
def giveTargets (s : State) : State :=
  match s.cellInUse with
  | none => s
  | some c =>
    Setting.all.foldl
      (fun t st => giveTarget st (effectiveTarget s.mgmt.params s.activeBank c s.classifier.adopted.side st) t) s

/-- SETTLE entered: timer A starts with the settle length (R121). -/
def enterSettle (s : State) : State :=
  publish (s.withRegulator { s.regulator with
    state := .settle, window := s.windowTimer .a s.mgmt.params.settleLength })

/-- TRIAL_SETTLE entered: timer A starts with the settle length (R130). -/
def enterTrialSettle (s : State) : State :=
  publish (s.withRegulator { s.regulator with
    state := .trialSettle, window := s.windowTimer .a s.mgmt.params.settleLength })

/-- HOLD entered: timer A starts with the recheck length (R127). -/
def enterHold (s : State) : State :=
  publish (s.withRegulator { s.regulator with
    state := .hold, window := s.windowTimer .a s.mgmt.params.recheckLength })

/-- MEASURE or TRIAL_MEASURE entered: the gate opens and timer B starts with the measure length (R122, R130). -/
def enterMeasure (state : RegState) (s : State) : State :=
  publish ((s.withChannels s.channels.openGate).withRegulator { s.regulator with
    state := state, window := s.windowTimer .b s.mgmt.params.measureLength })

/-- The record on entering FOLLOW: a new episode, or the cursor and the exhausted flag kept (R119 step 1, R137). -/
def Regulator.follow (r : Regulator) (keepEpisode : Bool) : Regulator :=
  { r with
    state := .follow
    cursor := if keepEpisode then r.cursor else 0
    exhausted := if keepEpisode then r.exhausted else false
    baseline := none }

/-- FOLLOW entered (R119), with the settled condition read right after (R120). Whether the picture of the state
change (R143) comes before or after the goals of step 4 is the `order` field's choice (log 4). -/
def enterFollow (keepEpisode : Bool) (s : State) : State :=
  let s1 := abandonCycle s
  let s2 := interleave [[publish], [giveTargets]] (s1.withRegulator (s1.regulator.follow keepEpisode))
  if s2.allSettled then enterSettle s2 else s2

/-- The concave release target given as a GUARD goal (R138, R115). -/
def releaseConcave (s : State) : State :=
  giveGoal .concave ⟨BitVec.ofNat 16 s.mgmt.params.releaseTarget, .guard⟩ s

/-- PAUSED entered (R138, R139). -/
def enterPaused (s : State) : State :=
  let s1 := abandonCycle s
  publish (s1.withRegulator { s1.regulator with state := .paused })

/-- PAUSED entered on OPEN_CONCAVE, with the concave release target (R118, R138). Whether the picture of the
state change (R143) comes before or after the goal is the `order` field's choice (log 4). -/
def enterPausedOpen (s : State) : State :=
  let s1 := abandonCycle s
  interleave [[publish], [releaseConcave]] (s1.withRegulator { s1.regulator with state := .paused })

/-- One present substitute value given as a GUARD goal; an absent one gives none (R171). -/
def giveSubstitute (st : Setting) (s : State) : State :=
  match s.safe.substitute.values.get st with
  | some v => giveGoal st ⟨v, .guard⟩ s
  | none => s

/-- The substitute set given, DRUM to FAN (R171). -/
def giveSubstitutes (s : State) : State := Setting.all.foldl (fun t st => giveSubstitute st t) s

/-- The SAFE_OUT line driven (R173). -/
def driveSafeOut (active : Bool) (s : State) : State := s.withPins { s.pins with safeOut := active }

/-- The notice of an entry to SAFE (R171). -/
def raiseSafeEntered (cause : SafeCause) (s : State) : State :=
  raiseNotice .safeEntered cause.code ((presentMask s.safe.substitute.values).setWidth 16) s

/-- SAFE entered (R171): the substitute goals, the SAFE_OUT line, the notice, and the state change. -/
def enterSafe (cause : SafeCause) (s : State) : State :=
  let s1 := abandonCycle s
  let s2 := s1.withRegulator { s1.regulator with state := .safe, safeCause := some cause }
  interleave [[publish], [giveSubstitutes], [raiseSafeEntered cause]] (driveSafeOut true s2)

/-- SAFE left for another state: the line goes inactive and SAFE_LEFT is raised (R172). Outside SAFE nothing happens. -/
def leaveSafe (next : RegState) (s : State) : State :=
  if s.regulator.state = .safe then
    let s1 := s.withRegulator { s.regulator with state := next, safeCause := none }
    raiseNotice .safeLeft (safeCauseCode s.regulator.safeCause) (BitVec.ofNat 16 next.code) (driveSafeOut false s1)
  else s

/-- The SAFE cause changed without leaving SAFE; the picture unit is handed the change (R118, R142, R143, R172). -/
def changeSafeCause (cause : SafeCause) (s : State) : State :=
  publish (s.withRegulator { s.regulator with safeCause := some cause })

/-! ### Trials -/

/-- The four trial conditions (R126). -/
def State.trialConditions (s : State) : Bool :=
  s.mgmt.params.trialsEnable &&
  (match s.cellInUse with | some c => c.trialPermission | none => false) &&
  !s.moves.heldThresh && !s.moves.heldClean && !s.regulator.exhausted

/-- Tests 2 to 5 of R128 on a step, for a baseline outcome. -/
def State.stepEligible (s : State) (c : CellRecord) (outcome : WindowOutcome) (p : PlanStep) : Bool :=
  let sum := unclampedTarget s.activeBank c s.classifier.adopted.side p.setting + p.amount.toInt
  p.condition.covers outcome &&
  !(s.record p.setting).manual && decide ((s.record p.setting).state ≠ .fault) &&
  decide ((c.trimOffset p.setting + p.amount.toInt).natAbs ≤ s.mgmt.params.trimBound p.setting) &&
  decide ((s.mgmt.params.globalMin p.setting : Int) ≤ sum) &&
  decide (sum ≤ s.mgmt.params.globalMax p.setting)

/-- The first eligible step of a list whose head has position `k`, at or after the cursor (R128). -/
def searchSteps (ok : PlanStep → Bool) (cursor : Nat) : Nat → List PlanStep → Option (Nat × PlanStep)
  | _, [] => none
  | k, p :: ps => if cursor ≤ k ∧ ok p then some (k, p) else searchSteps ok cursor (k + 1) ps

/-- The search of the active bank's plan for an eligible step (R128). -/
def State.searchPlan (s : State) (outcome : WindowOutcome) : Option (Nat × PlanStep) :=
  match s.cellInUse with
  | none => none
  | some c => searchSteps (s.stepEligible c outcome) s.regulator.cursor 0 s.activeBank.plan

/-- The trial target of a step: the unclamped sum plus the step amount (R129). -/
def State.trialTarget (s : State) (p : PlanStep) : Word16 :=
  match s.cellInUse with
  | none => 0#16
  | some c =>
    BitVec.ofInt 16 (unclampedTarget s.activeBank c s.classifier.adopted.side p.setting + p.amount.toInt)

/-- The trial record of a step at a position (R129 step 1). -/
def State.trialOf (s : State) (k : Nat) (p : PlanStep) : Trial :=
  ⟨s.map.active, s.adoptedCell, k, p.setting, p.amount, s.trialTarget p⟩

/-- A trial starts at an eligible step (R129): the trial record, then the goal and the target set, then
TRIAL_MOVE; the setting's settled condition is read right after. -/
def startTrial (k : Nat) (p : PlanStep) (s : State) : State :=
  let t := s.trialOf k p
  let s1 := giveTarget p.setting t.target
    (s.withRegulator { s.regulator with window := none, cursor := k, trial := some t })
  let s2 := publish (s1.withRegulator { s1.regulator with state := .trialMove })
  if (s2.record p.setting).settled then enterTrialSettle s2 else s2

/-- No step is eligible: the cursor becomes the plan length, the exhausted flag is set, PLAN_EXHAUSTED
is raised, and HOLD is entered (R126, R128, R133). -/
def planExhausted (s : State) : State :=
  let s1 := s.withRegulator { s.regulator with cursor := s.activeBank.plan.length, exhausted := true }
  enterHold (raiseNotice .planExhausted s.adoptedCell (BitVec.ofNat 16 s.activeBank.plan.length) s1)

/-- The search from the cursor with the present baseline, and the trial it starts (R126, R131, R132). -/
def tryNextStep (s : State) : State :=
  match s.regulator.baseline with
  | none => enterHold s
  | some b =>
    match s.searchPlan b.outcome with
    | some (k, p) => startTrial k p s
    | none => planExhausted s

/-- The next step if the trial conditions hold, otherwise HOLD with no notice (R131, R132). -/
def tryOrHold (s : State) : State := if s.trialConditions then tryNextStep s else enterHold s

/-- The detail of TRIAL_KEPT and TRIAL_REVERTED: 8 × step position + setting number (R133). -/
def Trial.detail (t : Trial) : Word16 := BitVec.ofNat 16 (8 * t.position + t.setting.num)

/-- The decision after a MEASURE result (R126). -/
def decideMeasure (w : WindowResult) (s : State) : State :=
  if w.outcome.isHigh && s.trialConditions then
    tryNextStep (s.withRegulator { s.regulator with baseline := some w })
  else enterHold s

/-- A trial result improves on the baseline (R131). -/
def improves (w : WindowResult) (baseline : Option WindowResult) (margin : Nat) : Bool :=
  match baseline with
  | some b => decide (w.outcome ≠ .void) && decide (w.s.toNat + margin ≤ b.s.toNat)
  | none => false

/-- An improved trial is kept (R131). -/
def keepTrial (t : Trial) (w : WindowResult) (s : State) : State :=
  let s1 := raiseNotice .trialKept t.cell t.detail (handKeep ⟨t.bank, t.cell, t.setting, t.amount⟩ s)
  let s2 := s1.withRegulator { s1.regulator with
    cursor := t.position + 1, trial := none, baseline := some w }
  if w.outcome = .good then enterHold s2 else tryOrHold s2

/-- A revert has settled: the trial record becomes absent and the episode goes on (R132). -/
def revertSettled (s : State) : State :=
  tryOrHold (s.withRegulator { s.regulator with trial := none })

/-- The effective target of a trial's setting worked out afresh, given as a goal (R132 steps 1 and 2). -/
def giveRevertGoal (st : Setting) (s : State) : State :=
  match s.cellInUse with
  | none => s
  | some c => giveTarget st (effectiveTarget s.mgmt.params s.activeBank c s.classifier.adopted.side st) s

/-- A trial that is not improved is reverted (R132). -/
def revertTrial (t : Trial) (s : State) : State :=
  let s1 := raiseNotice .trialReverted t.cell t.detail (giveRevertGoal t.setting s)
  let s2 := publish (s1.withRegulator { s1.regulator with cursor := t.position + 1, state := .revert })
  if (s2.record t.setting).settled then revertSettled s2 else s2

/-- A TRIAL result is judged against the baseline (R131). Without a trial record, which R114 rules out, HOLD is entered (log 22). -/
def judgeTrial (w : WindowResult) (s : State) : State :=
  match s.regulator.trial with
  | none => enterHold s
  | some t =>
    if improves w s.regulator.baseline s.mgmt.params.gainMargin then keepTrial t w s else revertTrial t s

/-! ### The window result -/

/-- The mean of an entry: sum divided by count, truncated toward zero (R123). -/
def ChannelRt.mean (r : ChannelRt) : Int := Int.tdiv r.sum.toInt r.count.toNat

/-- The enabled entries of the roles a test picks. -/
def ChannelUnit.enabledOf (u : ChannelUnit) (ok : Role → Bool) : List Channel :=
  u.entries.list.filter (fun c => c.defn.enabled && ok c.defn.role)

/-- The VOID cause of a window, 0 when it is not VOID; the first test that holds is recorded (R123). -/
def voidCause (floor : Nat) (grain : Option Channel) (losses : List Channel) : Nat :=
  match grain with
  | none => 1
  | some g =>
    if g.rt.count = 0#16 then 1
    else if g.rt.mean < floor ∨ g.rt.mean ≤ 0 then 2
    else if losses.isEmpty || losses.any (fun c => decide (c.rt.count = 0#16)) then 3
    else if g.rt.interrupted || losses.any (fun c => c.rt.interrupted) then 4
    else 0

/-- The loss sum: the means of all loss entries, and 0 when it is negative (R124). -/
def lossSum (losses : List Channel) : Nat := (losses.map (fun c : Channel => c.rt.mean)).sum.toNat

/-- L: 10000 × loss sum / mean grain flow, saturated (R124). -/
def lossFigure (losses : Nat) (flow : Int) : Nat := saturateU16 (10000 * losses / flow.toNat)

/-- T: the mean of the enabled TAILINGS entry; 0 without one, with a count of 0, or when negative (R124). -/
def tailingsFigure (entry : Option Channel) : Nat :=
  match entry with
  | none => 0
  | some c => if c.rt.count = 0#16 then 0 else c.rt.mean.toNat

/-- S: each figure in thousandths of its limit, truncated, summed and saturated (R124). -/
def scoreFigure (l t lossLimit tailingsLimit : Nat) : Nat :=
  saturateU16 (l * 1000 / lossLimit + t * 1000 / tailingsLimit)

/-- The outcome of a result that is not VOID (R125). -/
def windowOutcome (l t lossLimit tailingsLimit : Nat) : WindowOutcome :=
  if lossLimit < l then (if tailingsLimit < t then .both else .highLoss)
  else if tailingsLimit < t then .highTailings else .good

/-- A VOID result (R123). -/
def voidResult (kind : ResultKind) (cell : Nat) (cause : Nat) (now : Word32) : WindowResult :=
  ⟨kind, cell, .void, cause, 0#16, 0#16, 0#16, now⟩

/-- The window result from the accumulators and marks as they stand (R122 step 2, R123 to R125). -/
def State.windowResult (s : State) (kind : ResultKind) : WindowResult :=
  let grain := (s.channels.enabledOf (fun r => decide (r = .grainFlow))).head?
  let losses := s.channels.enabledOf Role.isLoss
  let cause := voidCause s.mgmt.params.flowFloor grain losses
  match cause, grain with
  | 0, some g =>
    let ll := s.activeBank.lossLimit s.adoptedCell
    let tl := s.activeBank.tailingsLimit s.adoptedCell
    let l := lossFigure (lossSum losses) g.rt.mean
    let t := tailingsFigure (s.channels.enabledOf (fun r => decide (r = .tailings))).head?
    { kind := kind, cell := s.adoptedCell, outcome := windowOutcome l t ll tl, voidCause := 0,
      l := BitVec.ofNat 16 l, t := BitVec.ofNat 16 t,
      s := BitVec.ofNat 16 (scoreFigure l t ll tl), time := s.partTime }
  | _, _ => voidResult kind s.adoptedCell cause s.partTime

/-- The result raises the loss alarm (R125). -/
def State.lossAlarm (s : State) (w : WindowResult) : Bool :=
  decide (w.outcome ≠ .void) &&
  decide (s.mgmt.params.alarmRatio * s.activeBank.lossLimit s.adoptedCell < w.l.toNat * 100)

/-! ### The regulator's events -/

/-- The trial record names this setting. -/
def Regulator.trialOn (r : Regulator) (st : Setting) : Bool :=
  match r.trial with
  | some t => decide (t.setting = st)
  | none => false

/-- A settled event taken by the regulator (R120, R129, R132). Whether all five settings are settled
is judged when the event is taken (R135, R137; log 11). -/
def takeSettled (st : Setting) (s : State) : State :=
  match s.regulator.state with
  | .follow => if s.allSettled then enterSettle s else s
  | .trialMove =>
    if s.regulator.trialOn st && (s.record st).settled then enterTrialSettle s else s
  | .revert =>
    if s.regulator.trialOn st && (s.record st).settled then revertSettled s else s
  | _ => s

/-- The regulator is in a state an exclusion event of the trial's setting ends (R137). -/
def RegState.inTrial : RegState → Bool
  | .trialMove => true
  | .trialSettle => true
  | .trialMeasure => true
  | .revert => true
  | _ => false

/-- An exclusion event taken by the regulator (R137). -/
def takeExclusion (st : Setting) (s : State) : State :=
  match s.regulator.trial with
  | none => s
  | some t =>
    if t.setting = st ∧ s.regulator.state.inTrial then
      enterFollow true (s.withRegulator { s.regulator with cursor := t.position + 1 })
    else s

/-- A retarget event taken by the regulator (R134): a cycle state re-enters FOLLOW. -/
def takeRetarget (s : State) : State :=
  if s.regulator.state.isCycle then enterFollow false s else s

/-- What the regulator does with an effective action on leaving SAFE (R118, R138). -/
def leaveSafeFor (a : Action) (s : State) : State :=
  match a with
  | .safeSet => s
  | .openConcave => enterPausedOpen (leaveSafe .paused s)
  | .pause => enterPaused (leaveSafe .paused s)
  | .noticeOnly => enterFollow false (leaveSafe .follow s)

/-- A change of effective action taken by the regulator while the part is REGULATING (R138). -/
def takeAction (a : Action) (s : State) : State :=
  if s.mgmt.partState = .regulating then
    match s.regulator.state with
    | .idle => s
    | .safe => if s.regulator.safeCause = some .ownerLoss then s else leaveSafeFor a s
    | .paused =>
      match a with
      | .safeSet => enterSafe .guard s
      | .openConcave => releaseConcave s
      | .pause => s
      | .noticeOnly => enterFollow false s
    | _ =>
      match a with
      | .safeSet => enterSafe .guard s
      | .openConcave => enterPausedOpen s
      | .pause => enterPaused s
      | .noticeOnly => s
  else s

/-- The start event (R118). -/
def takeStart (s : State) : State :=
  match s.guards.effective with
  | .safeSet => if s.regulator.state = .safe then changeSafeCause .guard s else enterSafe .guard s
  | a => leaveSafeFor a s

/-- Timer A has expired (R121, R127, R130). -/
def windowAEnds (s : State) : State :=
  match s.regulator.state with
  | .settle => if s.classifier.adopted.feed = 0 then enterHold s else enterMeasure .measure s
  | .trialSettle => enterMeasure .trialMeasure s
  | .hold =>
    if s.classifier.adopted.feed = 0 then
      s.withRegulator { s.regulator with window := s.windowTimer .a s.mgmt.params.recheckLength }
    else enterMeasure .measure s
  | _ => s.withRegulator { s.regulator with window := none }

/-! ### Settled events of the move unit, STOP and owner loss -/

/-- The handings of a settled event: to the regulator and to the picture unit, not ordered (R109). -/
def settledHandings (st : Setting) : List (List Handing) := [[takeSettled st], [publish]]

/-- Every deferred goal discarded (R110, R111). -/
def MoveUnit.dropDeferred (u : MoveUnit) : MoveUnit :=
  { u with records := PerSetting.tabulate (fun st => { u.records.get st with deferred := none }) }

/-- Every deferred goal discarded, and a settled event handed on for each setting that becomes
settled thereby (R110, R111; log 24). -/
def discardDeferred (s : State) : State :=
  let newly := Setting.all.filter (fun st => !(s.record st).settled)
  let s1 := s.withMoves s.moves.dropDeferred
  interleave ((newly.filter (fun st => (s1.record st).settled)).map settledHandings).flatten s1

/-- The owner-loss event taken by the move unit: both groups are released, the deferred goals discarded (R111). -/
def moveOwnerLoss (s : State) : State :=
  discardDeferred (s.withMoves { s.moves with heldThresh := false, heldClean := false })

/-- The stop event (R141): the cycle is abandoned, SAFE is left, IDLE is entered, and the move unit is handed its stop event. -/
def takeStop (s : State) : State :=
  let s1 := leaveSafe .idle (abandonCycle s)
  interleave [[publish], [discardDeferred]] (s1.withRegulator { s1.regulator with state := .idle })

/-- The owner-loss event taken by the regulator (R142); the part state at that moment is given. -/
def regOwnerLoss (was : PartState) (s : State) : State :=
  if was = .regulating then
    match s.regulator.state with
    | .idle => s
    | .safe => changeSafeCause .ownerLoss s
    | _ => enterSafe .ownerLoss s
  else s

end Sys2Proof.Machine
end

