-- ==== Sys2Proof/Machine/GuardOps.lean ====
section
/-! DEFINITION. The guard arbiter: raising, the examination, the effective action, release, and the
conditions it judges itself (Chapter 7). -/

namespace Sys2Proof.Machine

/-- The twelve sources, lowest number first (R146). -/
def allSources : List (Fin 12) := [0, 1, 2, 3, 4, 5, 6, 7, 8, 9, 10, 11]

/-- The guard of a source. -/
def Arbiter.guard (a : Arbiter) (n : Fin 12) : Guard := a.table.get n

/-- The guard of a source replaced. -/
def Arbiter.withGuard (a : Arbiter) (n : Fin 12) (g : Guard) : Arbiter := { a with table := a.table.set n g }

/-- The guard of a source changed. -/
def updGuard (n : Fin 12) (f : Guard → Guard) (s : State) : State :=
  s.withGuards (s.guards.withGuard n (f (s.guards.guard n)))

/-- The length of a guard's clear dwell, in 10 ms units (R153, R164). -/
def Guard.clearLength (g : Guard) : Nat := tenths g.config.clearDwell.toNat

/-! ### The examination and the effective action -/

/-- A PENDING guard qualifies (R160): not masked, its priority below the floor and below the priority of every ACTING guard. -/
def Arbiter.qualifies (a : Arbiter) (n : Fin 12) : Bool :=
  let g := a.guard n
  decide (g.state = .pending) && !g.config.masked && decide (g.config.priority < a.floor) &&
  a.stack.all (fun k => decide (g.config.priority < (a.guard k).config.priority))

/-- The better of two qualifying guards: the lower priority number, then the lower source number (R160). -/
def Arbiter.better (a : Arbiter) (best : Option (Fin 12)) (n : Fin 12) : Option (Fin 12) :=
  if a.qualifies n then
    match best with
    | none => some n
    | some k => if (a.guard n).config.priority < (a.guard k).config.priority then some n else some k
  else best

/-- The guard the examination makes ACTING, if any (R160). -/
def Arbiter.nextActing (a : Arbiter) : Option (Fin 12) := allSources.foldl a.better none

/-- A guard as it becomes ACTING; an EDGE guard with release mode AUTO starts its clear dwell (R160, R164). -/
def Guard.act (g : Guard) (now : Word32) : Guard :=
  { g with
    state := .acting
    clearTimer := if g.config.edge && g.config.auto then some ⟨now, g.clearLength⟩ else none }

/-- The detail of GUARD_ACTING: 4 × priority + action code (R160). -/
def GuardConfig.detail (c : GuardConfig) : Word16 := BitVec.ofNat 16 (4 * c.priority + c.action.code)

/-- A guard becomes ACTING: it is pushed on the stack and GUARD_ACTING is raised (R160). -/
def actGuard (n : Fin 12) (s : State) : State :=
  let a := s.guards.withGuard n ((s.guards.guard n).act s.partTime)
  raiseNotice .guardActing n.val (s.guards.guard n).config.detail
    (s.withGuards { a with stack := s.guards.stack ++ [n] })

/-- The examination of the PENDING guards: at most one becomes ACTING (R160). -/
def examineGuards (s : State) : State :=
  match s.guards.nextActing with
  | some n => actGuard n s
  | none => s

/-- The most severe action among the ACTING guards (R161). -/
def Arbiter.severest (a : Arbiter) : Action :=
  a.stack.foldl (fun w n => w.worse (a.guard n).config.action) .noticeOnly

/-- The effective action judged; a change is handed to the regulator and the picture unit, not ordered (R161). -/
def judgeAction (s : State) : State :=
  let e := s.guards.severest
  if e = s.guards.effective then s
  else interleave [[takeAction e], [publish]] (s.withGuards { s.guards with effective := e })

/-- No examination is put off any longer. -/
def endWait (s : State) : State := s.withGuards { s.guards with examineDue := .no }

/-- The end of the arbiter's handling of an event or request: the examination, then the judgement (R160, R161). -/
def settleGuards (s : State) : State := judgeAction (examineGuards (endWait s))

/-- The end of a handling that may have made guard `n` PENDING, by a raise or by its release. R160 and R162 let a guard
that qualifies act at once; two orders of the table of R165 (a release of `n` before its condition goes inactive, a
raise of `n` before GUARD MASK) find it still PENDING when the other event is taken. Where the examination would make
`n` itself ACTING, a number of the `order` field says whether it comes at once (an even one, or none) or is put off
(log 39). -/
def settleRaised (due : ExamineDue) (n : Fin 12) (s : State) : State :=
  if s.guards.nextActing = some n ∧ s.guards.examineDue = .no then
    let t := s.withOrder s.order.tail
    if s.order.headD 0 % 2 = 0 then settleGuards t else t.withGuards { t.guards with examineDue := due }
  else settleGuards s

/-- An examination that was put off is made; nothing when none was (log 39). -/
def settleWaiting (s : State) : State := if s.guards.examineDue = .no then s else settleGuards s

/-! ### Raising -/

/-- A LEVEL guard's condition goes active (R157, R164). -/
def Guard.levelRise (g : Guard) : Guard :=
  match g.state with
  | .idle => { g with condition := true, armed := false, state := .pending }
  | .pending => { g with condition := true, armed := false }
  | .acting => { g with condition := true, armed := false, clearTimer := none }

/-- A LEVEL guard's condition goes inactive (R157, R164). -/
def Guard.levelFall (g : Guard) (now : Word32) : Guard :=
  match g.state with
  | .idle => { g with condition := false, armed := true }
  | .pending => { g with condition := false, armed := true, state := .idle }
  | .acting =>
    { g with
      condition := false
      armed := true
      clearTimer := if g.config.auto then some ⟨now, g.clearLength⟩ else g.clearTimer }

/-- An EDGE guard's condition goes active (R158, R164). -/
def Guard.edgeRise (g : Guard) (now : Word32) : Guard :=
  if g.armed then
    match g.state with
    | .idle => { g with condition := true, armed := false, state := .pending }
    | .pending => { g with condition := true, armed := false }
    | .acting =>
      { g with
        condition := true
        armed := false
        clearTimer := if g.config.auto then some ⟨now, g.clearLength⟩ else g.clearTimer }
  else { g with condition := true }

/-- An EDGE guard's condition goes inactive: it is armed, its state unchanged (R158). -/
def Guard.edgeFall (g : Guard) : Guard := { g with condition := false, armed := true }

/-- A guard after a change of its condition (R157, R158). -/
def Guard.change (g : Guard) (now : Word32) (active : Bool) : Guard :=
  match g.config.edge, active with
  | false, true => g.levelRise
  | false, false => g.levelFall now
  | true, true => g.edgeRise now
  | true, false => g.edgeFall

/-- The condition of a source as judged; a change raises or idles its guard (R157, R158), and the
examination and the judgement follow. -/
def setCondition (n : Fin 12) (active : Bool) (s : State) : State :=
  if (s.guards.guard n).condition = active then s
  else (if active then settleRaised .raised n else settleGuards) (updGuard n (fun g => g.change s.partTime active) s)

/-- An event of an event source: an inactive-to-active change followed at once by its return (R152, R158). -/
def raiseEvent (n : Fin 12) (s : State) : State := updGuard n (fun g => (g.edgeRise s.partTime).edgeFall) s

/-- An event of an event source, and the examination and the judgement that follow (R158, R160, R161). -/
def takeEvent (n : Fin 12) (s : State) : State := settleRaised .raised n (raiseEvent n s)

/-! ### Release -/

/-- A guard's new state after its release: PENDING for a LEVEL guard whose condition is active, else IDLE (R162). -/
def Guard.released (g : Guard) : Guard :=
  { g with clearTimer := none, state := if !g.config.edge && g.condition then .pending else .idle }

/-- Steps 1 to 4 of a release (R162): off the stack, dwell stopped, GUARD_RELEASED with its cause, new state. -/
def removeGuard (n : Fin 12) (cause : Nat) (s : State) : State :=
  let a := s.guards.withGuard n (s.guards.guard n).released
  raiseNotice .guardReleased n.val (BitVec.ofNat 16 cause)
    (s.withGuards { a with stack := s.guards.stack.filter (fun k => decide (k ≠ n)) })

/-- A release with its examination and judgement (R162). -/
def releaseGuard (n : Fin 12) (cause : Nat) (s : State) : State := settleGuards (removeGuard n cause s)

/-- A release by GUARD RELEASE naming the guard (R162, R163, cause 0), which may meet a change of its condition (R165). -/
def releaseNamed (n : Fin 12) (s : State) : State := settleRaised .released n (removeGuard n 0 s)

/-! ### Conditions judged from channel values -/

/-- A kept channel value replaced (R148). Roles no source reads are not kept. -/
def KeptValues.put (k : KeptValues) (r : Role) (v : Option Word16) : KeptValues :=
  match r with
  | .tailings => { k with tailings := v }
  | .feedLoad => { k with feedLoad := v }
  | .drumSpeed => { k with drumSpeed := v }
  | .fanSpeed => { k with fanSpeed := v }
  | .pitch => { k with pitch := v }
  | .roll => { k with roll := v }
  | _ => k

/-- A guard source reads the role (R26). -/
def Role.readByGuards : Role → Bool
  | .tailings => true
  | .feedLoad => true
  | .drumSpeed => true
  | .fanSpeed => true
  | .pitch => true
  | .roll => true
  | _ => false

/-- A usable value above a limit (R148). -/
def above (limit : Nat) : Option Word16 → Bool
  | some v => decide ((limit : Int) < v.toInt)
  | none => false

/-- A usable value whose magnitude is above a limit (R148). -/
def magnitudeAbove (limit : Nat) : Option Word16 → Bool
  | some v => decide (limit < v.toInt.natAbs)
  | none => false

/-- The speed value a rotor's source reads (R149). -/
def KeptValues.speed (k : KeptValues) : Rotor → Option Word16
  | .drum => k.drumSpeed
  | .fan => k.fanSpeed

/-- The reference of the slip comparison (R149): the last actual after a LIMITED move, otherwise the goal. -/
def MoveRecord.slipReference (r : MoveRecord) (g : Goal) : Nat :=
  match r.limited, r.lastActual with
  | true, some a => a.toNat
  | _, _ => g.value.toNat

/-- The move record can be judged for slip: IDLE, not manual, holding a goal (R149 test 3). -/
def MoveRecord.slipGoal (r : MoveRecord) : Option Goal :=
  if r.manual then none
  else
    match r.state with
    | .idle => r.goal
    | _ => none

/-- The slip comparison (R149). -/
def State.slipCompare (s : State) (w : Rotor) : Bool :=
  match s.guards.kept.speed w, (s.record w.setting).slipGoal with
  | some v, some g =>
    decide (s.regulator.state ≠ .idle) &&
    decide (v.toInt * 100 < s.mgmt.params.slipPercent w * (s.record w.setting).slipReference g)
  | _, _ => false

/-- The slip dwell timer of a rotor (R150). -/
def Arbiter.slipTimer (a : Arbiter) : Rotor → Option Timer
  | .drum => a.slipDrum
  | .fan => a.slipFan

/-- The slip dwell timer of a rotor replaced. -/
def setSlipTimer (w : Rotor) (t : Option Timer) (s : State) : State :=
  match w with
  | .drum => s.withGuards { s.guards with slipDrum := t }
  | .fan => s.withGuards { s.guards with slipFan := t }

/-- A judgement of DRUM_SLIP or FAN_STALL (R150). -/
def judgeSlip (w : Rotor) (s : State) : State :=
  if s.slipCompare w then
    if (s.guards.guard w.source).condition then s
    else
      match s.guards.slipTimer w with
      | some _ => s
      | none => setSlipTimer w (some ⟨s.partTime, tenths s.mgmt.params.slipDwell⟩) s
  else setCondition w.source false (setSlipTimer w none s)

/-- The sources that read a role judged again (R148, R149). -/
def judgeRole (r : Role) (s : State) : State :=
  match r with
  | .feedLoad => setCondition 1 (above s.mgmt.params.surgeLimit s.guards.kept.feedLoad) s
  | .tailings => setCondition 2 (above s.mgmt.params.overloadLimit s.guards.kept.tailings) s
  | .pitch => setCondition 4 (magnitudeAbove s.mgmt.params.slopeLimit s.guards.kept.pitch ||
      magnitudeAbove s.mgmt.params.slopeLimit s.guards.kept.roll) s
  | .roll => setCondition 4 (magnitudeAbove s.mgmt.params.slopeLimit s.guards.kept.pitch ||
      magnitudeAbove s.mgmt.params.slopeLimit s.guards.kept.roll) s
  | .drumSpeed => judgeSlip .drum s
  | .fanSpeed => judgeSlip .fan s
  | _ => s

/-- The arbiter takes a value event, or a usable event announcing no usable value (R38, R148; log 13). -/
def takeKept (r : Role) (v : Option Word16) (s : State) : State :=
  judgeRole r (s.withGuards { s.guards with kept := s.guards.kept.put r v })

/-! ### The window result, whose loss alarm reaches the arbiter -/

/-- What follows a window result in the regulator: the decision, or the judging of a trial (R126, R131). -/
def afterResult (w : WindowResult) (s : State) : State :=
  match w.kind with
  | .measure => decideMeasure w s
  | .trial => judgeTrial w s

/-- The loss-alarm event handed to the LOSS_ALARM source (R125, R152). -/
def handLossAlarm (alarm : Bool) (s : State) : State := if alarm then takeEvent 5 s else s

/-- The kind of the window that runs in a state (R125). -/
def RegState.resultKind : RegState → ResultKind
  | .trialMeasure => .trial
  | _ => .measure

/-- Timer B has expired (R122): the gate closes, the result is computed and becomes the last result.
It is handed on to the picture unit; the decision follows, and after it the loss alarm (R125, R140). -/
def windowBEnds (s : State) : State :=
  let s1 := (s.withChannels s.channels.closeGate)
  let w := s1.windowResult s.regulator.state.resultKind
  let s2 := s1.withRegulator { s1.regulator with window := none, last := some w }
  interleave [[publish], [afterResult w, handLossAlarm (s1.lossAlarm w)]] s2

/-- The running window timer has expired: A or B (R116, R117). -/
def windowEnds (s : State) : State :=
  match s.regulator.window with
  | some (.a, _) => windowAEnds s
  | some (.b, _) => windowBEnds s
  | none => s

end Sys2Proof.Machine
end

