-- ==== Sys2Proof/Machine/MoveEvents.lean ====
section
/-! DEFINITION. The move unit's exchange with the drives: ACCEPT, DONE and REPORT frames, timers,
faults, and what the requests do to it (R90 to R111). -/

namespace Sys2Proof.Machine

/-- The DRIVE_FAULT condition (R105): at least one record is in FAULT. -/
def State.anyFault (s : State) : Bool := Setting.all.any (fun st => decide ((s.record st).state = .fault))

/-- The DRIVE_FAULT condition judged again; a change is handed to the arbiter as the condition of source 7 (R105, R151). -/
def judgeDriveFault (s : State) : State :=
  if s.anyFault = s.moves.driveFault then s
  else setCondition 7 s.anyFault (s.withMoves { s.moves with driveFault := s.anyFault })

/-- The handings of a settled event, when the setting went from not settled to settled (R109). -/
def newlySettled (was : Bool) (st : Setting) : List (List Handing) := if was then [] else settledHandings st

/-- A record as it enters FAULT (R105). -/
def MoveRecord.fail (r : MoveRecord) (cause : FaultCause) : MoveRecord :=
  { r with state := .fault, cause := cause, acceptTimer := none, moveTimer := none }

/-- A record enters FAULT (R105): the notice, the exclusion event (R136), the DRIVE_FAULT condition
and the settled event go to different blocks and are not ordered. In FAULT already, nothing changes. -/
def enterFault (st : Setting) (cause : FaultCause) (s : State) : State :=
  let r := s.record st
  if r.state = .fault then s
  else
    interleave
      ([[raiseNotice .driveFault st.num (BitVec.ofNat 16 cause.code)], [takeExclusion st], [judgeDriveFault]] ++
        newlySettled r.settled st)
      (setRecord st (r.fail cause) s)

/-! ### Drive frames -/

/-- A stale frame counted for its setting (R100). -/
def countStale (st : Setting) (s : State) : State :=
  s.withMoves { s.moves with stale := s.moves.stale.set st (satInc16 (s.moves.stale.get st)) }

/-- An unmatched drive frame counted (R90, R100). -/
def countUnmatched (s : State) : State :=
  s.withMoves { s.moves with unmatched := satInc16 s.moves.unmatched }

/-- A matched ACCEPT (R97): with the current tag in ISSUED it gives MOVING, otherwise it is stale. -/
def takeAccept (st : Setting) (tag : Tag) (s : State) : State :=
  let r := s.record st
  if r.state = .issued ∧ tag = r.tag then
    setRecord st
      { r with
        state := .moving
        acceptTimer := none
        moveTimer := some ⟨s.partTime, tenths (s.mgmt.params.moveTimeout st)⟩ } s
  else countStale st s

/-- The exchange of a record has ended and the setting is settled (R98, R109). -/
def endMove (st : Setting) (limited : Bool) (extra : List (List Handing)) (s : State) : State :=
  let r := s.record st
  let r' := { r with state := .idle, limited := limited || r.limited }
  interleave (extra ++ (if r'.settled then newlySettled r.settled st else [])) (setRecord st r' s)

/-- The leg just done was the last: its target equals the aim worked out afresh (R98, R94 step 1). -/
def MoveRecord.lastLeg (r : MoveRecord) (p : Params) (st : Setting) : Bool :=
  match r.goal, r.leg with
  | some g, some l => decide ((l.toNat : Int) = p.clamp st g.value.toNat)
  | _, _ => true

/-- A matched DONE with the current tag in MOVING (R98). -/
def finishLeg (st : Setting) (outcome : Nat) (actual : Word16) (s : State) : State :=
  let s1 := setRecord st { s.record st with moveTimer := none, lastActual := some actual } s
  match outcome with
  | 0 =>
    if (s1.record st).lastLeg s1.mgmt.params st then endMove st false [] s1 else issueSet st s1
  | 1 => endMove st true [[raiseNotice .moveLimited st.num actual]] s1
  | _ => enterFault st .refused s1

/-- A matched DONE (R98): with any other tag, or outside MOVING, it is stale (R100). -/
def takeDone (st : Setting) (tag : Tag) (outcome : Nat) (actual : Word16) (s : State) : State :=
  let r := s.record st
  if r.state = .moving ∧ tag = r.tag then finishLeg st outcome actual s else countStale st s

/-- The record as the drive is taken over by hand (R104). -/
def MoveRecord.takeManual (r : MoveRecord) : MoveRecord :=
  match r.state with
  | .idle => { r with manual := true }
  | .fault => { r with manual := true }
  | .issued => { r with manual := true, state := .idle, acceptTimer := none, moveTimer := none }
  | .moving => { r with manual := true, state := .idle, acceptTimer := none, moveTimer := none }

/-- The Manual bit of a REPORT against the record's manual flag (R104, R136, R109). -/
def judgeManual (st : Setting) (bit : Bool) (actual : Word16) (s : State) : State :=
  let r := s.record st
  match bit, r.manual with
  | true, false =>
    interleave
      ([[raiseNotice .manualOn st.num actual], [takeExclusion st]] ++ newlySettled r.settled st)
      (setRecord st r.takeManual s)
  | false, true =>
    let s1 := raiseNotice .manualOff st.num actual (setRecord st { r with manual := false } s)
    match r.goal with
    | some g => giveGoal st g s1
    | none => s1
  | _, _ => s

/-- The tracking of a drive's REPORT stream starts or restarts (R103). -/
def MoveRecord.heard (r : MoveRecord) (period : Byte) (now : Word32) : MoveRecord :=
  { r with tracking := .locked, trackWindow := some ⟨now, trackingLength period⟩ }

/-- A matched REPORT (R102): tracking, last actual and drive flags, Manual bit, Drive fault bit. -/
def takeReport (st : Setting) (actual : Word16) (status : Byte) (s : State) : State :=
  let r := (s.record st).heard (s.moves.roster.get st).period s.partTime
  let s1 := setRecord st
    { r with
      lastActual := some actual
      flagMoving := status.getLsbD 0
      flagAtLimit := status.getLsbD 1 } s
  let s2 := judgeManual st (status.getLsbD 3) actual s1
  if status.getLsbD 2 then enterFault st .driveFlag s2 else s2

/-- The setting a drive frame is matched to (R90): its Setting number, if the frame comes from the roster's drive station. -/
def State.matchDrive (s : State) (number source : Byte) : Option Setting :=
  match Setting.ofNum number.toNat with
  | none => none
  | some st => if s.driveStation st = some source then some st else none

/-- An ACCEPT, REPORT or DONE frame handed to the move unit (R90). -/
def takeDriveFrame (f : Frame) (s : State) : State :=
  match f.kind, f.payload with
  | .accept, [n] =>
    match s.matchDrive n f.source with
    | some st => takeAccept st f.tag s
    | none => countUnmatched s
  | .report, [n, lo, hi, status] =>
    match s.matchDrive n f.source with
    | some st => takeReport st (word16 lo hi) status s
    | none => countUnmatched s
  | .done, [n, outcome, lo, hi] =>
    match s.matchDrive n f.source with
    | some st => if 2 < outcome.toNat then countUnmatched s
                 else takeDone st f.tag outcome.toNat (word16 lo hi) s
    | none => countUnmatched s
  | _, _ => s

/-! ### Timers -/

/-- The accept timer of a record expires (R99): the SET is resent once, then the record enters FAULT. -/
def acceptExpires (st : Setting) (s : State) : State :=
  if (s.record st).resendUsed then enterFault st .acceptTimeout s else resendSet st s

/-- The tracking window of a drive's REPORT stream expires (R103). -/
def trackingExpires (st : Setting) (s : State) : State :=
  let r := s.record st
  match r.tracking with
  | .locked =>
    setRecord st
      { r with
        tracking := .oneMissed
        trackWindow := some ⟨s.partTime, trackingLength (s.moves.roster.get st).period⟩ } s
  | .oneMissed => enterFault st .reportLost (setRecord st { r with tracking := .lost, trackWindow := none } s)
  | _ => setRecord st { r with trackWindow := none } s

/-! ### Requests -/

/-- A record that leaves FAULT at ERROR RESET (R106). -/
def MoveRecord.repaired (r : MoveRecord) : MoveRecord :=
  { r with state := .idle, resendUsed := false, cause := .none }

/-- The goal of a record, if it has one, given again with its own source (R104, R106). -/
def giveAgain (st : Setting) (s : State) : State :=
  match (s.record st).goal with
  | some g => giveGoal st g s
  | none => s

/-- Every record in FAULT leaves it, and the counters are cleared (R106). -/
def MoveUnit.repair (u : MoveUnit) : MoveUnit :=
  { u with
    records := PerSetting.tabulate (fun st =>
      if (u.records.get st).state = .fault then (u.records.get st).repaired else u.records.get st)
    stale := PerSetting.fill 0#16
    unmatched := 0#16 }

/-- ERROR RESET in the move unit (R106): faults cleared, DRIVE_FAULT judged, goals given again, counters 0.
That the goals are given from DRUM to FAN is the model's choice (log 35). -/
def repairMoves (s : State) : State :=
  let failed := Setting.all.filter (fun st => decide ((s.record st).state = .fault))
  failed.foldl (fun t st => giveAgain st t) (judgeDriveFault (s.withMoves s.moves.repair))

/-- The settings of the groups a Mask selects (R107). That RELEASE ADJUST and RELEASE ONCE issue their deferred
goals from DRUM to FAN is the model's choice (log 35). -/
def selectedSettings (mask : Byte) : List Setting :=
  Setting.all.filter (fun st => if st.isThresh then (groupsOfMask mask).1 else (groupsOfMask mask).2)

/-- The selected groups marked as held, or released (R107, R108). -/
def setHeld (mask : Byte) (held : Bool) (s : State) : State :=
  let g := groupsOfMask mask
  s.withMoves { s.moves with
    heldThresh := if g.1 then held else s.moves.heldThresh
    heldClean := if g.2 then held else s.moves.heldClean }

/-- A deferred goal taken out of its field and given again as a REGULATOR goal (R108, RELEASE ADJUST). -/
def releaseDeferred (st : Setting) (s : State) : State :=
  match (s.record st).deferred with
  | some v => giveGoal st ⟨v, .regulator⟩ (setRecord st { s.record st with deferred := none } s)
  | none => s

/-- A deferred goal issued over the hold (R108, RELEASE ONCE). -/
def releaseDeferredOnce (st : Setting) (s : State) : State :=
  match (s.record st).deferred with
  | some v => issueOverHold st v s
  | none => s

/-- A new roster, with the record of each setting whose drive station changed reset, keeping its tag (R91). -/
def MoveUnit.relayout (u : MoveUnit) (roster : PerSetting RosterEntry) : MoveUnit :=
  { u with
    roster := roster
    records := PerSetting.tabulate (fun st =>
      if (u.roster.get st).station = (roster.get st).station then u.records.get st
      else MoveRecord.fresh (u.records.get st).tag) }

/-- LAYOUT WRITE in the move unit (R91): DRIVE_FAULT judged again, and a settled event for each
setting that was not settled before and is after (log 24). -/
def relayoutMoves (roster : PerSetting RosterEntry) (s : State) : State :=
  let s1 := s.withMoves (s.moves.relayout roster)
  let newly := Setting.all.filter (fun st => !(s.record st).settled && (s1.record st).settled)
  interleave ([[judgeDriveFault]] ++ (newly.map settledHandings).flatten) s1

end Sys2Proof.Machine
end

