-- ==== Sys2Proof/Machine/ClassifierOps.lean ====
section
/-! DEFINITION. The classifier: value and usable events, the dwell, adoption (Chapter 3). -/

namespace Sys2Proof.Machine

/-- The candidate class: the four candidate bands (R58). -/
def Classifier.candidate (c : Classifier) : PerAxis Nat := PerAxis.tabulate (fun a => (c.axes.get a).candidate)

/-- The frozen flags, one for each axis (R62). -/
def Classifier.frozen (c : Classifier) : PerAxis Bool := PerAxis.tabulate (fun a => (c.axes.get a).frozen)

/-- An axis replaced. -/
def Classifier.withAxis (c : Classifier) (a : Axis) (x : AxisState) : Classifier :=
  { c with axes := c.axes.set a x }

/-- The dwell timer after a change of the candidate class (R59): it stops when the candidate equals
the adopted class, and otherwise starts or restarts with a fresh length. -/
def Classifier.actDwell (c : Classifier) (now : Word32) (length : Nat) : Classifier :=
  { c with dwell := if c.candidate = c.adopted then none else some ⟨now, length⟩ }

/-- An axis replaced, the dwell timer acting if the candidate class has changed (R53, R56, R57, R59). -/
def changeAxis (a : Axis) (x : AxisState) (s : State) : State :=
  let c := s.classifier.withAxis a x
  s.withClassifier
    (if c.candidate = s.classifier.candidate then c else c.actDwell s.partTime (tenths s.mgmt.params.dwell))

/-- The candidate band of an axis for a value: plain when the axis was frozen, else with hysteresis (R57). -/
def AxisState.bandFor (x : AxisState) (v : Word16) : Nat :=
  if x.frozen then plainBand x.defn.thresholds v.toInt
  else hysteresisBand x.defn.thresholds x.defn.hysteresis.toNat x.candidate v.toInt

/-- A value event for an axis's source role (R57). -/
def takeAxisValue (a : Axis) (v : Word16) (s : State) : State :=
  let x := s.classifier.axes.get a
  changeAxis a { x with frozen := false, value := some v, candidate := x.bandFor v } s

/-- A usable event announcing that the axis's entry no longer holds a usable value (R56). -/
def freezeAxis (a : Axis) (s : State) : State :=
  let x := s.classifier.axes.get a
  if x.frozen then s
  else changeAxis a { x with frozen := true, value := none, candidate := s.classifier.adopted.get a } s

/-- The detail of CLASS_ADOPTED: the side index plus 8 × the frozen mask (R63). -/
def Classifier.adoptedDetail (c : Classifier) : Word16 :=
  BitVec.ofNat 16 (c.adopted.side + 8 * (frozenMask c.frozen).toNat)

/-- An adoption handed to the regulator, the picture unit and the notice unit, not ordered (R63). -/
def handAdoption (s : State) : State :=
  interleave [[takeRetarget], [publish],
    [raiseNotice .classAdopted s.adoptedCell s.classifier.adoptedDetail]] s

/-- The dwell timer has expired: the candidate class is adopted (R61). -/
def adoptCandidate (s : State) : State :=
  handAdoption (s.withClassifier { s.classifier with
    adopted := s.classifier.candidate, adoptedAt := s.partTime, dwell := none })

/-- An axis definition replaced on an axis that holds a value: the candidate band is the value's plain band (R53). -/
def rewriteAxis (a : Axis) (d : AxisDef) (v : Word16) (s : State) : State :=
  changeAxis a { s.classifier.axes.get a with defn := d, candidate := plainBand d.thresholds v.toInt } s

/-- An axis definition replaced on a frozen axis: its candidate and adopted bands become the new
default band; a change of the adopted class is an adoption by write (R53, R61). -/
def rewriteFrozenAxis (a : Axis) (d : AxisDef) (s : State) : State :=
  let c := s.classifier.withAxis a { s.classifier.axes.get a with defn := d, candidate := d.defaultBand }
  let adopted := s.classifier.adopted.set a d.defaultBand
  let s1 :=
    if adopted = s.classifier.adopted then s.withClassifier c
    else handAdoption (s.withClassifier { c with adopted := adopted, adoptedAt := s.partTime })
  if c.candidate = s.classifier.candidate then s1
  else s1.withClassifier (s1.classifier.actDwell s.partTime (tenths s.mgmt.params.dwell))

/-- AXIS WRITE answered DONE (R53). -/
def writeAxis (a : Axis) (d : AxisDef) (s : State) : State :=
  match (s.classifier.axes.get a).frozen, (s.classifier.axes.get a).value with
  | false, some v => rewriteAxis a d v s
  | _, _ => rewriteFrozenAxis a d s

end Sys2Proof.Machine
end

