-- ==== Sys2Proof/Machine/ChannelOps.lean ====
section
/-! DEFINITION. The channel unit: sample arrival, lock tracking, accumulators, the CHANNEL_LOST
indicator, and what it hands on (Chapter 2). -/

namespace Sys2Proof.Machine

/-- An entry of the channel table. -/
def State.channel (s : State) (i : Fin 24) : Channel := s.channels.entries.get i

/-- An entry replaced. -/
def setChannel (i : Fin 24) (c : Channel) (s : State) : State :=
  s.withChannels { s.channels with entries := s.channels.entries.set i c }

/-- The runtime record of an entry changed. -/
def updRuntime (i : Fin 24) (f : ChannelRt → ChannelRt) (s : State) : State :=
  setChannel i { s.channel i with rt := f (s.channel i).rt } s

/-- The entry holds a usable value: enabled, valid, last value present (R29). -/
def Channel.usable (c : Channel) : Bool := c.defn.enabled && c.rt.lock.valid && c.rt.lastValue.isSome

/-- An enabled measured entry (R26). -/
def ChannelDef.measured (d : ChannelDef) : Bool := d.enabled && d.role.isMeasured

/-- The CHANNEL_LOST indicator is active: an entry is enabled, Required and LOST (R39). -/
def ChannelUnit.lostNow (u : ChannelUnit) : Bool :=
  u.entries.list.any (fun c => c.defn.enabled && c.defn.required && decide (c.rt.lock = .lost))

/-- The indicator judged again; a change is handed to the arbiter as the condition of source 6 (R39, R151). -/
def judgeLost (s : State) : State :=
  if s.channels.lostNow = s.channels.lostIndicator then s
  else setCondition 6 s.channels.lostNow
    (s.withChannels { s.channels with lostIndicator := s.channels.lostNow })

/-- A value event to the classifier and to the guard arbiter, not ordered between them (R38). -/
def valueHandings (r : Role) (v : Word16) : List (List Handing) :=
  (match r.axis with | some a => [[takeAxisValue a v]] | none => []) ++
  (if r.readByGuards then [[takeKept r (some v)]] else [])

/-- A usable event announcing no usable value, to the classifier and to the arbiter (R38). -/
def unusableHandings (r : Role) : List (List Handing) :=
  (match r.axis with | some a => [[freezeAxis a]] | none => []) ++
  (if r.readByGuards then [[takeKept r none]] else [])

/-! ### Sample arrival -/

/-- The tracking window of an entry, started now; none with Period 0 (R33). -/
def ChannelDef.startWindow (d : ChannelDef) (now : Word32) : Option Timer :=
  if d.period = 0#8 then none else some ⟨now, trackingLength d.period⟩

/-- An arrival counted for lock tracking (R34, R35); leaving LOST raises CHANNEL_LOCKED. -/
def countArrival (i : Fin 24) (s : State) : State :=
  let c := s.channel i
  let s1 := updRuntime i (fun r => { r with lock := .locked, window := c.defn.startWindow s.partTime }) s
  if c.rt.lock = .lost then
    interleave [[raiseNotice .channelLocked i.val (BitVec.ofNat 16 c.defn.role.code)], [judgeLost]] s1
  else s1

/-- A matched sample with the Sensor fault bit (R31). -/
def takeFaulted (i : Fin 24) (raw : Word16) (s : State) : State :=
  let s1 := updRuntime i (fun r => { r with faultLatch := true }) s
  if (s.channel i).rt.faultLatch then s1 else raiseNotice .sensorFault i.val raw s1

/-- A scaled value outside the plausible range (R31). -/
def rejectValue (i : Fin 24) (scaled : Word16) (s : State) : State :=
  let s1 := updRuntime i (fun r => { r with rangeLatch := true, rangeCount := satInc8 r.rangeCount }) s
  if (s.channel i).rt.rangeLatch then s1 else raiseNotice .rangeError i.val scaled s1

/-- A value added to an accumulator (R41). -/
def ChannelRt.accumulate (r : ChannelRt) (v : Word16) : ChannelRt :=
  if r.count = 65535#16 then r else { r with count := r.count + 1#16, sum := r.sum + v.signExtend 32 }

/-- A value taken (R32, R41), then handed on (R38). -/
def takeValue (i : Fin 24) (v : Word16) (s : State) : State :=
  let c := s.channel i
  let s1 := updRuntime i (fun r =>
    let r1 := { r with lastValue := some v, lastTime := some s.partTime }
    if s.channels.gate && c.defn.measured then r1.accumulate v else r1) s
  if c.defn.enabled then interleave (valueHandings c.defn.role v) s1 else s1

/-- The scaled value lies in the plausible range (R31). -/
def ChannelDef.plausible (d : ChannelDef) (v : Word16) : Bool :=
  decide (d.plausibleMin.toInt ≤ v.toInt) && decide (v.toInt ≤ d.plausibleMax.toInt)

/-- An arrival for an entry (R30): lock tracking, fault flag, scaling and range, taking the value. -/
def takeArrival (i : Fin 24) (fault : Bool) (raw : Word16) (s : State) : State :=
  let s1 := countArrival i s
  let d := (s.channel i).defn
  let v := scaleSample d.gain d.offset raw
  if fault then takeFaulted i raw s1
  else if d.plausible v then takeValue i v s1 else rejectValue i v s1

/-- The indexes of the channel table. -/
def allEntries : List (Fin 24) :=
  [0, 1, 2, 3, 4, 5, 6, 7, 8, 9, 10, 11, 12, 13, 14, 15, 16, 17, 18, 19, 20, 21, 22, 23]

/-- The enabled entry a sample's Source and Sub-channel match (R30). -/
def State.matchSample (s : State) (source : Byte) (sub : BitVec 2) : Option (Fin 24) :=
  allEntries.find? (fun i => (s.channel i).defn.enabled &&
    decide ((s.channel i).defn.station = source) && decide ((s.channel i).defn.sub = sub))

/-- A SAMPLE frame handed to the channel unit (R30). Bits 6..2 of its first payload byte are ignored. -/
def takeSample (f : Frame) (s : State) : State :=
  match f.payload with
  | [b, lo, hi] =>
    match s.matchSample f.source (b.setWidth 2) with
    | some i => takeArrival i (b.getLsbD 7) (word16 lo hi) s
    | none => s
  | _ => s

/-! ### Tracking, writes and restarts -/

/-- An entry enters LOST (R34): latch, value absent, mark; then notice, indicator and usable event, which go to different blocks. -/
def enterLost (i : Fin 24) (s : State) : State :=
  let c := s.channel i
  let s1 := updRuntime i (fun r =>
    { r with
      lock := .lost
      window := none
      twoMissedLatch := true
      lastValue := none
      interrupted := r.interrupted || (s.channels.gate && c.defn.measured) }) s
  interleave
    ([[raiseNotice .channelLost i.val (BitVec.ofNat 16 c.defn.role.code)], [judgeLost]] ++
      (if c.usable then unusableHandings c.defn.role else [])) s1

/-- A channel's tracking window expires (R35). -/
def channelExpires (i : Fin 24) (s : State) : State :=
  match (s.channel i).rt.lock with
  | .locked =>
    updRuntime i (fun r =>
      { r with
        lock := .oneMissed
        oneMissedLatch := true
        window := (s.channel i).defn.startWindow s.partTime }) s
  | .oneMissed => enterLost i s
  | _ => updRuntime i (fun r => { r with window := none }) s

/-- CHANNEL WRITE answered DONE (R45), whole, with what it leads to in the arbiter (R181). -/
def writeChannel (i : Fin 24) (d : ChannelDef) (s : State) : State :=
  let c := s.channel i
  settleWaiting <| interleave ([[judgeLost]] ++ (if c.usable then unusableHandings c.defn.role else []))
    (setChannel i ⟨d, freshRuntime (s.channels.gate && d.measured)⟩ s)

/-- The entries named by CHANNEL RESTART returned to SEARCH (R47). -/
def ChannelUnit.restart (u : ChannelUnit) (which : Option Nat) : ChannelUnit :=
  { u with entries := u.entries.imap (fun k c =>
      if which = none ∨ which = some k then { c with rt := freshRuntime (u.gate && c.defn.measured) } else c) }

/-- CHANNEL RESTART (R47): the usable events of the entries that held a usable value, and the
indicator judged again, whole, with what they lead to in the arbiter (R181). None names all entries. -/
def restartChannels (which : Option Nat) (s : State) : State :=
  let lost := allEntries.filter (fun i => (s.channel i).usable && decide (which = none ∨ which = some i.val))
  settleWaiting <| interleave ([[judgeLost]] ++ (lost.map (fun i => unusableHandings (s.channel i).defn.role)).flatten)
    (s.withChannels (s.channels.restart which))

/-- ERROR RESET in the channel unit (R46): the latches and the range-error counts cleared. -/
def ChannelUnit.clearLatches (u : ChannelUnit) : ChannelUnit :=
  { u with entries := u.entries.map (fun c =>
      { c with rt := { c.rt with
          oneMissedLatch := false, twoMissedLatch := false, rangeLatch := false, faultLatch := false,
          rangeCount := 0#8 } }) }

/-! ### The limits of the table -/

/-- The enabled definitions of the table with a definition put in place of entry `i` (R28). -/
def ChannelUnit.enabledAfter (u : ChannelUnit) (i : Fin 24) (d : ChannelDef) : List ChannelDef :=
  (((u.entries.map Channel.defn).set i d).list).filter ChannelDef.enabled

/-- A write would leave two enabled entries with its key (R28). -/
def ChannelUnit.keyClash (u : ChannelUnit) (i : Fin 24) (d : ChannelDef) : Bool :=
  decide (1 < ((u.enabledAfter i d).filter (fun e =>
    decide (e.station = d.station) && decide (e.sub = d.sub))).length)

/-- A write would leave more enabled entries with its role than R28 allows. -/
def ChannelUnit.roleClash (u : ChannelUnit) (i : Fin 24) (d : ChannelDef) : Bool :=
  match d.role.limit with
  | none => false
  | some n => decide (n < ((u.enabledAfter i d).filter (fun e => decide (e.role = d.role))).length)

/-- The write breaks a limit of R28; a write whose Enabled is no never does. -/
def ChannelUnit.breaksLimit (u : ChannelUnit) (i : Fin 24) (d : ChannelDef) : Bool :=
  d.enabled && (u.keyClash i d || u.roleClash i d)

end Sys2Proof.Machine
end

