-- ==== Sys2Proof/Machine/MgmtOps.lean ====
section
/-! DEFINITION. The management unit: the tests of a request, owner loss, checking, the store and the
reset (Chapters 9 and 11). -/

namespace Sys2Proof.Machine

/-! ### The tests of R181 -/

/-- How the owner test treats a request: a read request, a modifying request, or one that claims no
owner, BEAT and RELEASE OWNER (R181 test 3). -/
inductive RequestMode where
  | read | modifying | noClaim
deriving DecidableEq, Repr

/-- The busy flag (R184): a SAVE's write runs, or a PICTURE READ is in progress. -/
def Mgmt.busy (m : Mgmt) : Bool := m.saving.isSome || m.reading.isSome

/-- The owner test (R181 test 3): none is NOT_OWNER; a first modifying request in AWAIT_PARAM claims the owner (R182). -/
def ownerTest (mode : RequestMode) (r : Sender) (s : State) : Option State :=
  match mode, s.mgmt.owner with
  | .read, _ => some s
  | _, some o => if o = r.station then some s else none
  | .modifying, none =>
    if s.mgmt.partState = .awaitParam then some (s.withMgmt { s.mgmt with owner := some r.station }) else none
  | .noClaim, none => none

/-- The examination the arbiter owes before a request is taken: a request is carried out whole, with its effects in
the arbiter, before the next (R163, R181); only that of a raise that is no request's may wait for GUARD MASK
(R165; log 39). -/
def settleBefore (c : Instr) (s : State) : State :=
  match s.guards.examineDue, c with
  | .raised, .guardMask _ _ => s
  | _, _ => settleWaiting s

/-- A request is taken, when the one before it is carried out whole: it leaves the list of requests handed to the
management unit (R181; log 6). -/
def takeRequest (c : Instr) (s : State) : State :=
  let t := settleBefore c s
  t.withMgmt { t.mgmt with inbox := t.mgmt.inbox.erase c }

/-- The tests of R181 that follow the busy test: owner, part state, then the request's own body. -/
def judgeRequest (r : Sender) (code : Nat) (mode : RequestMode) (admitted : PartState → Bool)
    (body : State → State) (s : State) : State :=
  match ownerTest mode r s with
  | none => answer r code .notOwner [] s
  | some t => if admitted t.mgmt.partState then body t else answer r code .wrongState [] t

/-- A request served (R181): busy, owner and part state are judged in order, then its own body runs. -/
def serve (c : Instr) (r : Sender) (code : Nat) (mode : RequestMode) (admitted : PartState → Bool)
    (body : State → State) (s : State) : State :=
  let t := takeRequest c s
  if t.mgmt.busy then answer r code .busy [] t else judgeRequest r code mode admitted body t

/-- A request the part does not know, or too short: BUSY, or UNKNOWN (R181 tests 1 and 2). -/
def serveUnknown (c : Instr) (r : Sender) (code : Nat) (s : State) : State :=
  let t := takeRequest c s
  answer r code (if t.mgmt.busy then .busy else .unknown) [] t

/-- A request refused, or answered DONE after its effect (R181). -/
def refuseOr (r : Sender) (code : Nat) (bad : Option Result) (effect : State → State) (s : State) : State :=
  match bad with
  | some e => answer r code e [] s
  | none => answer r code .done [] (effect s)

/-- A read request: refused, or answered DONE with its fields (R181). -/
def refuseOrRead (r : Sender) (code : Nat) (bad : Option Result) (fields : List Byte) (s : State) : State :=
  match bad with
  | some e => answer r code e [] s
  | none => answer r code .done fields s

/-- BAD_FIELD when a test fails. -/
def badWhen (bad : Bool) : Option Result := if bad then some .badField else none

/-! ### The columns of 9.7 -/

/-- Every part state. -/
def anyState : PartState → Bool := fun _ => true

/-- AWAIT_PARAM. -/
def inAwaitParam (p : PartState) : Bool := decide (p = .awaitParam)

/-- AWAIT_LAYOUT. -/
def inAwaitLayout (p : PartState) : Bool := decide (p = .awaitLayout)

/-- READY. -/
def inReady (p : PartState) : Bool := decide (p = .ready)

/-- REGULATING. -/
def inRegulating (p : PartState) : Bool := decide (p = .regulating)

/-- AWAIT_LAYOUT and READY (R187). -/
def inLayoutOrReady : PartState → Bool
  | .awaitLayout => true
  | .ready => true
  | _ => false

/-- READY and REGULATING. -/
def inReadyOrRegulating : PartState → Bool
  | .ready => true
  | .regulating => true
  | _ => false

/-- AWAIT_PARAM, AWAIT_LAYOUT and READY (R44, R52). -/
def inSetup : PartState → Bool
  | .awaitParam => true
  | .awaitLayout => true
  | .ready => true
  | _ => false

/-- Every state but REGULATING (R154). -/
def notRegulating (p : PartState) : Bool := decide (p ≠ .regulating)

/-! ### Part state and owner loss -/

/-- A part state entered and handed to the picture unit (R180). -/
def enterPart (p : PartState) (s : State) : State :=
  publish (s.withMgmt { s.mgmt with partState := p })

/-- The origin of a queued picture part once its read has been stopped (R183, R199). -/
def ReplyOrigin.stopped : ReplyOrigin → ReplyOrigin
  | .picture => .plain
  | o => o

/-- The management unit's own part of owner loss (R183, R190, R199). -/
def Mgmt.loseOwner (m : Mgmt) : Mgmt :=
  { m with
    owner := none
    partState := .awaitParam
    checking := none
    reading := none
    waiting := m.waiting.filter (fun r => decide (r.origin ≠ .picture))
    outstanding := ⟨m.outstanding.s.map ReplyOrigin.stopped, m.outstanding.m.map ReplyOrigin.stopped⟩
    pendingParams := m.params }

/-- The heartbeat STOPPED (R175). -/
def stopBeat (s : State) : State := s.withSafe { s.safe with beatRunning := false }

/-- Owner loss (R183): the effects in different blocks are not ordered. -/
def loseOwner (s : State) : State :=
  let was := s.mgmt.partState
  interleave
    ((if was = .awaitParam then [] else [[publish]]) ++ [[moveOwnerLoss], [regOwnerLoss was]])
    (stopBeat (s.withMgmt s.mgmt.loseOwner))

/-- The heartbeat expires (R177): it stops; the notice and the owner loss are not ordered. -/
def beatExpires (s : State) : State :=
  interleave
    [[raiseNotice .beatExpired (s.mgmt.owner.getD 0#8).toNat (BitVec.ofNat 16 s.mgmt.params.beatInterval)],
     [loseOwner]]
    (stopBeat s)

/-! ### Layout and checking -/

/-- The roster tests of LAYOUT CLOSE fail for a setting (R188): no drive station, a shared one, or the own station. -/
def State.layoutFault (s : State) (st : Setting) : Bool :=
  match s.driveStation st with
  | none => true
  | some d =>
    decide (d = s.ownStation) || Setting.all.any (fun o => decide (o ≠ st) && decide (s.driveStation o = some d))

/-- The lowest setting the roster tests concern (R188, R205). -/
def State.firstLayoutFault (s : State) : Option Setting := Setting.all.find? s.layoutFault

/-- An IDENT_ASK queued to a setting's drive (R189 step 1, R16, R18). -/
def askIdent (st : Setting) (s : State) : State :=
  match s.driveStation st with
  | some d => queuePart (Frame.make d s.ownStation .identAsk 0#4 []) s
  | none => s

/-- A setting asked: the ask count and the answer timer, and the IDENT_ASK (R189). -/
def askSetting (st : Setting) (asks : Nat) (s : State) : State :=
  askIdent st (s.withMgmt { s.mgmt with checking := some ⟨st, asks, ⟨s.partTime, Config.answerTicks⟩⟩ })

/-- CHECKING entered: DRUM is asked first (R189). -/
def startChecking (s : State) : State := askSetting .drum 1 (enterPart .checking s)

/-- Checking ends: the record is cleared, a notice is raised, the part state changes (R189). -/
def endChecking (next : PartState) (kind : NoticeKind) (subject : Nat) (detail : Nat) (s : State) : State :=
  interleave [[raiseNotice kind subject (BitVec.ofNat 16 detail)], [publish]]
    (s.withMgmt { s.mgmt with checking := none, partState := next })

/-- A drive fails: LAYOUT_CONFLICT, and the part returns to AWAIT_LAYOUT (R189). -/
def failDrive (st : Setting) (cause : Nat) (s : State) : State :=
  endChecking .awaitLayout .layoutConflict st.num cause s

/-- The next setting in checking order (R189). -/
def nextSetting : Setting → Option Setting
  | .drum => some .concave
  | .concave => some .upper
  | .upper => some .lower
  | .lower => some .fan
  | .fan => none

/-- A drive passes: the next one is asked, and after FAN the part is READY (R189). -/
def passDrive (st : Setting) (s : State) : State :=
  match nextSetting st with
  | some n => askSetting n 1 s
  | none => endChecking .ready .checkPassed s.ownStation.toNat 5 s

/-- The cause with which an IDENT fails its drive, 0 when it passes (R189 step 2). That an IDENT with both a wrong
Drive kind and a bad range fails its drive with WRONG_KIND is the model's choice (log 40). -/
def identFault (p : Params) (st : Setting) (kind : Byte) (lo hi : Word16) : Nat :=
  if kind.toNat ≠ st.num then 2
  else if p.globalMin st < lo.toNat ∨ hi.toNat < p.globalMax st then 3 else 0

/-- An IDENT frame handed to the management unit (R189): ignored outside CHECKING and from any other station. -/
def takeIdent (f : Frame) (s : State) : State :=
  match s.mgmt.checking, f.payload with
  | some c, [k, a0, a1, b0, b1] =>
    if s.driveStation c.setting = some f.source then
      match identFault s.mgmt.params c.setting k (word16 a0 a1) (word16 b0 b1) with
      | 0 => passDrive c.setting s
      | cause => failDrive c.setting cause s
    else s
  | _, _ => s

/-- The answer timer expires (R189 step 3). -/
def answerExpires (c : Checking) (s : State) : State :=
  if c.asks < 2 then askSetting c.setting 2 s else failDrive c.setting 1 s

/-! ### The store and the reset -/

/-- The image of the configuration as it stands (R202). -/
def State.snapshot (s : State) : Image :=
  { params := s.mgmt.params
    roster := s.moves.roster
    channels := s.channels.entries.map Channel.defn
    axes := PerAxis.tabulate (fun a => (s.classifier.axes.get a).defn)
    bankA := s.map.bankA
    bankB := s.map.bankB
    active := s.map.active
    substitute := s.safe.substitute
    guards := s.guards.table.map Guard.config }

/-- A store write in progress is cut short, leaving an image whose check fails (R203). -/
def cutShort (s : State) : State :=
  match s.mgmt.saving with
  | some _ => (s.withStore { s.store with content := .torn }).withMgmt { s.mgmt with saving := none }
  | none => s

/-- Every block at its after-reset value, with the straps read and the store loaded (R204 steps 1 to 4).
The commands that wait and the order field stay; a request still in the management unit's list is lost (log 36). -/
def resetBlocks (straps : BitVec 3) (s : State) : State :=
  let i := s.store.loaded
  { partTime := 0#32
    pins := { straps := straps, inReset := false, hdrDown := none, sepOn := none, safeOut := false, attn := false }
    link := resetLink
    channels := resetChannels i
    classifier := resetClassifier i
    map := resetMap i
    moves := resetMoves i
    regulator := resetRegulator
    guards := resetGuards i
    safe := resetSafe i
    mgmt := resetMgmt i s.store.holdsImage
    notices := resetNotices
    pictures := resetPictures i
    store := s.store
    keep := none
    order := s.order
    pending := s.pending }

/-- The store was found failed: STORE_FAULT is raised (R202, R204 step 5). -/
def judgeStore (s : State) : State :=
  match s.store.found with
  | .failed => raiseNotice .storeFault s.ownStation.toNat 1#16 s
  | _ => s

/-- The reset acts (R204), cutting short a store write that still runs (R203). -/
def resetPart (straps : BitVec 3) (s : State) : State := judgeStore (resetBlocks straps (cutShort s))

end Sys2Proof.Machine
end

