-- ==== Sys2Proof/Machine/TimerEvents.lean ====
section
/-! DEFINITION. The family of timers, lines and resets. A timer's expiry acts only when the timer runs
and its length has passed (R33, R59, R116, R150, R164; log 3). -/

namespace Sys2Proof.Machine

/-- The tracking window of an entry has run out (R33). -/
def State.channelDue (s : State) (i : Fin 24) : Bool := timerDue s.partTime (s.channel i).rt.window

/-- CHANNEL_WINDOW_EXPIRY (R35). -/
def execChannelWindowExpiry (i : Fin 24) (s : State) : Outcome :=
  live (fun s => if s.channelDue i then channelExpires i s else s) s

/-- The class dwell has run out (R59). -/
def State.dwellDue (s : State) : Bool := timerDue s.partTime s.classifier.dwell

/-- DWELL_EXPIRY (R61). -/
def execDwellExpiry (s : State) : Outcome :=
  live (fun s => if s.dwellDue then adoptCandidate s else s) s

/-- The accept timer of a record in ISSUED has run out (R99). -/
def State.acceptDue (s : State) (st : Setting) : Bool :=
  decide ((s.record st).state = .issued) && timerDue s.partTime (s.record st).acceptTimer

/-- ACCEPT_TIMER_EXPIRY (R99). -/
def execAcceptTimerExpiry (st : Setting) (s : State) : Outcome :=
  live (fun s => if s.acceptDue st then acceptExpires st s else s) s

/-- The move timer of a record in MOVING has run out (R99). -/
def State.moveDue (s : State) (st : Setting) : Bool :=
  decide ((s.record st).state = .moving) && timerDue s.partTime (s.record st).moveTimer

/-- MOVE_TIMER_EXPIRY (R99). -/
def execMoveTimerExpiry (st : Setting) (s : State) : Outcome :=
  live (fun s => if s.moveDue st then enterFault st .moveTimeout s else s) s

/-- The tracking window of a drive's REPORT stream has run out (R103). -/
def State.trackingDue (s : State) (st : Setting) : Bool := timerDue s.partTime (s.record st).trackWindow

/-- DRIVE_TRACKING_EXPIRY (R103). -/
def execDriveTrackingExpiry (st : Setting) (s : State) : Outcome :=
  live (fun s => if s.trackingDue st then trackingExpires st s else s) s

/-- A window timer runs and has run out (R116). -/
def State.windowDue (s : State) (w : WindowId) : Bool :=
  match s.regulator.window with
  | some (v, t) => decide (v = w) && t.due s.partTime
  | none => false

/-- WINDOW_A_EXPIRY (R121, R127, R130). -/
def execWindowAExpiry (s : State) : Outcome :=
  live (fun s => if s.windowDue .a then windowAEnds s else s) s

/-- WINDOW_B_EXPIRY (R122). -/
def execWindowBExpiry (s : State) : Outcome :=
  live (fun s => if s.windowDue .b then windowBEnds s else s) s

/-- The slip dwell of a rotor has run out (R150). -/
def State.slipDue (s : State) (w : Rotor) : Bool := timerDue s.partTime (s.guards.slipTimer w)

/-- SLIP_DWELL_EXPIRY (R150): the timer becomes STOPPED and the condition active. -/
def execSlipDwellExpiry (w : Rotor) (s : State) : Outcome :=
  live (fun s => if s.slipDue w then setCondition w.source true (setSlipTimer w none s) else s) s

/-- The clear dwell of an ACTING guard has run out (R164). -/
def State.clearDue (s : State) (n : Fin 12) : Bool :=
  decide ((s.guards.guard n).state = .acting) && timerDue s.partTime (s.guards.guard n).clearTimer

/-- CLEAR_DWELL_EXPIRY (R164): released with cause AUTO. -/
def execClearDwellExpiry (n : Fin 12) (s : State) : Outcome :=
  live (fun s => if s.clearDue n then releaseGuard n 2 s else s) s

/-- The level a machine line has settled at (R151). -/
def settleLine (line : MachineLine) (high : Bool) (s : State) : State :=
  match line with
  | .hdrDown => setCondition 8 (!high) (s.withPins { s.pins with hdrDown := some high })
  | .sepOn => setCondition 9 (!high) (s.withPins { s.pins with sepOn := some high })

/-- LINE_LEVEL_SETTLED (R151): HEADER_UP and SEPARATOR_OFF are active while their lines are low. -/
def execLineLevelSettled (line : MachineLine) (high : Bool) (s : State) : Outcome :=
  live (settleLine line high) s

/-- The heartbeat RUNNING with its count at 0 (R175). -/
def State.beatDue (s : State) : Bool := s.safe.beatRunning && decide (s.safe.beatCount = 0#16)

/-- HEARTBEAT_EXPIRY (R177). -/
def execHeartbeatExpiry (s : State) : Outcome :=
  live (fun s => if s.beatDue then beatExpires s else s) s

/-- The answer timer of checking has run out (R189). -/
def State.answerDue (s : State) : Bool :=
  match s.mgmt.checking with
  | some c => c.timer.due s.partTime
  | none => false

/-- ANSWER_TIMER_EXPIRY (R189). -/
def execAnswerTimerExpiry (s : State) : Outcome :=
  live (fun s =>
    match s.mgmt.checking with
    | some c => if c.timer.due s.partTime then answerExpires c s else s
    | none => s) s

/-- The store write of a SAVE ends (R203): the image is whole, the image-held flag set, the busy
period over, and DONE is queued toward the sender's side. The image's check is written with it (R202). -/
def endSave (j : SaveJob) (s : State) : State :=
  answer j.sender 47 .done []
    ((s.withStore (.written j.image)).withMgmt { s.mgmt with saving := none, imageHeld := true })

/-- SAVE_WRITE_END (R203): at any time while the write runs (log 19). -/
def execSaveWriteEnd (s : State) : Outcome :=
  live (fun s =>
    match s.mgmt.saving with
    | some j => endSave j s
    | none => s) s

/-- POWER_ON_RESET (R204): RESET is released, or power is applied. -/
def execPowerOnReset (straps : BitVec 3) (s : State) : Outcome := .next (resetPart straps s)

/-- RESTART_ACT (R24, R204): acts once the DONE of a RESTART has left its queue. -/
def execRestartAct (straps : BitVec 3) (s : State) : Outcome :=
  live (fun s => if s.mgmt.restartDue then resetPart straps s else s) s

/-- RESET_DRIVEN_ACTIVE (R173, R203, R204): SAFE_OUT goes inactive, a store write is cut short, and the part stops working. -/
def execResetDrivenActive (s : State) : Outcome :=
  live (fun s =>
    let t := cutShort s
    t.withPins { t.pins with inReset := true, safeOut := false }) s

end Sys2Proof.Machine
end

