-- ==== Sys2Proof/Machine/Clock.lean ====
section
/-! DEFINITION. What the part does by itself, when no command waits in its queue: it takes up the
requests handed to its management unit and the events that are due, and otherwise part time goes on
by 10 ms (00_scope.md, Terms; log 2). -/

namespace Sys2Proof.Machine

/-- A command when its event is due. -/
def dueWhen (due : Bool) (c : Instr) : List (List Instr) := if due then [[c]] else []

/-- The store write of a SAVE has run for its longest time (R203; log 19). -/
def State.saveDue (s : State) : Bool :=
  match s.mgmt.saving with
  | some j => decide (Config.storeWriteTicks ≤ (s.partTime - j.started).toNat)
  | none => false

/-- The timers that have run out. -/
def State.dueTimers (s : State) : List (List Instr) :=
  (allEntries.map (fun i => dueWhen (s.channelDue i) (.channelWindowExpiry i))).flatten ++
  dueWhen s.dwellDue .dwellExpiry ++
  (Setting.all.map (fun st =>
    dueWhen (s.acceptDue st) (.acceptTimerExpiry st) ++ dueWhen (s.moveDue st) (.moveTimerExpiry st) ++
    dueWhen (s.trackingDue st) (.driveTrackingExpiry st))).flatten ++
  dueWhen (s.windowDue .a) .windowAExpiry ++ dueWhen (s.windowDue .b) .windowBExpiry ++
  dueWhen (s.slipDue .drum) (.slipDwellExpiry .drum) ++ dueWhen (s.slipDue .fan) (.slipDwellExpiry .fan) ++
  (allSources.map (fun n => dueWhen (s.clearDue n) (.clearDwellExpiry n))).flatten ++
  dueWhen s.beatDue .heartbeatExpiry ++ dueWhen s.answerDue .answerTimerExpiry

/-- What is due beside the timers: the end of a store write, a reply that can be handed to a port,
and the reset of a RESTART, with the straps as last read (log 9, log 19, log 25). -/
def State.dueOthers (s : State) : List (List Instr) :=
  dueWhen s.saveDue .saveWriteEnd ++ dueWhen (s.canHandOver .s) (.replyHandover .s) ++
  dueWhen (s.canHandOver .m) (.replyHandover .m) ++ dueWhen s.mgmt.restartDue (.restartAct s.pins.straps)

/-- The chains of the agenda: the requests handed to the management unit in their order, and each
due event by itself. -/
def State.agendaChains (s : State) : List (List Instr) := [s.mgmt.inbox] ++ s.dueTimers ++ s.dueOthers

/-- The agenda, in an order the state's `order` field picks, with what is left of the field (log 4). -/
def State.agenda (s : State) : List Instr × List Nat :=
  mergeChains s.agendaChains.flatten.length s.order s.agendaChains

/-- The count of a RUNNING heartbeat falls by one (R175). -/
def SafeBlock.tick (b : SafeBlock) : SafeBlock :=
  if b.beatRunning ∧ b.beatCount ≠ 0#16 then { b with beatCount := b.beatCount - 1#16 } else b

/-- Part time goes on by 10 ms. -/
def tick (s : State) : State := (s.withPartTime (s.partTime + 1#32)).withSafe s.safe.tick

/-- The agenda becomes the queue; the requests leave the management unit's list. One that stands behind a
RESTART_ACT of the same agenda is taken after that reset (log 36). -/
def takeUp (agenda : List Instr) (choices : List Nat) (s : State) : State :=
  ((s.withMgmt { s.mgmt with inbox := [] }).withOrder choices).withPending agenda

/-- The step on an empty queue (log 2): a keep that waits is taken (log 37), else an examination that was
put off is made (log 39), else what is due is taken up, else
part time goes on. Nothing happens while RESET is driven active (log 16). -/
def idle (s : State) : State :=
  if s.pins.inReset then s
  else if s.keep.isSome then takeWaitingKeep s
  else if s.guards.examineDue ≠ .no then settleGuards s
  else if s.agendaChains.flatten.isEmpty then tick s
  else takeUp s.agenda.1 s.agenda.2 s

end Sys2Proof.Machine
end

