-- ==== Sys2Proof/Machine/ChannelRequests.lean ====
section
/-! DEFINITION. The family of channel requests: CHANNEL READ, CHANNEL WRITE, ERROR RESET, CHANNEL
RESTART (2.10). -/

namespace Sys2Proof.Machine

/-- The fields of CHANNEL READ, View 0: the definition (R43). -/
def channelDefFields (index : Byte) (d : ChannelDef) : List Byte :=
  [index, channelFlags d, d.station, d.sub.setWidth 8, byteOf d.role.code] ++ le16 d.gain ++ le16 d.offset ++
  le16 d.plausibleMin ++ le16 d.plausibleMax ++ [d.period]

/-- The fields of CHANNEL READ, View 1: the runtime record (R43). -/
def channelRtFields (index : Byte) (gate : Bool) (r : ChannelRt) : List Byte :=
  [index, byteOf r.lock.code, channelMarks r gate, r.rangeCount] ++ optional16 r.lastValue ++
  le32 (r.lastTime.getD 0#32) ++ le32 r.sum ++ le16 r.count

/-- The body of CHANNEL READ (R43). -/
def readChannel (r : Sender) (index view : Byte) (s : State) : State :=
  match s.channels.entries.get? index.toNat, view.toNat with
  | some c, 0 => answer r 1 .done (channelDefFields index c.defn) s
  | some c, 1 => answer r 1 .done (channelRtFields index s.channels.gate c.rt) s
  | _, _ => answer r 1 .badField [] s

/-- CHANNEL_READ (R43). -/
def execChannelRead (r : Sender) (index view : Byte) (s : State) : Outcome :=
  live (serve (.channelRead r index view) r 1 .read anyState (readChannel r index view)) s

/-- The definition the fields of CHANNEL WRITE give, if they pass its BAD_FIELD tests (R44). -/
def channelOfFields (own : Byte) (f : ChannelFields) : Option ChannelDef :=
  match Role.ofCode f.role.toNat with
  | none => none
  | some role =>
    if 62 < f.station.toNat ∨ f.station = own ∨ 3 < f.sub.toNat ∨
        f.plausibleMax.toInt ≤ f.plausibleMin.toInt ∨ highBitsClear 3 f.flags = false then none
    else some
      { enabled := f.flags.getLsbD 0, station := f.station, sub := f.sub.setWidth 2, role := role,
        gain := f.gain, offset := f.offset, plausibleMin := f.plausibleMin, plausibleMax := f.plausibleMax,
        period := f.period, mirror := f.flags.getLsbD 1, required := f.flags.getLsbD 2 }

/-- The body of CHANNEL WRITE: BAD_FIELD, then CONFLICT under R28, else the write (R44, R45). -/
def bodyChannelWrite (r : Sender) (index : Byte) (f : ChannelFields) (s : State) : State :=
  if h : index.toNat < 24 then
    match channelOfFields s.ownStation f with
    | none => answer r 2 .badField [] s
    | some d =>
      refuseOr r 2 (if s.channels.breaksLimit ⟨index.toNat, h⟩ d then some .conflict else none)
        (writeChannel ⟨index.toNat, h⟩ d) s
  else answer r 2 .badField [] s

/-- CHANNEL_WRITE (R44, R45). -/
def execChannelWrite (r : Sender) (index : Byte) (f : ChannelFields) (s : State) : Outcome :=
  live (serve (.channelWrite r index f) r 2 .modifying inSetup (bodyChannelWrite r index f)) s

/-- The five link counters of a port cleared (R23). -/
def PortState.clearCounters (ps : PortState) : PortState :=
  { ps with good := 0#16, checkErrors := 0#16, filtered := 0#16, forwardDrops := 0#16, collisionDrops := 0#16 }

/-- The effects of ERROR RESET: channel latches (R46), link counters (R23), lost notices (R195), move unit (R106). -/
def resetErrors (s : State) : State :=
  let s1 := s.withChannels s.channels.clearLatches
  let s2 := updPort .m PortState.clearCounters (updPort .s PortState.clearCounters s1)
  repairMoves (s2.withNotices { s2.notices with lost := 0#16 })

/-- ERROR_RESET (R46). -/
def execErrorReset (r : Sender) (s : State) : Outcome :=
  live (serve (.errorReset r) r 3 .modifying anyState (refuseOr r 3 none resetErrors)) s

/-- CHANNEL_RESTART (R47): an Index of 0 to 23 or 255; anything else is BAD_FIELD. -/
def execChannelRestart (r : Sender) (index : Byte) (s : State) : Outcome :=
  live (serve (.channelRestart r index) r 4 .modifying anyState
    (refuseOr r 4 (badWhen (decide (23 < index.toNat) && decide (index ≠ 255#8)))
      (restartChannels (if index = 255#8 then none else some index.toNat)))) s

end Sys2Proof.Machine
end

