-- ==== Sys2Proof/Decode.lean ====
section
/-! DEFINITION. From the payload of a REQUEST frame to the command it stands for (R5, R181) and back, and the
host's `decodeTableWord`: the table gives no row bits, so no word spells a command. -/

namespace Sys2Proof

open Machine

/-- Two-byte values, low byte first, as many as asked for; none when there are too few bytes. -/
def takeWords : Nat → List Byte → Option (List Word16)
  | 0, _ => some []
  | n + 1, lo :: hi :: rest => (takeWords n rest).map (word16 lo hi :: ·)
  | _ + 1, _ => none

/-- Five two-byte values, DRUM to FAN. -/
def takeFigures (bytes : List Byte) : Option (PerSetting Word16) :=
  match takeWords 5 bytes with
  | some [a, b, c, d, e] => some ⟨a, b, c, d, e⟩
  | _ => none

/-- A cell record: five targets, Flags, Llim, Tlim, 15 bytes (R77). -/
def takeCellFields (bytes : List Byte) : Option CellFields :=
  match takeFigures bytes, bytes.drop 10 with
  | some t, fl :: l0 :: l1 :: t0 :: t1 :: _ => some ⟨t, fl, word16 l0 l1, word16 t0 t1⟩
  | _, _ => none

/-- The five FAN and UPPER offsets of SIDETRIM WRITE (R80). -/
def takeSideTrims (bytes : List Byte) : Option (PerSide (Word16 × Word16)) :=
  match takeWords 10 bytes with
  | some [a, b, c, d, e, f, g, h, i, j] => some ⟨(a, b), (c, d), (e, f), (g, h), (i, j)⟩
  | _ => none

/-- How many thresholds AXIS WRITE must carry, by its Axis (R52); none for an Axis out of range (R181). -/
def axisWords (axis : Byte) : Nat :=
  match Axis.ofNum axis.toNat with
  | some a => a.highest
  | none => 0

/-- How many step words PLAN WRITE must carry, by its Count (R79); none for a Count out of range (R181). -/
def planWords (count : Byte) : Nat := if 8 < count.toNat then 0 else count.toNat

/-- The words of a request that asks for `n`: the first `n`, those beyond them ignored; none when there are
too few (R181 test 2). -/
def wordsAsked (n : Nat) (words : List Word16) : Option (List Word16) :=
  if words.length < n then none else some (words.take n)

/-- The fields of an AXIS WRITE after its Axis (R52); an Axis out of range needs no further field (R181). -/
def decodeAxisWrite (r : Sender) (axis : Byte) (rest : List Byte) : Option Instr :=
  match Axis.ofNum axis.toNat with
  | none => some (.axisWrite r axis 0#16 0#8 [])
  | some a =>
    match rest with
    | h0 :: h1 :: d :: ts => (takeWords a.highest ts).map (.axisWrite r axis (word16 h0 h1) d ·)
    | _ => none

/-- The step words of a PLAN WRITE (R79). -/
def decodePlanWrite (r : Sender) (bank count : Byte) (rest : List Byte) : Option Instr :=
  (takeWords (planWords count) rest).map (.planWrite r bank count ·)

/-- The request a code and its fields spell (R181); none when the code is unknown or the payload is
too short. Bytes beyond the last field are ignored. -/
def decodeKnown (r : Sender) (code : Nat) (fields : List Byte) : Option Instr :=
  match code, fields with
  | 1, i :: v :: _ => some (.channelRead r i v)
  | 2, i :: fl :: st :: sub :: role :: g0 :: g1 :: o0 :: o1 :: a0 :: a1 :: b0 :: b1 :: p :: _ =>
    some (.channelWrite r i ⟨fl, st, sub, role, word16 g0 g1, word16 o0 o1, word16 a0 a1, word16 b0 b1, p⟩)
  | 3, _ => some (.errorReset r)
  | 4, i :: _ => some (.channelRestart r i)
  | 5, a :: rest => decodeAxisWrite r a rest
  | 6, v :: a :: _ => some (.classRead r v a)
  | 7, b :: c :: rest => (takeCellFields rest).map (.cellWrite r b c ·)
  | 8, b :: ml :: mh :: fl :: fh :: sl :: sh :: rest =>
    (takeCellFields rest).map (.cellFill r b ⟨ml, mh, fl, fh, sl, sh⟩ ·)
  | 9, b :: n :: rest => decodePlanWrite r b n rest
  | 10, b :: rest => (takeSideTrims rest).map (.sidetrimWrite r b ·)
  | 11, b :: l0 :: l1 :: m0 :: m1 :: t0 :: t1 :: _ =>
    some (.headerWrite r b (word16 l0 l1) (word16 m0 m1) (word16 t0 t1))
  | 12, b :: c :: v :: sd :: _ => some (.cellRead r b c v sd)
  | 13, b :: v :: _ => some (.bankRead r b v)
  | 14, b :: _ => some (.bankClear r b)
  | 15, _ => some (.bankCopy r)
  | 16, _ => some (.switchBank r)
  | 17, b :: c :: _ => some (.clearTrims r b c)
  | 18, m :: _ => some (.holdAdjust r m)
  | 19, m :: _ => some (.releaseAdjust r m)
  | 20, m :: _ => some (.releaseOnce r m)
  | 21, s :: _ => some (.moveRead r s)
  | 22, a0 :: a1 :: b0 :: b1 :: c0 :: c1 :: _ =>
    some (.tuneWindows r (word16 a0 a1) (word16 b0 b1) (word16 c0 c1))
  | 23, _ => some (.regulatorRead r)
  | 24, n :: p :: fl :: a :: cd :: _ => some (.guardConfig r n ⟨p, fl, a, cd⟩)
  | 25, m0 :: m1 :: _ => some (.guardMask r (word16 m0 m1))
  | 26, f :: _ => some (.guardFloor r f)
  | 27, n :: _ => some (.guardRelease r n)
  | 28, _ => some (.guardRaise r)
  | 29, v :: n :: _ => some (.guardPeek r v n)
  | 30, m :: rest => (takeFigures rest).map (.substituteWrite r m ·)
  | 31, _ => some (.beatEnable r)
  | 32, _ => some (.beatDisable r)
  | 33, _ => some (.beat r)
  | 34, _ => some (.substituteRead r)
  | 35, i :: v0 :: v1 :: _ => some (.paramWrite r i (word16 v0 v1))
  | 36, _ => some (.paramClose r)
  | 37, _ => some (.paramOpen r)
  | 38, v :: i :: _ => some (.paramRead r v i)
  | 39, a0 :: a1 :: b0 :: b1 :: c0 :: c1 :: d0 :: d1 :: e0 :: e1 :: _ =>
    some (.layoutWrite r ⟨(a0, a1), (b0, b1), (c0, c1), (d0, d1), (e0, e1)⟩)
  | 40, _ => some (.layoutClose r)
  | 41, _ => some (.start r)
  | 42, _ => some (.stop r)
  | 43, _ => some (.releaseOwner r)
  | 44, _ => some (.fetchNotices r)
  | 45, _ => some (.pictureRead r)
  | 46, _ => some (.countersRead r)
  | 47, _ => some (.save r)
  | 48, _ => some (.restart r)
  | 49, _ => some (.resume r)
  | _, _ => none

/-- The command of a REQUEST whose payload is `code` and `fields`; what the part does not know, or
what is too short, is UNKNOWN_REQUEST (R181 test 2). -/
def decodeRequest (r : Sender) (code : Byte) (fields : List Byte) : Instr :=
  (decodeKnown r code.toNat fields).getD (.unknownRequest r code fields)

/-- Two-byte values as bytes, low byte first (R5). -/
def wordBytes (words : List Word16) : List Byte := (words.map le16).flatten

/-- The bytes of a cell record: five targets, Flags, Llim, Tlim (R77). -/
def CellFields.bytes (f : CellFields) : List Byte :=
  wordBytes f.targets.toList ++ [f.flags] ++ le16 f.llim ++ le16 f.tlim

/-- The request fields that spell a command: the payload of its REQUEST after the request code, from
the field lists of the chapters (R5, R181). -/
def encodeFields : Instr → List Byte
  | .unknownRequest _ _ fields => fields
  | .channelRead _ index view => [index, view]
  | .channelWrite _ index f =>
    [index, f.flags, f.station, f.sub, f.role] ++ le16 f.gain ++ le16 f.offset ++ le16 f.plausibleMin ++
    le16 f.plausibleMax ++ [f.period]
  | .channelRestart _ index => [index]
  | .axisWrite _ axis hysteresis defaultBand thresholds =>
    [axis] ++ le16 hysteresis ++ [defaultBand] ++ wordBytes thresholds
  | .classRead _ view axis => [view, axis]
  | .cellWrite _ bank cell f => [bank, cell] ++ f.bytes
  | .cellFill _ bank b f =>
    [bank, b.moistureLow, b.moistureHigh, b.feedLow, b.feedHigh, b.slopeLow, b.slopeHigh] ++ f.bytes
  | .planWrite _ bank count steps => [bank, count] ++ wordBytes steps
  | .sidetrimWrite _ bank offsets => bank :: (offsets.toList.map (fun p => le16 p.1 ++ le16 p.2)).flatten
  | .headerWrite _ bank label llim tlim => [bank] ++ le16 label ++ le16 llim ++ le16 tlim
  | .cellRead _ bank cell view side => [bank, cell, view, side]
  | .bankRead _ bank view => [bank, view]
  | .bankClear _ bank => [bank]
  | .clearTrims _ bank cell => [bank, cell]
  | .holdAdjust _ mask => [mask]
  | .releaseAdjust _ mask => [mask]
  | .releaseOnce _ mask => [mask]
  | .moveRead _ setting => [setting]
  | .tuneWindows _ settle measure recheck => le16 settle ++ le16 measure ++ le16 recheck
  | .guardConfig _ source f => [source, f.priority, f.flags, f.action, f.clearDwell]
  | .guardMask _ mask => le16 mask
  | .guardFloor _ floor => [floor]
  | .guardRelease _ source => [source]
  | .guardPeek _ view source => [view, source]
  | .substituteWrite _ presentMask values => presentMask :: wordBytes values.toList
  | .paramWrite _ item value => item :: le16 value
  | .paramRead _ view item => [view, item]
  | .layoutWrite _ pairs => (pairs.toList.map (fun p => [p.1, p.2])).flatten
  | _ => []

/-- The command a word spells by the table's bits. No row of spec/opcode_table.json gives bits. -/
def decodeTableWord (_nbits _w : Nat) : Option Instr := none

end Sys2Proof
end

