-- ==== Sys2Proof/WellFormed.lean ====
section
/-! DEFINITION. When a command is well formed: its operands are ones that can arise on the link. -/

namespace Sys2Proof

/-- The sender of a request is a station, 0 to 62 (R3, R7 check 5). -/
def Sender.wellFormed (r : Sender) : Bool := decide (r.station.toNat ≤ 62)

/-- AXIS WRITE, as it is read from the link, holds exactly the thresholds its Axis asks for (R52, R181). -/
def axisWriteWellFormed (axis : Byte) (thresholds : List Word16) : Bool := thresholds.length == axisWords axis

/-- PLAN WRITE, as it is read from the link, holds exactly the step words its Count asks for (R79, R181). -/
def planWriteWellFormed (count : Byte) (steps : List Word16) : Bool := steps.length == planWords count

/-- The sender and the code of a request (R181); none for the other commands. -/
def Instr.request : Instr → Option (Sender × Nat)
  | .unknownRequest r code _ => some (r, code.toNat)
  | .channelRead r _ _ => some (r, 1)
  | .channelWrite r _ _ => some (r, 2)
  | .errorReset r => some (r, 3)
  | .channelRestart r _ => some (r, 4)
  | .axisWrite r _ _ _ _ => some (r, 5)
  | .classRead r _ _ => some (r, 6)
  | .cellWrite r _ _ _ => some (r, 7)
  | .cellFill r _ _ _ => some (r, 8)
  | .planWrite r _ _ _ => some (r, 9)
  | .sidetrimWrite r _ _ => some (r, 10)
  | .headerWrite r _ _ _ _ => some (r, 11)
  | .cellRead r _ _ _ _ => some (r, 12)
  | .bankRead r _ _ => some (r, 13)
  | .bankClear r _ => some (r, 14)
  | .bankCopy r => some (r, 15)
  | .switchBank r => some (r, 16)
  | .clearTrims r _ _ => some (r, 17)
  | .holdAdjust r _ => some (r, 18)
  | .releaseAdjust r _ => some (r, 19)
  | .releaseOnce r _ => some (r, 20)
  | .moveRead r _ => some (r, 21)
  | .tuneWindows r _ _ _ => some (r, 22)
  | .regulatorRead r => some (r, 23)
  | .guardConfig r _ _ => some (r, 24)
  | .guardMask r _ => some (r, 25)
  | .guardFloor r _ => some (r, 26)
  | .guardRelease r _ => some (r, 27)
  | .guardRaise r => some (r, 28)
  | .guardPeek r _ _ => some (r, 29)
  | .substituteWrite r _ _ => some (r, 30)
  | .beatEnable r => some (r, 31)
  | .beatDisable r => some (r, 32)
  | .beat r => some (r, 33)
  | .substituteRead r => some (r, 34)
  | .paramWrite r _ _ => some (r, 35)
  | .paramClose r => some (r, 36)
  | .paramOpen r => some (r, 37)
  | .paramRead r _ _ => some (r, 38)
  | .layoutWrite r _ => some (r, 39)
  | .layoutClose r => some (r, 40)
  | .start r => some (r, 41)
  | .stop r => some (r, 42)
  | .releaseOwner r => some (r, 43)
  | .fetchNotices r => some (r, 44)
  | .pictureRead r => some (r, 45)
  | .countersRead r => some (r, 46)
  | .save r => some (r, 47)
  | .restart r => some (r, 48)
  | .resume r => some (r, 49)
  | _ => none

open Machine in
/-- The operands a request carries beside its sender can arise: a request the part knows is not
spelled as an unknown one, and AXIS WRITE and PLAN WRITE hold the words their Axis or Count asks for. -/
def Instr.fieldsWellFormed : Instr → Bool
  | .unknownRequest r code fields => (decodeKnown r code.toNat fields).isNone
  | .axisWrite _ axis hysteresis defaultBand thresholds =>
    axisWriteWellFormed axis thresholds &&
    (decide (axis.toNat ≤ 3) || (decide (hysteresis = 0#16) && decide (defaultBand = 0#8)))
  | .planWrite _ _ count steps => planWriteWellFormed count steps
  | _ => true

/-- The operands of a command can arise. -/
def Instr.wellFormed (i : Instr) : Bool :=
  (match i.request with
   | some (r, _) => r.wellFormed
   | none => true) && i.fieldsWellFormed

end Sys2Proof
end

