-- ==== Sys2Proof/Machine/ClassRequests.lean ====
section
/-! DEFINITION. The family of classifier requests: AXIS WRITE, CLASS READ (Chapter 3). -/

namespace Sys2Proof.Machine

/-- The BAD_FIELD tests of AXIS WRITE on an axis in range (R52). -/
def axisFieldsBad (a : Axis) (hysteresis : Word16) (defaultBand : Byte) (thresholds : List Word16) : Bool :=
  decide (1000 < hysteresis.toNat) || decide (a.highest < defaultBand.toNat) || !strictlyAscending thresholds

/-- The body of AXIS WRITE (R52, R53). -/
def bodyAxisWrite (r : Sender) (axis : Byte) (hysteresis : Word16) (defaultBand : Byte)
    (thresholds : List Word16) (s : State) : State :=
  match Axis.ofNum axis.toNat with
  | none => answer r 5 .badField [] s
  | some a =>
    refuseOr r 5 (badWhen (axisFieldsBad a hysteresis defaultBand thresholds))
      (writeAxis a ⟨thresholds, hysteresis, defaultBand.toNat⟩) s

/-- AXIS_WRITE (R52, R53): with fewer thresholds than its axis has it is UNKNOWN, and those beyond are ignored; an
Axis above 3 asks for none and is BAD_FIELD (R52, R181 test 2). -/
def execAxisWrite (r : Sender) (axis : Byte) (hysteresis : Word16) (defaultBand : Byte)
    (thresholds : List Word16) (s : State) : Outcome :=
  live (fun s =>
    match wordsAsked (axisWords axis) thresholds with
    | some ts =>
      serve (.axisWrite r axis hysteresis defaultBand thresholds) r 5 .modifying inSetup
        (bodyAxisWrite r axis hysteresis defaultBand ts) s
    | none => serveUnknown (.axisWrite r axis hysteresis defaultBand thresholds) r 5 s) s

/-- The fields of CLASS READ, View 0 (R64). -/
def axisFields (a : Axis) (x : AxisState) : List Byte :=
  [byteOf a.num] ++ le16 x.defn.hysteresis ++ [byteOf x.defn.defaultBand, byteOf x.defn.thresholds.length] ++
  (x.defn.thresholds.map le16).flatten ++ [axisFlags x, byteOf x.candidate] ++ optional16 x.value

/-- The four bands of a class as bytes (R64). -/
def classBytes (c : PerAxis Nat) : List Byte := [byteOf c.moisture, byteOf c.feed, byteOf c.slope, byteOf c.side]

/-- The fields of CLASS READ, View 1 (R64). -/
def classifierFields (now : Word32) (c : Classifier) : List Byte :=
  classBytes c.candidate ++ classBytes c.adopted ++ [frozenMask c.frozen, if c.dwell.isSome then 1#8 else 0#8] ++
  le16 (BitVec.ofNat 16 (timerRemaining now c.dwell)) ++ le32 c.adoptedAt ++ [byteOf (cellNumber c.adopted)]

/-- The body of CLASS READ (R64). -/
def readClass (r : Sender) (view axis : Byte) (s : State) : State :=
  match view.toNat, Axis.ofNum axis.toNat with
  | 0, some a => answer r 6 .done (axisFields a (s.classifier.axes.get a)) s
  | 1, _ => answer r 6 .done (classifierFields s.partTime s.classifier) s
  | _, _ => answer r 6 .badField [] s

/-- CLASS_READ (R64). -/
def execClassRead (r : Sender) (view axis : Byte) (s : State) : Outcome :=
  live (serve (.classRead r view axis) r 6 .read anyState (readClass r view axis)) s

end Sys2Proof.Machine
end

