-- ==== Sys2Proof/Machine/GuardRequests.lean ====
section
/-! DEFINITION. The family of guard requests (7.3, 7.5, 7.6, 7.8). -/

namespace Sys2Proof.Machine

/-- The BAD_FIELD tests of GUARD CONFIG on a source in range (R154). -/
def guardFieldsBad (n : Fin 12) (f : GuardFields) : Bool :=
  decide (7 < f.priority.toNat) || decide (3 < f.action.toNat) || decide (f.clearDwell = 0#8) ||
  !highBitsClear 3 f.flags || (isEventSource n && !f.flags.getLsbD 1)

/-- The configuration record the fields of GUARD CONFIG give (R154). -/
def guardOfFields (f : GuardFields) : GuardConfig :=
  { priority := f.priority.toNat, masked := f.flags.getLsbD 0, edge := f.flags.getLsbD 1,
    action := (Action.ofCode f.action.toNat).getD .noticeOnly, auto := f.flags.getLsbD 2,
    clearDwell := f.clearDwell }

/-- A guard set afresh from its present condition under a new record (R154 steps 2 and 3). -/
def Guard.configured (g : Guard) (c : GuardConfig) : Guard :=
  { config := c
    state := if !c.edge && g.condition then .pending else .idle
    condition := g.condition
    armed := !g.condition
    clearTimer := none }

/-- GUARD CONFIG answered DONE (R154). The release's examination is the one of step 4 (log 12). -/
def configureGuard (n : Fin 12) (f : GuardFields) (s : State) : State :=
  let s1 := if (s.guards.guard n).state = .acting then removeGuard n 3 s else s
  settleGuards (updGuard n (fun g => g.configured (guardOfFields f)) s1)

/-- The source with a number (R146). -/
def sourceOf (k : Byte) : Option (Fin 12) := if h : k.toNat < 12 then some ⟨k.toNat, h⟩ else none

/-- The body of GUARD CONFIG (R154). -/
def bodyGuardConfig (r : Sender) (source : Byte) (f : GuardFields) (s : State) : State :=
  match sourceOf source with
  | none => answer r 24 .badField [] s
  | some n => refuseOr r 24 (badWhen (guardFieldsBad n f)) (configureGuard n f) s

/-- GUARD_CONFIG (R154). -/
def execGuardConfig (r : Sender) (source : Byte) (f : GuardFields) (s : State) : Outcome :=
  live (serve (.guardConfig r source f) r 24 .modifying notRegulating (bodyGuardConfig r source f)) s

/-- A guard with its Masked flag written (R155). -/
def Guard.mask (g : Guard) (masked : Bool) : Guard := { g with config := { g.config with masked := masked } }

/-- All twelve Masked flags written (R155). -/
def Arbiter.maskAll (a : Arbiter) (mask : Word16) : Arbiter :=
  { a with table := a.table.imap (fun n g => g.mask (mask.getLsbD n)) }

/-- GUARD MASK answered DONE (R155). -/
def writeMasks (mask : Word16) (s : State) : State := settleGuards (s.withGuards (s.guards.maskAll mask))

/-- GUARD_MASK (R155). -/
def execGuardMask (r : Sender) (mask : Word16) (s : State) : Outcome :=
  live (serve (.guardMask r mask) r 25 .modifying anyState
    (refuseOr r 25 (badWhen (decide (4096 ≤ mask.toNat))) (writeMasks mask))) s

/-- GUARD FLOOR answered DONE (R159). -/
def writeFloor (floor : Nat) (s : State) : State := settleGuards (s.withGuards { s.guards with floor := floor })

/-- GUARD_FLOOR (R159). -/
def execGuardFloor (r : Sender) (floor : Byte) (s : State) : Outcome :=
  live (serve (.guardFloor r floor) r 26 .modifying anyState
    (refuseOr r 26 (badWhen (decide (floor = 0#8) || decide (8 < floor.toNat))) (writeFloor floor.toNat))) s

/-- The body of GUARD RELEASE (R163): a specific release, a nonspecific one, or BAD_FIELD. -/
def bodyGuardRelease (r : Sender) (source : Byte) (s : State) : State :=
  match sourceOf source with
  | some n =>
    refuseOr r 27 (if (s.guards.guard n).state = .acting then none else some .wrongState) (releaseNamed n) s
  | none =>
    if source = 255#8 then
      match s.guards.stack.getLast? with
      | some n => refuseOr r 27 none (releaseGuard n 1) s
      | none => answer r 27 .wrongState [] s
    else answer r 27 .badField [] s

/-- GUARD_RELEASE (R163). -/
def execGuardRelease (r : Sender) (source : Byte) (s : State) : Outcome :=
  live (serve (.guardRelease r source) r 27 .modifying anyState (bodyGuardRelease r source)) s

/-- GUARD RAISE answered DONE (R166): one event to the OPERATOR source, with its examination and judgement. -/
def raiseOperator (s : State) : State := settleGuards (raiseEvent 11 s)

/-- GUARD_RAISE (R166). -/
def execGuardRaise (r : Sender) (s : State) : Outcome :=
  live (serve (.guardRaise r) r 28 .modifying anyState (refuseOr r 28 none raiseOperator)) s

/-- The sources whose guards pass a test, as a set of two bytes (R167). -/
def Arbiter.setOf (a : Arbiter) (test : Guard → Bool) : List Byte :=
  le16 (packBits16 (a.table.list.map test))

/-- The fields of GUARD PEEK, View 0 (R167). -/
def arbiterFields (a : Arbiter) : List Byte :=
  a.setOf (fun g => decide (g.state = .pending)) ++ a.setOf (fun g => g.config.masked) ++
  a.setOf Guard.condition ++ a.setOf Guard.armed ++
  [byteOf a.floor, byteOf a.effective.code, byteOf a.stack.length] ++ stackBytes a.stack

/-- The slip dwell of a source runs (R150, R167). -/
def Arbiter.slipRuns (a : Arbiter) (n : Fin 12) : Bool :=
  (decide (n = 0) && a.slipDrum.isSome) || (decide (n = 3) && a.slipFan.isSome)

/-- The place of a guard on the stack, 255 when it is not ACTING (R167). -/
def Arbiter.position (a : Arbiter) (n : Fin 12) : Nat := (a.stack.findIdx? (fun k => decide (k = n))).getD 255

/-- The fields of GUARD PEEK, View 1 (R167). -/
def guardFields (now : Word32) (a : Arbiter) (n : Fin 12) : List Byte :=
  let g := a.guard n
  [byteOf n.val, byteOf g.config.priority, guardFlags g (a.slipRuns n), byteOf g.config.action.code,
    g.config.clearDwell, byteOf g.state.code, byteOf (a.position n)] ++
  le16 (BitVec.ofNat 16 (timerRemaining now g.clearTimer))

/-- The body of GUARD PEEK (R167). -/
def peekGuards (r : Sender) (view source : Byte) (s : State) : State :=
  match view.toNat, sourceOf source with
  | 0, _ => answer r 29 .done (arbiterFields s.guards) s
  | 1, some n => answer r 29 .done (guardFields s.partTime s.guards n) s
  | _, _ => answer r 29 .badField [] s

/-- GUARD_PEEK (R167). -/
def execGuardPeek (r : Sender) (view source : Byte) (s : State) : Outcome :=
  live (serve (.guardPeek r view source) r 29 .read anyState (peekGuards r view source)) s

end Sys2Proof.Machine
end

