-- ==== Sys2Proof/Machine/LinkEvents.lean ====
section
/-! DEFINITION. The family of the link: FRAME_END, TX_CHOOSE, TX_SUCCESS, TX_COLLISION, BACKOFF_END,
REPLY_HANDOVER (Chapter 1). -/

namespace Sys2Proof.Machine

/-! ### A frame ends -/

/-- One more good frame at a port (R7, R23). -/
def PortState.countGood (ps : PortState) : PortState := { ps with good := satInc16 ps.good }

/-- One more check error at a port (R7, R23). -/
def PortState.countCheckError (ps : PortState) : PortState := { ps with checkErrors := satInc16 ps.checkErrors }

/-- One more filtered frame at a port (R11, R12, R23). -/
def PortState.countFiltered (ps : PortState) : PortState := { ps with filtered := satInc16 ps.filtered }

/-- A frame from the own station number: notice and LINK_FAULT event (R8). -/
def stationClash (p : Port) (s : State) : State :=
  interleave
    [[raiseNotice .stationClash s.ownStation.toNat (match p with | .s => 0#16 | .m => 1#16)], [takeEvent 10]] s

/-- The side table entry of a station set to the port its frame came in at (R9). -/
def learnSide (source : Byte) (p : Port) (s : State) : State :=
  s.withLink { s.link with side := s.link.side.put source.toNat (Side.ofPort p) }

/-- A frame joins the other port's queue, or is dropped there (R17). -/
def forwardFrame (p : Port) (f : Frame) (s : State) : State := updPort p.other (·.joinForward f) s

/-- The matching entry's mirror flag is off (R11). -/
def State.mirrorOff (s : State) (f : Frame) : Bool :=
  match s.matchSample f.source ((f.payload.headD 0#8).setWidth 2) with
  | some i => !(s.channel i).defn.mirror
  | none => false

/-- A frame to every station (R11): a SAMPLE goes to the channel unit and is forwarded unless its
entry does not mirror; other kinds are forwarded. -/
def routeBroadcast (p : Port) (f : Frame) (s : State) : State :=
  match f.kind with
  | .sample =>
    if s.mirrorOff f then interleave [[updPort p PortState.countFiltered], [takeSample f]] s
    else interleave [[forwardFrame p f], [takeSample f]] s
  | _ => forwardFrame p f s

/-- A frame to another station (R12): filtered when the station is on the receiving port, else forwarded. -/
def routeOther (p : Port) (f : Frame) (s : State) : State :=
  if s.sideOf f.dest = Side.ofPort p then updPort p PortState.countFiltered s else forwardFrame p f s

/-- A REQUEST handed to the management unit, unless the receiving port's queue holds a REPLY (R10, R13, R181). -/
def handRequest (p : Port) (f : Frame) (s : State) : State :=
  if (s.port p).hasReply then s
  else
    match f.payload with
    | code :: fields =>
      s.withMgmt { s.mgmt with inbox := s.mgmt.inbox ++ [decodeRequest ⟨f.source, f.tag⟩ code fields] }
    | [] => s

/-- A frame addressed to the regulator handed on by its kind (R10). -/
def consumeFrame (p : Port) (f : Frame) (s : State) : State :=
  match f.kind with
  | .sample => takeSample f s
  | .accept => takeDriveFrame f s
  | .report => takeDriveFrame f s
  | .done => takeDriveFrame f s
  | .ident => takeIdent f s
  | .request => handRequest p f s
  | .set => s
  | .identAsk => s
  | .reply => s
  | .attention => s

/-- The destination handling of a good frame that is no station clash (R10 to R12). -/
def routeFrame (p : Port) (f : Frame) (s : State) : State :=
  if f.dest = s.ownStation then consumeFrame p f s
  else if f.dest = 63#8 then routeBroadcast p f s
  else routeOther p f s

/-- A good frame (R8, R9): a station clash, or learned from and then handled by its destination. -/
def takeGoodFrame (p : Port) (f : Frame) (s : State) : State :=
  if f.source = s.ownStation then stationClash p s else routeFrame p f (learnSide f.source p s)

/-- The port's own transmitter is sending (R2). -/
def Tx.isSending : Tx → Bool
  | .active .sending _ _ => true
  | _ => false

/-- The bytes of an ended frame put through the receive checks (R7). -/
def receiveFrame (p : Port) (bytes : List Byte) (framingError : Bool) (s : State) : State :=
  match receiveChecks bytes framingError with
  | none => updPort p PortState.countCheckError s
  | some f => takeGoodFrame p f (updPort p PortState.countGood s)

/-- FRAME_END (R7). While the port's own transmitter is sending, the receiver takes in nothing (R2; log 18). -/
def execFrameEnd (p : Port) (bytes : List Byte) (framingError : Bool) (s : State) : Outcome :=
  live (fun s => if (s.port p).tx.isSending then s else receiveFrame p bytes framingError s) s

/-! ### The transmitters -/

/-- The entry an IDLE transmitter chooses: the oldest PART frame, else the oldest FORWARD frame (R20). -/
def PortState.choice (ps : PortState) : Option Nat :=
  match ps.queue.findIdx? Entry.isPart with
  | some i => some i
  | none => if ps.queue.isEmpty then none else some 0

/-- An IDLE transmitter chooses a frame and begins sending it with an attempt count of 0 (R20). -/
def PortState.choose (ps : PortState) : PortState :=
  match ps.tx, ps.choice with
  | .idle, some i => { ps with tx := .active .sending i 0 }
  | _, _ => ps

/-- TX_CHOOSE (R20): only when the line has been idle for at least 12 bit times (log 17). -/
def execTxChoose (p : Port) (idleBits : Nat) (s : State) : Outcome :=
  live (fun s => if Config.idleBitTimes ≤ idleBits then updPort p PortState.choose s else s) s

/-- The entry in progress leaves the queue and the transmitter returns to IDLE (R20, R21). -/
def PortState.leave (ps : PortState) (i : Nat) : PortState :=
  { ps with queue := ps.queue.eraseIdx i, tx := .idle }

/-- The entry becomes its pending frame, keeping its age (R18). -/
def Entry.takeHeld (e : Entry) (g : Frame) : Entry := { e with frame := g, held := none }

/-- The frame was a REPLY of the part, so the management unit is told that it has left (R22). -/
def reportLeft (p : Port) (e : Entry) (s : State) : State :=
  if e.isPart ∧ e.frame.kind = .reply then replyLeft p s else s

/-- An attempt has succeeded on the entry in progress (R18, R20, R22). -/
def sentFrame (p : Port) (i : Nat) (e : Entry) (s : State) : State :=
  match e.held with
  | some g => updPort p (fun ps => { ps with queue := ps.queue.set i (e.takeHeld g), tx := .idle }) s
  | none => reportLeft p e (updPort p (fun ps => ps.leave i) s)

/-- TX_SUCCESS (R20). -/
def execTxSuccess (p : Port) (s : State) : Outcome :=
  live (fun s =>
    match (s.port p).tx with
    | .active .sending i _ =>
      match (s.port p).queue[i]? with
      | some e => sentFrame p i e s
      | none => s
    | _ => s) s

/-- After a failed attempt that is not the eighth (R18, R21). -/
def PortState.backOff (ps : PortState) (i : Nat) (e : Entry) (failed : Nat) : PortState :=
  match e.held with
  | some g => { ps with queue := ps.queue.set i (e.takeHeld g), tx := .active .backoff i 0 }
  | none => { ps with tx := .active .backoff i failed }

/-- After the eighth failed attempt: the frame leaves the queue, or its entry takes the pending
content and waits in BACKOFF; the drop is counted (R18, R21, R23). -/
def PortState.dropFrame (ps : PortState) (i : Nat) (e : Entry) : PortState :=
  let qs := { ps with collisionDrops := satInc16 ps.collisionDrops }
  match e.held with
  | some g => { qs with queue := qs.queue.set i (e.takeHeld g), tx := .active .backoff i 0 }
  | none => qs.leave i

/-- A frame is dropped: the notice, the collision-drop event, and the report of a REPLY (R21, R22). -/
def dropInProgress (p : Port) (i : Nat) (e : Entry) (s : State) : State :=
  interleave
    [[raiseNotice .linkFault e.frame.dest.toNat (BitVec.ofNat 16 e.frame.kind.code)], [takeEvent 10],
     [reportLeft p e]]
    (updPort p (fun ps => ps.dropFrame i e) s)

/-- A collision on the entry in progress with its attempt count so far (R21). -/
def collideFrame (p : Port) (i : Nat) (e : Entry) (attempts : Nat) (s : State) : State :=
  if attempts + 1 < Config.attemptLimit then updPort p (fun ps => ps.backOff i e (attempts + 1)) s
  else dropInProgress p i e s

/-- TX_COLLISION (R21). -/
def execTxCollision (p : Port) (s : State) : Outcome :=
  live (fun s =>
    match (s.port p).tx with
    | .active .sending i n =>
      match (s.port p).queue[i]? with
      | some e => collideFrame p i e n s
      | none => s
    | _ => s) s

/-- The transmitter in BACKOFF sends the same frame in progress again (R21). -/
def PortState.resend (ps : PortState) : PortState :=
  match ps.tx with
  | .active .backoff i n => { ps with tx := .active .sending i n }
  | _ => ps

/-- BACKOFF_END (R21): only when the line has been idle for the backoff of R1 (log 17). -/
def execBackoffEnd (p : Port) (idleMs : Nat) (s : State) : Outcome :=
  live (fun s => if s.backoffMs ≤ idleMs then updPort p PortState.resend s else s) s

/-- REPLY_HANDOVER (R19), after an examination that was put off (R163; log 39). -/
def execReplyHandover (p : Port) (s : State) : Outcome := live (fun s => handOver p (settleWaiting s)) s

end Sys2Proof.Machine
end

