-- ==== Sys2Proof/Machine/ManagementRequests.lean ====
section
/-! DEFINITION. The family of management requests: the parameter block, the layout, starting, stopping
and letting go (9.4 to 9.6). -/

namespace Sys2Proof.Machine

/-- A request refused with fields (R181, R186, R188, R191), or answered DONE after its effect. -/
def refuseWithOr (r : Sender) (code : Nat) (bad : Option (Result × List Byte)) (effect : State → State)
    (s : State) : State :=
  match bad with
  | some (e, fields) => answer r code e fields s
  | none => answer r code .done [] (effect s)

/-! ### The parameter block -/

/-- The BAD_FIELD tests of PARAM WRITE (R185). -/
def paramBad (item : Byte) (value : Word16) : Bool :=
  decide (42 < item.toNat) || decide (value.toNat < (paramRange item.toNat).1) ||
  decide ((paramRange item.toNat).2 < value.toNat)

/-- A value written into the pending copy (R185). -/
def writePending (item : Byte) (value : Word16) (s : State) : State :=
  s.withMgmt { s.mgmt with pendingParams := s.mgmt.pendingParams.write item.toNat value }

/-- PARAM_WRITE (R185). -/
def execParamWrite (r : Sender) (item : Byte) (value : Word16) (s : State) : Outcome :=
  live (serve (.paramWrite r item value) r 35 .modifying inAwaitParam
    (refuseOr r 35 (badWhen (paramBad item value)) (writePending item value))) s

/-- The limit a value breaks: the item of the Global min or of the Global max; none when it lies inside (R186). -/
def brokenLimit (p : Params) (st : Setting) (v : Nat) : Option Nat :=
  if v < p.globalMin st then some st.num
  else if p.globalMax st < v then some (5 + st.num) else none

/-- The reply fields of a CONFLICT of PARAM CLOSE: Item, Cause, Bank, Cell (R186). -/
def conflictFields (item cause bank cell : Nat) : List Byte := [byteOf item, byteOf cause, byteOf bank, byteOf cell]

/-- Cause 1, LIMITS (R186). -/
def limitsConflict (p : Params) : Option (List Byte) :=
  Setting.all.findSome? (fun st =>
    if p.globalMin st < p.globalMax st then none else some (conflictFields st.num 1 255 255))

/-- Cause 2, SUBSTITUTE (R186). -/
def substituteConflict (p : Params) (u : Substitute) : Option (List Byte) :=
  Setting.all.findSome? (fun st =>
    match u.values.get st with
    | some v => (brokenLimit p st v.toNat).map (fun item => conflictFields item 2 255 255)
    | none => none)

/-- The first written cell of a bank, and its first setting, that a test gives an item for (R186). -/
def firstInBank (item : CellRecord → Setting → Option Nat) (cause : Nat) (k : BankId) (b : Bank) :
    Option (List Byte) :=
  b.cells.entries.findSome? (fun e =>
    match e.2 with
    | some c =>
      Setting.all.findSome? (fun st => (item c st).map (fun i => conflictFields i cause k.num e.1))
    | none => none)

/-- Bank A before bank B (R186). -/
def firstInBanks (item : CellRecord → Setting → Option Nat) (cause : Nat) (m : SettingMap) :
    Option (List Byte) :=
  (firstInBank item cause .a m.bankA).or (firstInBank item cause .b m.bankB)

/-- Cause 3, CELL_TARGET (R186). -/
def targetConflict (p : Params) (m : SettingMap) : Option (List Byte) :=
  firstInBanks (fun c st => brokenLimit p st (c.targets.get st).toNat) 3 m

/-- Cause 4, RELEASE (R186). -/
def releaseConflict (p : Params) : Option (List Byte) :=
  (brokenLimit p .concave p.releaseTarget).map (fun item => conflictFields item 4 255 255)

/-- Cause 5, TRIM (R186). -/
def trimConflict (p : Params) (m : SettingMap) : Option (List Byte) :=
  firstInBanks
    (fun c st => if p.trimBound st < (c.trimOffset st).natAbs then some (20 + st.num) else none) 5 m

/-- The first cross-item constraint a parameter block breaks, by cause (R186). -/
def paramConflict (p : Params) (u : Substitute) (m : SettingMap) : Option (List Byte) :=
  (((limitsConflict p).or (substituteConflict p u)).or (targetConflict p m)).or
    ((releaseConflict p).or (trimConflict p m))

/-- PARAM CLOSE answered DONE (R186): the block is in force, the part awaits the layout, and ATTN is judged (R197). -/
def closeParams (s : State) : State :=
  enterPart .awaitLayout (judgeAttn (s.withMgmt { s.mgmt with params := s.mgmt.pendingParams }))

/-- The body of PARAM CLOSE (R186). -/
def bodyParamClose (r : Sender) (s : State) : State :=
  refuseWithOr r 36
    ((paramConflict s.mgmt.pendingParams s.safe.substitute s.map).map (fun fields => (.conflict, fields)))
    closeParams s

/-- PARAM_CLOSE (R186). -/
def execParamClose (r : Sender) (s : State) : Outcome :=
  live (serve (.paramClose r) r 36 .modifying inAwaitParam (bodyParamClose r)) s

/-- PARAM OPEN answered DONE (R187). -/
def openParams (s : State) : State :=
  enterPart .awaitParam (s.withMgmt { s.mgmt with pendingParams := s.mgmt.params })

/-- PARAM_OPEN (R187). -/
def execParamOpen (r : Sender) (s : State) : Outcome :=
  live (serve (.paramOpen r) r 37 .modifying inLayoutOrReady (refuseOr r 37 none openParams)) s

/-- An item with its value in one copy (R187). -/
def itemFields (p : Params) (item : Byte) : List Byte := item :: le16 (BitVec.ofNat 16 (p.item item.toNat))

/-- The layout roster (R187). -/
def rosterFields (roster : PerSetting RosterEntry) : List Byte :=
  (roster.toList.map (fun e => [e.station.getD 255#8, e.period])).flatten

/-- The body of PARAM READ (R187). -/
def readParam (r : Sender) (view item : Byte) (s : State) : State :=
  match view.toNat, decide (item.toNat ≤ 42) with
  | 0, true => answer r 38 .done (itemFields s.mgmt.params item) s
  | 1, true => answer r 38 .done (itemFields s.mgmt.pendingParams item) s
  | 2, _ => answer r 38 .done (rosterFields s.moves.roster) s
  | _, _ => answer r 38 .badField [] s

/-- PARAM_READ (R187). -/
def execParamRead (r : Sender) (view item : Byte) (s : State) : Outcome :=
  live (serve (.paramRead r view item) r 38 .read anyState (readParam r view item)) s

/-! ### The layout -/

/-- The BAD_FIELD tests of LAYOUT WRITE on one pair (R188). -/
def layoutPairBad (own : Byte) (p : Byte × Byte) : Bool :=
  (decide (62 < p.1.toNat) && decide (p.1.toNat < 255)) || decide (p.1 = own) || decide (p.2.toNat < 5)

/-- The roster entry a pair gives; station 255 makes it absent (R188). -/
def rosterOfPair (p : Byte × Byte) : RosterEntry := ⟨if p.1 = 255#8 then none else some p.1, p.2⟩

/-- The body of LAYOUT WRITE (R188, R91). -/
def bodyLayoutWrite (r : Sender) (pairs : PerSetting (Byte × Byte)) (s : State) : State :=
  refuseOr r 39 (badWhen (pairs.toList.any (layoutPairBad s.ownStation)))
    (relayoutMoves (PerSetting.tabulate (fun st => rosterOfPair (pairs.get st)))) s

/-- LAYOUT_WRITE (R188). -/
def execLayoutWrite (r : Sender) (pairs : PerSetting (Byte × Byte)) (s : State) : Outcome :=
  live (serve (.layoutWrite r pairs) r 39 .modifying inAwaitLayout (bodyLayoutWrite r pairs)) s

/-- The refusal by the roster tests: BAD_FIELD with the lowest setting concerned (R188, R205). -/
def State.layoutRefusal (s : State) : Option (Result × List Byte) :=
  s.firstLayoutFault.map (fun st => (.badField, [byteOf st.num]))

/-- LAYOUT_CLOSE (R188). -/
def execLayoutClose (r : Sender) (s : State) : Outcome :=
  live (serve (.layoutClose r) r 40 .modifying inAwaitLayout
    (fun s => refuseWithOr r 40 s.layoutRefusal startChecking s)) s

/-! ### Starting, stopping and letting go -/

/-- The refusals of START (R191): the active bank is tested first. -/
def State.startRefusal (s : State) : Option (Result × List Byte) :=
  if s.activeBank.valid = false then some (.conflict, [1#8])
  else if s.safe.substitute.loaded = false then some (.conflict, [2#8]) else none

/-- START answered DONE (R180, R191): the picture and the start event are not ordered. -/
def startRegulating (s : State) : State :=
  interleave [[publish], [takeStart]] (s.withMgmt { s.mgmt with partState := .regulating })

/-- START (R191). -/
def execStart (r : Sender) (s : State) : Outcome :=
  live (serve (.start r) r 41 .modifying inReady
    (fun s => refuseWithOr r 41 s.startRefusal startRegulating s)) s

/-- STOP answered DONE (R180, R191): the picture and the stop event are not ordered. -/
def stopRegulating (s : State) : State :=
  interleave [[publish], [takeStop]] (s.withMgmt { s.mgmt with partState := .ready })

/-- STOP (R191). -/
def execStop (r : Sender) (s : State) : Outcome :=
  live (serve (.stop r) r 42 .modifying inRegulating (refuseOr r 42 none stopRegulating)) s

/-- RELEASE_OWNER (R192): the DONE is queued first, and owner loss follows. -/
def execReleaseOwner (r : Sender) (s : State) : Outcome :=
  live (serve (.releaseOwner r) r 43 .noClaim anyState (fun s => loseOwner (answer r 43 .done [] s))) s

end Sys2Proof.Machine
end

