-- ==== Sys2Proof/Machine/MapRequests.lean ====
section
/-! DEFINITION. The family of map requests (4.4 to 4.6). -/

namespace Sys2Proof.Machine

/-- The tests shared by the requests that write a bank (R76): a Bank above 1 is BAD_FIELD; the active
bank is WRONG_STATE while REGULATING; then the request's own field tests. -/
def bankWrite (r : Sender) (code : Nat) (bank : Byte) (bad : State → Bool) (effect : BankId → State → State)
    (s : State) : State :=
  match BankId.ofNum bank.toNat with
  | none => answer r code .badField [] s
  | some k =>
    refuseOr r code
      (if k = s.map.active ∧ s.mgmt.partState = .regulating then some .wrongState else badWhen (bad s))
      (effect k) s

/-- A bank changed. -/
def updBank (k : BankId) (f : Bank → Bank) (s : State) : State :=
  s.withMap (s.map.withBank k (f (s.map.bank k)))

/-- A limit lies in 1 to 2000 (R68, R69). -/
def limitOk (w : Word16) : Bool := decide (1 ≤ w.toNat) && decide (w.toNat ≤ 2000)

/-- The BAD_FIELD tests on a cell record (R77). -/
def cellFieldsBad (f : CellFields) (s : State) : Bool :=
  Setting.all.any (fun st => !s.mgmt.params.inLimits st (f.targets.get st).toNat) ||
  !highBitsClear 3 f.flags || (f.flags.getLsbD 1 && !limitOk f.llim) || (f.flags.getLsbD 2 && !limitOk f.tlim)

/-- The cell a CELL WRITE sets; its trim record is removed (R77). -/
def cellOfFields (f : CellFields) : CellRecord :=
  { targets := f.targets
    trialPermission := f.flags.getLsbD 0
    ownLlim := if f.flags.getLsbD 1 then some f.llim else none
    ownTlim := if f.flags.getLsbD 2 then some f.tlim else none
    trim := none }

/-- A cell written (R77). -/
def writeCell (n : Nat) (f : CellFields) (b : Bank) : Bank := { b with cells := b.cells.put n (some (cellOfFields f)) }

/-- CELL_WRITE (R77). -/
def execCellWrite (r : Sender) (bank cell : Byte) (f : CellFields) (s : State) : Outcome :=
  live (serve (.cellWrite r bank cell f) r 7 .modifying anyState
    (bankWrite r 7 bank (fun s => decide (119 < cell.toNat) || cellFieldsBad f s)
      (fun k => updBank k (writeCell cell.toNat f)))) s

/-- The BAD_FIELD tests on a block of bands (R78). -/
def blockBad (b : BandBlock) : Bool :=
  decide (3 < b.moistureHigh.toNat) || decide (5 < b.feedHigh.toNat) || decide (4 < b.slopeHigh.toNat) ||
  decide (b.moistureHigh.toNat < b.moistureLow.toNat) || decide (b.feedHigh.toNat < b.feedLow.toNat) ||
  decide (b.slopeHigh.toNat < b.slopeLow.toNat)

/-- A number lies between two bytes. -/
def between (lo hi : Byte) (n : Nat) : Bool := decide (lo.toNat ≤ n) && decide (n ≤ hi.toNat)

/-- A cell number lies in a block of bands (R69, R78). -/
def blockHolds (b : BandBlock) (n : Nat) : Bool :=
  between b.moistureLow b.moistureHigh (n / 30) && between b.feedLow b.feedHigh (n / 5 % 6) &&
  between b.slopeLow b.slopeHigh (n % 5)

/-- Every cell of a block written (R78). -/
def fillCells (block : BandBlock) (f : CellFields) (b : Bank) : Bank :=
  { b with cells := b.cells.imap (fun n c => if blockHolds block n then some (cellOfFields f) else c) }

/-- CELL_FILL (R78). -/
def execCellFill (r : Sender) (bank : Byte) (block : BandBlock) (f : CellFields) (s : State) : Outcome :=
  live (serve (.cellFill r bank block f) r 8 .modifying anyState
    (bankWrite r 8 bank (fun s => blockBad block || cellFieldsBad f s)
      (fun k => updBank k (fillCells block f)))) s

/-- PLAN_WRITE (R79): with fewer than Count step words it is UNKNOWN, and those beyond are ignored; a Count above 8
asks for none and is BAD_FIELD after the restriction of R76 (R181 test 2). -/
def execPlanWrite (r : Sender) (bank count : Byte) (steps : List Word16) (s : State) : Outcome :=
  live (fun s =>
    match wordsAsked (planWords count) steps with
    | some ws =>
      serve (.planWrite r bank count steps) r 9 .modifying anyState
        (bankWrite r 9 bank
          (fun _ => decide (8 < count.toNat) || ws.any (fun w => (stepOfWord w).isNone))
          (fun k => updBank k (fun b => { b with plan := ws.filterMap stepOfWord }))) s
    | none => serveUnknown (.planWrite r bank count steps) r 9 s) s

/-- A side-trim pair outside its ranges (R80). -/
def sideTrimBad (p : Word16 × Word16) : Bool :=
  decide (500 < p.1.toInt.natAbs) || decide (100 < p.2.toInt.natAbs)

/-- SIDETRIM_WRITE (R80). -/
def execSidetrimWrite (r : Sender) (bank : Byte) (offsets : PerSide (Word16 × Word16)) (s : State) : Outcome :=
  live (serve (.sidetrimWrite r bank offsets) r 10 .modifying anyState
    (bankWrite r 10 bank (fun _ => offsets.toList.any sideTrimBad)
      (fun k => updBank k (fun b => { b with sideTrims := offsets.map (fun p => ⟨p.1, p.2⟩) })))) s

/-- HEADER_WRITE (R81). -/
def execHeaderWrite (r : Sender) (bank : Byte) (label llim tlim : Word16) (s : State) : Outcome :=
  live (serve (.headerWrite r bank label llim tlim) r 11 .modifying anyState
    (bankWrite r 11 bank (fun _ => !limitOk llim || !limitOk tlim)
      (fun k => updBank k (fun b => { b with label := label, llim := llim, tlim := tlim })))) s

/-! ### Reads -/

/-- Five figures as bytes, DRUM to FAN. -/
def figureBytes (p : PerSetting Word16) : List Byte := (p.toList.map le16).flatten

/-- The fields of CELL READ, View 0 (R82). -/
def cellFieldsView0 (cell : Byte) (c : Option CellRecord) : List Byte :=
  [cell, cellFlags c] ++
  (match c with
   | some x => figureBytes x.targets ++ optional16 x.ownLlim ++ optional16 x.ownTlim
   | none => List.replicate 14 0#8)

/-- The fields of CELL READ, View 1 (R82). -/
def cellFieldsView1 (cell : Byte) (c : Option CellRecord) : List Byte :=
  [cell, cellFlags c] ++
  (match c.bind CellRecord.trim with
   | some t => figureBytes t.offsets ++ [byteOf t.kept]
   | none => List.replicate 11 0#8)

/-- The fields of CELL READ, View 2 (R82, R72, R73). -/
def cellFieldsView2 (cell : Byte) (side : Nat) (p : Params) (b : Bank) (c : CellRecord) : List Byte :=
  [cell, byteOf side, packBits (Setting.all.map (targetClamped p b c side))] ++
  figureBytes (PerSetting.tabulate (effectiveTarget p b c side)) ++
  le16 (BitVec.ofNat 16 (b.lossLimit cell.toNat)) ++ le16 (BitVec.ofNat 16 (b.tailingsLimit cell.toNat))

/-- The side index CELL READ works with: 255 names the one of the adopted class (R82). -/
def State.sideUsed (s : State) (side : Byte) : Nat :=
  if side = 255#8 then s.classifier.adopted.side else side.toNat

/-- The body of CELL READ on a cell in range (R82). View 2 with a Side of 5 to 254 on an unwritten cell meets both
refusals, and the manual gives them no order: BAD_FIELD is the model's choice (log 34). -/
def readCell (r : Sender) (b : Bank) (cell view side : Byte) (s : State) : State :=
  match view.toNat with
  | 0 => answer r 12 .done (cellFieldsView0 cell (b.cell cell.toNat)) s
  | 1 => answer r 12 .done (cellFieldsView1 cell (b.cell cell.toNat)) s
  | 2 =>
    if 4 < side.toNat ∧ side ≠ 255#8 then answer r 12 .badField [] s
    else
      match b.cell cell.toNat with
      | none => answer r 12 .conflict [] s
      | some c => answer r 12 .done (cellFieldsView2 cell (s.sideUsed side) s.mgmt.params b c) s
  | _ => answer r 12 .badField [] s

/-- The body of CELL READ (R82). -/
def bodyCellRead (r : Sender) (bank cell view side : Byte) (s : State) : State :=
  match BankId.ofNum bank.toNat with
  | none => answer r 12 .badField [] s
  | some k =>
    if 119 < cell.toNat then answer r 12 .badField [] s else readCell r (s.map.bank k) cell view side s

/-- CELL_READ (R82). -/
def execCellRead (r : Sender) (bank cell view side : Byte) (s : State) : Outcome :=
  live (serve (.cellRead r bank cell view side) r 12 .read anyState (bodyCellRead r bank cell view side)) s

/-- The fields of BANK READ, View 0 (R83). -/
def bankFieldsView0 (k : BankId) (active : BankId) (b : Bank) : List Byte :=
  [byteOf k.num, bankFlags (decide (k = active)) b.valid] ++ le16 b.label ++ le16 b.llim ++ le16 b.tlim ++
  [byteOf b.writtenCount, byteOf b.trimCount, byteOf b.plan.length]

/-- The fields of BANK READ, View 1 (R83). -/
def bankFieldsView1 (k : BankId) (b : Bank) : List Byte :=
  [byteOf k.num, byteOf b.plan.length] ++ (b.plan.map (fun p => le16 (wordOfStep p))).flatten

/-- The fields of BANK READ, View 2 (R83). -/
def bankFieldsView2 (k : BankId) (b : Bank) : List Byte :=
  [byteOf k.num] ++ (b.sideTrims.toList.map (fun e => le16 e.fan ++ le16 e.upper)).flatten

/-- The body of BANK READ (R83). -/
def readBank (r : Sender) (bank view : Byte) (s : State) : State :=
  match BankId.ofNum bank.toNat, view.toNat with
  | some k, 0 => answer r 13 .done (bankFieldsView0 k s.map.active (s.map.bank k)) s
  | some k, 1 => answer r 13 .done (bankFieldsView1 k (s.map.bank k)) s
  | some k, 2 => answer r 13 .done (bankFieldsView2 k (s.map.bank k)) s
  | _, _ => answer r 13 .badField [] s

/-- BANK_READ (R83). -/
def execBankRead (r : Sender) (bank view : Byte) (s : State) : Outcome :=
  live (serve (.bankRead r bank view) r 13 .read anyState (readBank r bank view)) s

/-! ### Bank operations -/

/-- The body of BANK CLEAR (R84): the active bank is CONFLICT. -/
def bodyBankClear (r : Sender) (bank : Byte) (s : State) : State :=
  match BankId.ofNum bank.toNat with
  | none => answer r 14 .badField [] s
  | some k =>
    refuseOr r 14 (if k = s.map.active then some .conflict else none) (updBank k (fun _ => blankBank)) s

/-- BANK_CLEAR (R84). -/
def execBankClear (r : Sender) (bank : Byte) (s : State) : Outcome :=
  live (serve (.bankClear r bank) r 14 .modifying anyState (bodyBankClear r bank)) s

/-- The shadow becomes a copy of the active bank (R85). -/
def copyBank (s : State) : State := updBank s.map.active.other (fun _ => s.activeBank) s

/-- BANK_COPY (R85). -/
def execBankCopy (r : Sender) (s : State) : Outcome :=
  live (serve (.bankCopy r) r 15 .modifying anyState (refuseOr r 15 none copyBank)) s

/-- The banks exchanged, the bank-change event, the notice, in the rule's order (R86). -/
def switchBanks (s : State) : State :=
  let s1 := takeRetarget (s.withMap { s.map with active := s.map.active.other })
  raiseNotice .bankSwitched s1.map.active.num s1.activeBank.label s1

/-- SWITCH_BANK (R86): CONFLICT when the shadow is invalid. -/
def execSwitchBank (r : Sender) (s : State) : Outcome :=
  live (serve (.switchBank r) r 16 .modifying inReadyOrRegulating (fun s =>
    refuseOr r 16 (if (s.map.bank s.map.active.other).valid then none else some .conflict) switchBanks s)) s

/-- The banks CLEAR TRIMS names: 0 A, 1 B, 2 both (R87). -/
def banksNamed (bank : Nat) : List BankId :=
  match bank with
  | 0 => [.a]
  | 1 => [.b]
  | _ => [.a, .b]

/-- A trims-cleared event: a retarget event when it names every cell or the adopted cell (R134). -/
def takeTrimsCleared (which : Option Nat) (s : State) : State :=
  if which = none ∨ which = some s.adoptedCell then takeRetarget s else s

/-- Trim records removed; when one of the active bank was, the trims-cleared event is handed on (R87). -/
def clearTrims (banks : List BankId) (which : Option Nat) (s : State) : State :=
  let s1 := banks.foldl (fun t k => updBank k (fun b => b.clearTrims which) t) s
  if s.map.active ∈ banks ∧ s.activeBank.hasTrim which then takeTrimsCleared which s1 else s1

/-- CLEAR_TRIMS (R87). -/
def execClearTrims (r : Sender) (bank cell : Byte) (s : State) : Outcome :=
  live (serve (.clearTrims r bank cell) r 17 .modifying anyState
    (refuseOr r 17 (badWhen (decide (2 < bank.toNat) || (decide (119 < cell.toNat) && decide (cell ≠ 255#8))))
      (clearTrims (banksNamed bank.toNat) (if cell = 255#8 then none else some cell.toNat)))) s

end Sys2Proof.Machine
end

