-- ==== Sys2Proof/Machine/MoveRequests.lean ====
section
/-! DEFINITION. The family of move requests: adjust hold and MOVE READ (5.8, 5.11). -/

namespace Sys2Proof.Machine

/-- HOLD_ADJUST (R107). -/
def execHoldAdjust (r : Sender) (mask : Byte) (s : State) : Outcome :=
  live (serve (.holdAdjust r mask) r 18 .modifying inReadyOrRegulating
    (refuseOr r 18 (badWhen (!highBitsClear 2 mask)) (setHeld mask true))) s

/-- The groups released and their deferred goals given again (R108). -/
def releaseGroups (mask : Byte) (s : State) : State :=
  (selectedSettings mask).foldl (fun t st => releaseDeferred st t) (setHeld mask false s)

/-- RELEASE_ADJUST (R108). -/
def execReleaseAdjust (r : Sender) (mask : Byte) (s : State) : Outcome :=
  live (serve (.releaseAdjust r mask) r 19 .modifying inReadyOrRegulating
    (refuseOr r 19 (badWhen (!highBitsClear 2 mask)) (releaseGroups mask))) s

/-- The deferred goals issued, the groups staying held (R108). -/
def releaseGoalsOnce (mask : Byte) (s : State) : State :=
  (selectedSettings mask).foldl (fun t st => releaseDeferredOnce st t) s

/-- RELEASE_ONCE (R108). -/
def execReleaseOnce (r : Sender) (mask : Byte) (s : State) : Outcome :=
  live (serve (.releaseOnce r mask) r 20 .modifying inReadyOrRegulating
    (refuseOr r 20 (badWhen (!highBitsClear 2 mask)) (releaseGoalsOnce mask))) s

/-- The fields of MOVE READ (R112). -/
def moveFields (st : Setting) (s : State) : List Byte :=
  let m := s.record st
  [byteOf st.num, byteOf m.state.code, m.tag.setWidth 8, moveFlags m (s.groupHeld st)] ++
  optional16 (m.goal.map Goal.value) ++ optional16 m.leg ++ optional16 m.deferred ++ optional16 m.lastActual ++
  [byteOf m.tracking.code, driveFlags m, byteOf m.cause.code] ++ le16 (s.moves.stale.get st) ++ le16 s.moves.unmatched

/-- The body of MOVE READ (R112). -/
def readMove (r : Sender) (setting : Byte) (s : State) : State :=
  match Setting.ofNum setting.toNat with
  | some st => answer r 21 .done (moveFields st s) s
  | none => answer r 21 .badField [] s

/-- MOVE_READ (R112). -/
def execMoveRead (r : Sender) (setting : Byte) (s : State) : Outcome :=
  live (serve (.moveRead r setting) r 21 .read anyState (readMove r setting)) s

end Sys2Proof.Machine
end

