-- ==== Sys2Proof/Machine/RegulatorRequests.lean ====
section
/-! DEFINITION. The family of regulator requests: TUNE WINDOWS, REGULATOR READ (6.2, 6.13). -/

namespace Sys2Proof.Machine

/-- A window length lies in the own range of its item (R115, R117). -/
def lengthOk (item : Nat) (w : Word16) : Bool :=
  decide ((paramRange item).1 ≤ w.toNat) && decide (w.toNat ≤ (paramRange item).2)

/-- The length a running timer has under the block in force (R116, R117). -/
def State.runningLength (s : State) (w : WindowId) : Nat :=
  match w, s.regulator.state with
  | .b, _ => s.mgmt.params.measureLength
  | .a, .hold => s.mgmt.params.recheckLength
  | .a, _ => s.mgmt.params.settleLength

/-- The running timer takes its new length and keeps its starting moment (R117). -/
def adjustTimer (s : State) : State :=
  match s.regulator.window with
  | some (w, t) =>
    s.withRegulator { s.regulator with window := some (w, ⟨t.start, tenths (s.runningLength w)⟩) }
  | none => s

/-- The running timer's length has passed, so it expires at once (R117). -/
def expireIfDue (s : State) : State :=
  match s.regulator.window with
  | some (_, t) => if t.due s.partTime then windowEnds s else s
  | none => s

/-- The three lengths written into the block in force (R117). -/
def Params.tune (p : Params) (settle measure recheck : Word16) : Params :=
  ((p.write 26 settle).write 27 measure).write 28 recheck

/-- TUNE WINDOWS answered DONE (R117), whole, with what the expiry leads to in the arbiter (R181). -/
def tuneLengths (settle measure recheck : Word16) (s : State) : State :=
  settleWaiting <| expireIfDue (adjustTimer (s.withMgmt { s.mgmt with params := s.mgmt.params.tune settle measure recheck }))

/-- TUNE_WINDOWS (R117). -/
def execTuneWindows (r : Sender) (settle measure recheck : Word16) (s : State) : Outcome :=
  live (serve (.tuneWindows r settle measure recheck) r 22 .modifying inReadyOrRegulating
    (refuseOr r 22 (badWhen (!(lengthOk 26 settle && lengthOk 27 measure && lengthOk 28 recheck)))
      (tuneLengths settle measure recheck))) s

/-- The trial part of the fields of REGULATOR READ: setting, amount, target (R144). -/
def trialFields : Option Trial → List Byte
  | some t => [byteOf t.setting.num] ++ le16 (t.amount.signExtend 16) ++ le16 t.target
  | none => List.replicate 5 0#8

/-- The last-result part of the fields of REGULATOR READ (R144). -/
def lastFields : Option WindowResult → List Byte
  | some w => [byteOf w.outcome.code] ++ le16 w.l ++ le16 w.t ++ le16 w.s
  | none => List.replicate 7 0#8

/-- The fields of REGULATOR READ (R144). -/
def regulatorFields (now : Word32) (g : Regulator) : List Byte :=
  [byteOf g.state.code, byteOf (safeCauseCode g.safeCause), byteOf (windowCode (g.window.map Prod.fst))] ++
  le16 (BitVec.ofNat 16 (timerRemaining now (g.window.map Prod.snd))) ++
  [byteOf g.cursor, regulatorFlags g] ++ trialFields g.trial ++
  le16 (match g.baseline with | some b => b.s | none => 0#16) ++ lastFields g.last

/-- REGULATOR_READ (R144). -/
def execRegulatorRead (r : Sender) (s : State) : Outcome :=
  live (serve (.regulatorRead r) r 23 .read anyState
    (fun s => answer r 23 .done (regulatorFields s.partTime s.regulator) s)) s

end Sys2Proof.Machine
end

