-- ==== Sys2Proof/Machine/ReportRequests.lean ====
section
/-! DEFINITION. The family of report requests: FETCH NOTICES, PICTURE READ, COUNTERS READ (Chapter 10). -/

namespace Sys2Proof.Machine

/-- How many notices a FETCH removes: up to 3 (R196). -/
def NoticeUnit.fetchCount (n : NoticeUnit) : Nat := min n.held 3

/-- The bytes of a notice in FETCH NOTICES: Kind, Subject, Detail, low 16 bits of Time (R196). -/
def noticeBytes (x : Notice) : List Byte :=
  [byteOf x.kind.code, x.subject] ++ le16 x.detail ++ le16 (x.time.setWidth 16)

/-- The notice `k` slots past the read point (R195). -/
def NoticeUnit.nth (n : NoticeUnit) (k : Nat) : Option Notice :=
  (n.slots.get? (n.readPoint + BitVec.ofNat 5 k).toNat).getD none

/-- The `k` oldest notices, oldest first. -/
def NoticeUnit.oldest (n : NoticeUnit) (k : Nat) : List Notice := (List.range k).filterMap n.nth

/-- The read point advanced past `k` notices (R196). -/
def NoticeUnit.advance (n : NoticeUnit) (k : Nat) : NoticeUnit :=
  { n with readPoint := n.readPoint + BitVec.ofNat 5 k }

/-- The fields of FETCH NOTICES (R196). -/
def fetchFields (n : NoticeUnit) : List Byte :=
  [byteOf (n.held - n.fetchCount)] ++ le16 n.lost ++ ((n.oldest n.fetchCount).map noticeBytes).flatten

/-- The notices removed, and ATTN judged again when one has left (R196, R197). -/
def removeNotices (s : State) : State :=
  judgeAttn (s.withNotices (s.notices.advance s.notices.fetchCount))

/-- FETCH_NOTICES (R196). -/
def execFetchNotices (r : Sender) (s : State) : Outcome :=
  live (serve (.fetchNotices r) r 44 .modifying anyState
    (fun s => answer r 44 .done (fetchFields s.notices) (removeNotices s))) s

/-- A buffer's role as a read begins: N becomes U, and the old U becomes F (R199 step 1). -/
def Buffer.turn (b : Buffer) : Buffer :=
  match b.role with
  | .n => { b with role := .u }
  | .u => { b with role := .f }
  | .f => b

/-- The buffers as a read begins (R199 step 1): unchanged while none holds N. -/
def PictureUnit.turn (u : PictureUnit) : PictureUnit :=
  if u.buffers.list.any (fun b => decide (b.role = .n)) then { u with buffers := u.buffers.map Buffer.turn } else u

/-- PICTURE READ carried out (R199 steps 1 to 3): the first of its parts is ready. -/
def startReading (r : Sender) (s : State) : State :=
  let s1 := s.withPictures s.pictures.turn
  readyReply (pictureReply r 0 (s1.readingPart 0)) (s1.withMgmt { s1.mgmt with reading := some ⟨r, 0⟩ })

/-- PICTURE_READ (R199). -/
def execPictureRead (r : Sender) (s : State) : Outcome :=
  live (serve (.pictureRead r) r 45 .read anyState (startReading r)) s

/-- The five counters of a port (R23, R200). -/
def counterBytes (ps : PortState) : List Byte :=
  le16 ps.good ++ le16 ps.checkErrors ++ le16 ps.filtered ++ le16 ps.forwardDrops ++ le16 ps.collisionDrops

/-- COUNTERS_READ (R200). -/
def execCountersRead (r : Sender) (s : State) : Outcome :=
  live (serve (.countersRead r) r 46 .read anyState
    (fun s => answer r 46 .done (counterBytes (s.port .s) ++ counterBytes (s.port .m)) s)) s

end Sys2Proof.Machine
end

