-- ==== Sys2Proof/Machine/SafeRequests.lean ====
section
/-! DEFINITION. The family of safe-set and heartbeat requests (8.1, 8.4, 8.5). -/

namespace Sys2Proof.Machine

/-- The value given for a setting, if its present bit is set (R170). -/
def givenValue (mask : Byte) (values : PerSetting Word16) (st : Setting) : Option Word16 :=
  if mask.getLsbD st.num then some (values.get st) else none

/-- A present value lies outside its setting's global limits (R170). -/
def givenOutside (p : Params) (mask : Byte) (values : PerSetting Word16) (st : Setting) : Bool :=
  match givenValue mask values st with
  | some v => !p.inLimits st v.toNat
  | none => false

/-- The BAD_FIELD tests of SUBSTITUTE WRITE (R170). -/
def substituteBad (p : Params) (mask : Byte) (values : PerSetting Word16) : Bool :=
  !highBitsClear 5 mask || Setting.all.any (givenOutside p mask values)

/-- The whole substitute set replaced, and loaded (R170). -/
def writeSubstitute (mask : Byte) (values : PerSetting Word16) (s : State) : State :=
  s.withSafe { s.safe with substitute := ⟨PerSetting.tabulate (givenValue mask values), true⟩ }

/-- The body of SUBSTITUTE WRITE (R170): WRONG_STATE while the regulator is in SAFE, and BAD_FIELD for a bad field.
R170 and test 5 of R181 give the two no order; that WRONG_STATE comes first is the model's choice (log 38). -/
def bodySubstituteWrite (r : Sender) (mask : Byte) (values : PerSetting Word16) (s : State) : State :=
  refuseOr r 30
    (if s.regulator.state = .safe then some .wrongState else badWhen (substituteBad s.mgmt.params mask values))
    (writeSubstitute mask values) s

/-- SUBSTITUTE_WRITE (R170). -/
def execSubstituteWrite (r : Sender) (mask : Byte) (values : PerSetting Word16) (s : State) : Outcome :=
  live (serve (.substituteWrite r mask values) r 30 .modifying anyState (bodySubstituteWrite r mask values)) s

/-- The count loaded with the beat interval as it stands now (R175). -/
def loadBeat (s : State) : State :=
  s.withSafe { s.safe with beatCount := BitVec.ofNat 16 s.mgmt.params.beatInterval }

/-- The heartbeat RUNNING with a full count (R175). -/
def startBeat (s : State) : State :=
  let s1 := loadBeat s
  s1.withSafe { s1.safe with beatRunning := true }

/-- BEAT_ENABLE (R175). -/
def execBeatEnable (r : Sender) (s : State) : Outcome :=
  live (serve (.beatEnable r) r 31 .modifying inReadyOrRegulating (refuseOr r 31 none startBeat)) s

/-- BEAT_DISABLE (R175). -/
def execBeatDisable (r : Sender) (s : State) : Outcome :=
  live (serve (.beatDisable r) r 32 .modifying anyState (refuseOr r 32 none stopBeat)) s

/-- BEAT from the owner (R176): it loads the count while the heartbeat is RUNNING. -/
def takeBeat (s : State) : State := if s.safe.beatRunning then loadBeat s else s

/-- BEAT (R176): never BUSY, and it claims no owner. -/
def execBeat (r : Sender) (s : State) : Outcome :=
  live (fun s => judgeRequest r 33 .noClaim anyState (refuseOr r 33 none takeBeat) (takeRequest (.beat r) s)) s

/-- The count as SUBSTITUTE READ gives it: 0 when STOPPED (R178). -/
def SafeBlock.shownCount (b : SafeBlock) : Word16 := if b.beatRunning then b.beatCount else 0#16

/-- The fields of SUBSTITUTE READ (R178). -/
def substituteFields (s : State) : List Byte :=
  [substituteFlags s.safe.substitute.loaded s.safe.beatRunning s.pins.safeOut s.regulator.safeCause,
    presentMask s.safe.substitute.values] ++
  (s.safe.substitute.values.toList.map optional16).flatten ++
  le16 (BitVec.ofNat 16 s.mgmt.params.beatInterval) ++ le16 s.safe.shownCount

/-- SUBSTITUTE_READ (R178). -/
def execSubstituteRead (r : Sender) (s : State) : Outcome :=
  live (serve (.substituteRead r) r 34 .read anyState (fun s => answer r 34 .done (substituteFields s) s)) s

end Sys2Proof.Machine
end

