-- ==== Sys2Proof/Machine/StoreRequests.lean ====
section
/-! DEFINITION. The family of store requests: SAVE, RESTART, RESUME (Chapter 11); and the request the
part does not know (R181). -/

namespace Sys2Proof.Machine

/-- SAVE accepted (R203): the snapshot is taken and the store write begins. Its DONE comes when the write ends. -/
def startSave (r : Sender) (s : State) : State :=
  s.withMgmt { s.mgmt with saving := some ⟨r, s.snapshot, s.partTime⟩ }

/-- SAVE (R203). -/
def execSave (r : Sender) (s : State) : Outcome :=
  live (serve (.save r) r 47 .modifying inReadyOrRegulating (startSave r)) s

/-- The DONE of a RESTART (R24, R204): the reset acts once it has left its queue. -/
def restartReply (r : Sender) : Reply :=
  { asker := r, code := 48#8, result := .done, part := 0, more := false, fields := [], origin := .restart }

/-- RESTART (R204). -/
def execRestart (r : Sender) (s : State) : Outcome :=
  live (serve (.restart r) r 48 .modifying anyState (readyReply (restartReply r))) s

/-- The refusals of RESUME (R205): CONFLICT without an image, then the roster tests. -/
def State.resumeRefusal (s : State) : Option (Result × List Byte) :=
  if s.mgmt.imageHeld = false then some (.conflict, []) else s.layoutRefusal

/-- RESUME answered DONE (R205). -/
def resumePart (s : State) : State :=
  startChecking (s.withMgmt { s.mgmt with pendingParams := s.mgmt.params })

/-- RESUME (R205). -/
def execResume (r : Sender) (s : State) : Outcome :=
  live (serve (.resume r) r 49 .modifying inAwaitParam
    (fun s => refuseWithOr r 49 s.resumeRefusal resumePart s)) s

/-- UNKNOWN_REQUEST (R181): BUSY, or UNKNOWN. -/
def execUnknownRequest (r : Sender) (code : Byte) (fields : List Byte) (s : State) : Outcome :=
  live (serveUnknown (.unknownRequest r code fields) r code.toNat) s

end Sys2Proof.Machine
end

