-- ==== Sys2Proof/Machine/Dispatch.lean ====
section
/-! DEFINITION. The meaning of every command, one arm for each. -/

namespace Sys2Proof.Machine

/-- The effect of a command on everything but the queue. -/
def exec (i : Instr) (s : State) : Host.Outcome State Fault Refusal :=
  match i with
  | .frameEnd port bytes err => Sys2Proof.Machine.execFrameEnd port bytes err s
  | .txChoose port idleBits => Sys2Proof.Machine.execTxChoose port idleBits s
  | .txSuccess port => Sys2Proof.Machine.execTxSuccess port s
  | .txCollision port => Sys2Proof.Machine.execTxCollision port s
  | .backoffEnd port idleMs => Sys2Proof.Machine.execBackoffEnd port idleMs s
  | .replyHandover port => Sys2Proof.Machine.execReplyHandover port s
  | .channelWindowExpiry entry => Sys2Proof.Machine.execChannelWindowExpiry entry s
  | .dwellExpiry => Sys2Proof.Machine.execDwellExpiry s
  | .acceptTimerExpiry setting => Sys2Proof.Machine.execAcceptTimerExpiry setting s
  | .moveTimerExpiry setting => Sys2Proof.Machine.execMoveTimerExpiry setting s
  | .driveTrackingExpiry setting => Sys2Proof.Machine.execDriveTrackingExpiry setting s
  | .windowAExpiry => Sys2Proof.Machine.execWindowAExpiry s
  | .windowBExpiry => Sys2Proof.Machine.execWindowBExpiry s
  | .slipDwellExpiry rotor => Sys2Proof.Machine.execSlipDwellExpiry rotor s
  | .clearDwellExpiry source => Sys2Proof.Machine.execClearDwellExpiry source s
  | .lineLevelSettled line high => Sys2Proof.Machine.execLineLevelSettled line high s
  | .heartbeatExpiry => Sys2Proof.Machine.execHeartbeatExpiry s
  | .answerTimerExpiry => Sys2Proof.Machine.execAnswerTimerExpiry s
  | .saveWriteEnd => Sys2Proof.Machine.execSaveWriteEnd s
  | .powerOnReset straps => Sys2Proof.Machine.execPowerOnReset straps s
  | .restartAct straps => Sys2Proof.Machine.execRestartAct straps s
  | .unknownRequest r code fields => Sys2Proof.Machine.execUnknownRequest r code fields s
  | .channelRead r index view => Sys2Proof.Machine.execChannelRead r index view s
  | .channelWrite r index f => Sys2Proof.Machine.execChannelWrite r index f s
  | .errorReset r => Sys2Proof.Machine.execErrorReset r s
  | .channelRestart r index => Sys2Proof.Machine.execChannelRestart r index s
  | .axisWrite r axis hyst band0 ts => Sys2Proof.Machine.execAxisWrite r axis hyst band0 ts s
  | .classRead r view axis => Sys2Proof.Machine.execClassRead r view axis s
  | .cellWrite r bank cell f => Sys2Proof.Machine.execCellWrite r bank cell f s
  | .cellFill r bank block f => Sys2Proof.Machine.execCellFill r bank block f s
  | .planWrite r bank count steps => Sys2Proof.Machine.execPlanWrite r bank count steps s
  | .sidetrimWrite r bank offsets => Sys2Proof.Machine.execSidetrimWrite r bank offsets s
  | .headerWrite r bank label llim tlim => Sys2Proof.Machine.execHeaderWrite r bank label llim tlim s
  | .cellRead r bank cell view side => Sys2Proof.Machine.execCellRead r bank cell view side s
  | .bankRead r bank view => Sys2Proof.Machine.execBankRead r bank view s
  | .bankClear r bank => Sys2Proof.Machine.execBankClear r bank s
  | .bankCopy r => Sys2Proof.Machine.execBankCopy r s
  | .switchBank r => Sys2Proof.Machine.execSwitchBank r s
  | .clearTrims r bank cell => Sys2Proof.Machine.execClearTrims r bank cell s
  | .holdAdjust r mask => Sys2Proof.Machine.execHoldAdjust r mask s
  | .releaseAdjust r mask => Sys2Proof.Machine.execReleaseAdjust r mask s
  | .releaseOnce r mask => Sys2Proof.Machine.execReleaseOnce r mask s
  | .moveRead r setting => Sys2Proof.Machine.execMoveRead r setting s
  | .tuneWindows r settle measure recheck => Sys2Proof.Machine.execTuneWindows r settle measure recheck s
  | .regulatorRead r => Sys2Proof.Machine.execRegulatorRead r s
  | .guardConfig r source f => Sys2Proof.Machine.execGuardConfig r source f s
  | .guardMask r mask => Sys2Proof.Machine.execGuardMask r mask s
  | .guardFloor r floor => Sys2Proof.Machine.execGuardFloor r floor s
  | .guardRelease r source => Sys2Proof.Machine.execGuardRelease r source s
  | .guardRaise r => Sys2Proof.Machine.execGuardRaise r s
  | .guardPeek r view source => Sys2Proof.Machine.execGuardPeek r view source s
  | .substituteWrite r presentMask values => Sys2Proof.Machine.execSubstituteWrite r presentMask values s
  | .beatEnable r => Sys2Proof.Machine.execBeatEnable r s
  | .beatDisable r => Sys2Proof.Machine.execBeatDisable r s
  | .beat r => Sys2Proof.Machine.execBeat r s
  | .substituteRead r => Sys2Proof.Machine.execSubstituteRead r s
  | .paramWrite r item value => Sys2Proof.Machine.execParamWrite r item value s
  | .paramClose r => Sys2Proof.Machine.execParamClose r s
  | .paramOpen r => Sys2Proof.Machine.execParamOpen r s
  | .paramRead r view item => Sys2Proof.Machine.execParamRead r view item s
  | .layoutWrite r pairs => Sys2Proof.Machine.execLayoutWrite r pairs s
  | .layoutClose r => Sys2Proof.Machine.execLayoutClose r s
  | .start r => Sys2Proof.Machine.execStart r s
  | .stop r => Sys2Proof.Machine.execStop r s
  | .releaseOwner r => Sys2Proof.Machine.execReleaseOwner r s
  | .fetchNotices r => Sys2Proof.Machine.execFetchNotices r s
  | .pictureRead r => Sys2Proof.Machine.execPictureRead r s
  | .countersRead r => Sys2Proof.Machine.execCountersRead r s
  | .save r => Sys2Proof.Machine.execSave r s
  | .restart r => Sys2Proof.Machine.execRestart r s
  | .resume r => Sys2Proof.Machine.execResume r s
  | .resetDrivenActive => Sys2Proof.Machine.execResetDrivenActive s

end Sys2Proof.Machine
end

