-- ==== Sys2Proof/Safety.lean ====
section
/-! DEFINITION. What statements about the part are written with: which blocks an operation touches,
when a request is admitted (9.7), and the invariants of the state. -/

namespace Sys2Proof.Machine

/-! ### Frames of a state change -/

/-- The fields of the state. -/
inductive Block where
  | partTime | pins | link | channels | classifier | map | moves | regulator | guards | safe | mgmt
  | notices | pictures | store | keep | order | pending
deriving DecidableEq, Repr

/-- Every field outside the list is the same in both states. -/
structure OnlyTouches (touched : List Block) (s t : State) : Prop where
  partTime : Block.partTime ∉ touched → t.partTime = s.partTime
  pins : Block.pins ∉ touched → t.pins = s.pins
  link : Block.link ∉ touched → t.link = s.link
  channels : Block.channels ∉ touched → t.channels = s.channels
  classifier : Block.classifier ∉ touched → t.classifier = s.classifier
  map : Block.map ∉ touched → t.map = s.map
  moves : Block.moves ∉ touched → t.moves = s.moves
  regulator : Block.regulator ∉ touched → t.regulator = s.regulator
  guards : Block.guards ∉ touched → t.guards = s.guards
  safe : Block.safe ∉ touched → t.safe = s.safe
  mgmt : Block.mgmt ∉ touched → t.mgmt = s.mgmt
  notices : Block.notices ∉ touched → t.notices = s.notices
  pictures : Block.pictures ∉ touched → t.pictures = s.pictures
  store : Block.store ∉ touched → t.store = s.store
  keep : Block.keep ∉ touched → t.keep = s.keep
  order : Block.order ∉ touched → t.order = s.order
  pending : Block.pending ∉ touched → t.pending = s.pending

/-- What giving a goal touches. -/
def touchMoves : List Block := [.moves, .link]

/-- What raising a notice touches. -/
def touchNotices : List Block := [.notices, .pins, .link]

/-- What the regulator touches in an event that keeps no trial. -/
def touchCycle : List Block :=
  [.pins, .link, .channels, .moves, .regulator, .notices, .pictures, .order]

/-- What the guard arbiter touches. -/
def touchGuards : List Block := .guards :: touchCycle

/-- What the end of a measure window touches: a keep reaches the map, or waits. -/
def touchWindow : List Block := .map :: .keep :: touchGuards

/-- What the handing over of a reply touches. -/
def touchReply : List Block := [.link, .mgmt]

/-- Only the management unit's replies and its list of requests differ. -/
abbrev Mgmt.repliedFrom (n m : Mgmt) : Prop :=
  n = { m with waiting := n.waiting, outstanding := n.outstanding, inbox := n.inbox }

/-- Only the numbered port of the link differs. -/
abbrev Link.onlyPort (p : Port) (k l : Link) : Prop :=
  l.side = k.side ∧ l.ports.get p.other = k.ports.get p.other

/-! ### Requests -/

/-- How the owner test treats a command's request (R181 test 3): the read requests are listed there. -/
def requestMode : Instr → RequestMode
  | .channelRead _ _ _ => .read
  | .classRead _ _ _ => .read
  | .cellRead _ _ _ _ _ => .read
  | .bankRead _ _ _ => .read
  | .moveRead _ _ => .read
  | .regulatorRead _ => .read
  | .guardPeek _ _ _ => .read
  | .substituteRead _ => .read
  | .pictureRead _ => .read
  | .countersRead _ => .read
  | .paramRead _ _ _ => .read
  | .beat _ => .noClaim
  | .releaseOwner _ => .noClaim
  | _ => .modifying

/-- The part states whose column of the table in 9.7 says "yes" for a command's request. -/
def requestColumn : Instr → PartState → Bool
  | .paramWrite _ _ _ => inAwaitParam
  | .paramClose _ => inAwaitParam
  | .paramOpen _ => inLayoutOrReady
  | .layoutWrite _ _ => inAwaitLayout
  | .layoutClose _ => inAwaitLayout
  | .resume _ => inAwaitParam
  | .channelWrite _ _ _ => inSetup
  | .axisWrite _ _ _ _ _ => inSetup
  | .guardConfig _ _ _ => notRegulating
  | .start _ => inReady
  | .stop _ => inRegulating
  | .switchBank _ => inReadyOrRegulating
  | .save _ => inReadyOrRegulating
  | .tuneWindows _ _ _ _ => inReadyOrRegulating
  | .beatEnable _ => inReadyOrRegulating
  | .holdAdjust _ _ => inReadyOrRegulating
  | .releaseAdjust _ _ => inReadyOrRegulating
  | .releaseOnce _ _ => inReadyOrRegulating
  | _ => anyState

/-- The part works: RESET is not driven active (R204). -/
abbrev State.works (s : State) : Prop := s.pins.inReset = false

/-- The part works and is not busy (R181 test 1, R184). -/
abbrev State.free (s : State) : Prop := s.works ∧ s.mgmt.busy = false

/-- No examination of the arbiter is put off (log 39): what came before a request is carried out whole (R181). -/
abbrev State.settled (s : State) : Prop := s.guards.examineDue = .no

/-- A request from a station passes tests 1, 3 and 4 of R181: the part is free, a modifying request comes
from the owner, and the part state is one that admits it; and no examination is put off before it. -/
abbrev State.admits (s : State) (r : Sender) (mode : RequestMode) (column : PartState → Bool) : Prop :=
  s.free ∧ s.settled ∧ (mode = .read ∨ s.mgmt.owner = some r.station) ∧ column s.mgmt.partState = true

/-! ### Invariants

Each is a decidable statement about one state; the obligations say that every step keeps it. -/

/-- Exactly one picture buffer is U, and at most one is N (R198). -/
def PictureUnit.sound (u : PictureUnit) : Bool :=
  (u.buffers.list.filter (fun b => decide (b.role = .u))).length == 1 &&
  decide ((u.buffers.list.filter (fun b => decide (b.role = .n))).length ≤ 1)

/-- ATTN is active exactly while attention enable is on and the notice queue is not empty (R197), and
every notice the ring holds is there (R195). -/
def State.noticesSound (s : State) : Bool :=
  (s.pins.attn == (s.mgmt.params.attentionEnable && decide (s.notices.held ≠ 0))) &&
  (List.range s.notices.held).all (fun k => (s.notices.nth k).isSome)

/-- The owner, the checking record and the heartbeat agree with the part state (R175, R180, R189). -/
def State.ownerSound (s : State) : Bool :=
  (decide (s.mgmt.partState = .awaitParam) || s.mgmt.owner.isSome) &&
  (s.mgmt.checking.isSome == decide (s.mgmt.partState = .checking)) &&
  (!s.safe.beatRunning || s.mgmt.owner.isSome)

/-- The states in which each window timer runs (R116). -/
def RegState.runs : RegState → Option WindowId
  | .settle => some .a
  | .trialSettle => some .a
  | .hold => some .a
  | .measure => some .b
  | .trialMeasure => some .b
  | _ => none

/-- The regulator's record agrees with its state: the window in use (R116), the gate (R40), the SAFE
cause (R114), the SAFE_OUT line (R173; inactive while RESET is driven active), and the part state (R114). -/
def State.cycleSound (s : State) : Bool :=
  (s.regulator.window.map Prod.fst == s.regulator.state.runs) &&
  (s.channels.gate == decide (s.regulator.state.runs = some .b)) &&
  (s.regulator.safeCause.isSome == decide (s.regulator.state = .safe)) &&
  (s.pins.safeOut == (!s.pins.inReset && decide (s.regulator.state = .safe))) &&
  (decide (s.regulator.state = .idle) || decide (s.regulator.state = .safe) ||
    decide (s.mgmt.partState = .regulating)) &&
  (decide (s.mgmt.partState ≠ .regulating) || decide (s.regulator.state ≠ .idle))

/-- The images the part may load: the one in the store, and the one a SAVE is writing (R202, R203). -/
def State.images (s : State) : List Image :=
  (match s.store.content with | .image i => [i] | _ => []) ++
  (match s.mgmt.saving with | some j => [j.image] | none => [])

/-- The priorities of the guards on a stack fall strictly from bottom to top (R161). -/
def Arbiter.nested (a : Arbiter) : List (Fin 12) → Bool
  | [] => true
  | n :: rest =>
    rest.all (fun k => decide ((a.guard k).config.priority < (a.guard n).config.priority)) && a.nested rest

/-- Every priority is 0 to 7 (R153). -/
def prioritiesOk (l : List GuardConfig) : Bool := l.all (fun c => decide (c.priority ≤ 7))

/-- The guard arbiter is sound: priorities 0 to 7 (R153), the floor 1 to 8 (R159), the stack nested and
holding exactly the ACTING guards, and the effective action the most severe one on it (R161) unless the judgement
is put off (R165; log 39). -/
def State.guardsSound (s : State) : Bool :=
  let a := s.guards
  prioritiesOk (a.table.list.map Guard.config) && s.images.all (fun i => prioritiesOk i.guards.list) &&
  decide (1 ≤ a.floor) && decide (a.floor ≤ 8) && a.nested a.stack &&
  allSources.all (fun n => a.stack.contains n == decide ((a.guard n).state = .acting)) &&
  (decide (a.examineDue ≠ .no) || decide (a.effective = a.severest))

/-- An axis definition fits its axis: its number of thresholds, and its default band (R49, R52). -/
def axisFits (a : Axis) (d : AxisDef) : Bool :=
  d.thresholds.length == a.highest && decide (d.defaultBand ≤ a.highest)

/-- The bands of an axis lie in its range; while it is frozen its value is absent and its candidate
band is its adopted band (R55, R62). -/
def Classifier.axisSound (c : Classifier) (a : Axis) : Bool :=
  let x := c.axes.get a
  axisFits a x.defn && decide (x.candidate ≤ a.highest) && decide (c.adopted.get a ≤ a.highest) &&
  (x.frozen == x.value.isNone) && (!x.frozen || decide (x.candidate = c.adopted.get a))

/-- The classifier is sound, and its dwell runs exactly while the candidate differs from the adopted class (R58). -/
def State.classSound (s : State) : Bool :=
  Axis.all.all s.classifier.axisSound &&
  (s.classifier.dwell.isSome == decide (s.classifier.candidate ≠ s.classifier.adopted)) &&
  s.images.all (fun i => Axis.all.all (fun a => axisFits a (i.axes.get a)))

/-- A cell fits the parameters: its targets lie inside the global limits, its trim offsets within the trim bounds (R69, R186). -/
def cellFits (p : Params) (c : CellRecord) : Bool :=
  Setting.all.all (fun st =>
    p.inLimits st (c.targets.get st).toNat && decide ((c.trimOffset st).natAbs ≤ p.trimBound st))

/-- Every written cell of a bank fits the parameters. -/
def bankFits (p : Params) (b : Bank) : Bool :=
  b.cells.list.all (fun c => match c with | some r => cellFits p r | none => true)

/-- Every present substitute value lies inside its setting's global limits (R169). -/
def substituteFits (p : Params) (u : Substitute) : Bool :=
  Setting.all.all (fun st => match u.values.get st with | some v => p.inLimits st v.toNat | none => true)

/-- The substitute set and both banks fit the parameters. -/
def configFits (p : Params) (u : Substitute) (a b : Bank) : Bool :=
  substituteFits p u && bankFits p a && bankFits p b

/-- The configuration in force, the stored image and the image being written each fit their parameters (R169, R186). -/
def State.limitsSound (s : State) : Bool :=
  configFits s.mgmt.params s.safe.substitute s.map.bankA s.map.bankB &&
  s.images.all (fun i => configFits i.params i.substitute i.bankA i.bankB)

/-- The role limits and the unique keys of the enabled entries (R28). -/
def channelsObey (l : List ChannelDef) : Bool :=
  let on := l.filter ChannelDef.enabled
  on.all (fun d =>
    decide ((on.filter (fun e => decide (e.station = d.station) && decide (e.sub = d.sub))).length ≤ 1) &&
    (match d.role.limit with
     | some n => decide ((on.filter (fun e => decide (e.role = d.role))).length ≤ n)
     | none => true))

/-- The channel table obeys R28, in force and in the images, and the CHANNEL_LOST indicator is the one of R39. -/
def State.channelsSound (s : State) : Bool :=
  channelsObey (s.channels.entries.list.map Channel.defn) &&
  (s.channels.lostIndicator == s.channels.lostNow) &&
  s.images.all (fun i => channelsObey i.channels.list)

/-- A move record agrees with its state: the accept timer runs in ISSUED, the move timer in MOVING, a
cause stands exactly in FAULT (R92, R105), and an exchange has a goal and a leg target. -/
def MoveRecord.sound (r : MoveRecord) : Bool :=
  (r.acceptTimer.isSome == decide (r.state = .issued)) && (r.moveTimer.isSome == decide (r.state = .moving)) &&
  ((r.cause == FaultCause.none) == decide (r.state ≠ .fault)) &&
  (decide (r.state = .idle) || decide (r.state = .fault) || (r.goal.isSome && r.leg.isSome && !r.manual))

/-- The move unit is sound, and its DRIVE_FAULT condition is active while a record is in FAULT (R105). -/
def State.movesSound (s : State) : Bool :=
  Setting.all.all (fun st => (s.record st).sound) && (s.moves.driveFault == s.anyFault)

/-- The sort of a part frame: 0 to 4 a SET for a setting, 5 IDENT_ASK, 6 ATTENTION, 7 REPLY (R15, R18, R19). -/
def partSort (f : Frame) : Option Nat :=
  match f.kind, f.payload with
  | .set, n :: _ => if n.toNat < 5 then some n.toNat else none
  | .identAsk, _ => some 5
  | .attention, _ => some 6
  | .reply, _ => some 7
  | _, _ => none

/-- An entry is sound: a forwarded frame has no pending content; a part frame has a sort, and its
pending content has the same one, which is not that of a REPLY (R18, R19). -/
def Entry.sound (e : Entry) : Bool :=
  match e.cls, e.held with
  | .forward, h => h.isNone
  | .part, none => (partSort e.frame).isSome
  | .part, some g =>
    (partSort e.frame).isSome && decide (partSort g = partSort e.frame) && decide (partSort g ≠ some 7)

/-- The sorts of the part frames of a queue. -/
def PortState.sorts (ps : PortState) : List (Option Nat) := (ps.queue.filter Entry.isPart).map (fun e => partSort e.frame)

/-- No value stands twice in a list. -/
def noRepeat {α : Type} [DecidableEq α] : List α → Bool
  | [] => true
  | x :: xs => !xs.contains x && noRepeat xs

/-- The entry a transmitter works on is in its queue (R14). -/
def PortState.progressSound (ps : PortState) : Bool :=
  match ps.tx with
  | .idle => true
  | .active _ i _ => decide (i < ps.queue.length)

/-- A transmit queue is sound: each entry is, no two part frames are of one sort, and at most 16 frames are forwarded ones (R15). -/
def PortState.sound (ps : PortState) : Bool :=
  ps.queue.all Entry.sound && noRepeat ps.sorts && decide (ps.forwardCount ≤ Config.forwardLimit) && ps.progressSound

/-- Both transmit queues are sound (R15). -/
def State.queuesSound (s : State) : Bool := (s.port .s).sound && (s.port .m).sound

/-! ### Words for statements -/

/-- One bit fed into the CRC register: the bit and the register's highest bit decide the generator (R4). -/
def crcBit (reg : Word16) (bit : Bool) : Word16 :=
  if xor (reg.getLsbD 15) bit then (reg <<< 1) ^^^ 0x1021#16 else reg <<< 1

/-- The bits of a byte, most significant first (R4). -/
def bitsOf (b : Byte) : List Bool := [7, 6, 5, 4, 3, 2, 1, 0].map b.getLsbD

/-- The check over a list of bytes, fed bit by bit (R4). -/
def serialCheck (bytes : List Byte) : Word16 := (bytes.map bitsOf).flatten.foldl crcBit 0xFFFF#16

/-- What a port's queue and counters become when a frame is to be forwarded through it (R17). -/
def PortState.forwarded (q : PortState) (f : Frame) : PortState :=
  if (q.queue.filter (fun e => decide (e.cls = .forward))).length < 16 then
    { q with queue := q.queue ++ [⟨.forward, f, none⟩] }
  else { q with forwardDrops := satInc16 q.forwardDrops }

/-- One port replaced. -/
def State.withPort (s : State) (p : Port) (q : PortState) : State :=
  s.withLink { s.link with ports := s.link.ports.set p q }

/-- A frame that passes the receive checks has ended at a port whose transmitter is not sending (R2, R7). -/
abbrev State.hears (s : State) (p : Port) (bytes : List Byte) (f : Frame) : Prop :=
  s.works ∧ (s.port p).tx.isSending = false ∧ receiveChecks bytes false = some f

/-- The state once a good frame is counted (R7) and its source learned (R9). -/
def State.heard (s : State) (p : Port) (f : Frame) : State :=
  learnSide f.source p (s.withPort p { s.port p with good := satInc16 (s.port p).good })

/-- The state with a request taken from the list of requests handed on. -/
abbrev State.taken (s : State) (c : Instr) : State := takeRequest c s

/-- A request is turned away by one of its own checks (R181 test 5): it is answered with a result and no
fields, and changes nothing else. -/
abbrev State.refuses (s : State) (c : Instr) (r : Sender) (code : Nat) (result : Result) : Prop :=
  exec c s = .next (answer r code result [] (s.taken c))

/-- `t` is reached from `s` by leaving SAFE for a state (R172): SAFE_OUT is inactive and SAFE_LEFT is raised.
From any other state neither happens. -/
def State.leftSafe (s t : State) (next : RegState) : Prop :=
  if s.regulator.state = .safe then
    t.pins.safeOut = false ∧ t.notices =
      (raiseNotice .safeLeft (safeCauseCode s.regulator.safeCause) (BitVec.ofNat 16 next.code) s).notices
  else t.pins.safeOut = s.pins.safeOut ∧ t.notices = s.notices

/-- The SAFE cause once SAFE is left; outside SAFE it stays (R114). -/
def Regulator.causeOutsideSafe (r : Regulator) : Option SafeCause := if r.state = .safe then none else r.safeCause

/-- `t` is reached from `s` by entering FOLLOW (R119), in an episode with this cursor and exhausted flag:
the five effective targets are given as REGULATOR goals and make up the target set; with every setting
settled after that, SETTLE is entered at once (R120). -/
def State.followed (s t : State) (cursor : Nat) (exhausted : Bool) : Prop :=
  t.regulator = { s.regulator with
    state := if t.allSettled then .settle else .follow
    safeCause := s.regulator.causeOutsideSafe
    window := if t.allSettled then some (.a, ⟨s.partTime, s.mgmt.params.item 26 * 10⟩) else none
    targets := t.regulator.targets
    cursor := cursor
    exhausted := exhausted
    baseline := none
    trial := none } ∧
  (∀ c, s.cellInUse = some c → ∀ st,
    let v := effectiveTarget s.mgmt.params s.activeBank c s.classifier.adopted.side st
    t.regulator.targets.get st = some v ∧ t.record st = (giveGoal st ⟨v, .regulator⟩ s).record st) ∧
  t.moves = { s.moves with records := t.moves.records } ∧
  t.channels = { s.channels with gate := false } ∧ s.leftSafe t .follow ∧ OnlyTouches touchCycle s t

/-- `t` is reached from `s` by entering PAUSED (R118, R138), with the concave release target given as a GUARD
goal or without it. -/
def State.pausedBy (s t : State) (release : Bool) : Prop :=
  t.regulator = { s.regulator with
    state := .paused, safeCause := s.regulator.causeOutsideSafe, window := none, trial := none } ∧
  t.moves = (if release then giveGoal .concave ⟨BitVec.ofNat 16 (s.mgmt.params.item 25), .guard⟩ s else s).moves ∧
  t.channels = { s.channels with gate := false } ∧ s.leftSafe t .paused ∧ OnlyTouches touchCycle s t

/-- `t` is reached from `s` by entering SAFE with a cause (R171): the present substitute values are given as
GUARD goals, SAFE_OUT is active, and SAFE_ENTERED is raised with the present mask. The target set stays. -/
def State.safeEntered (s t : State) (cause : SafeCause) : Prop :=
  t.regulator = { s.regulator with state := .safe, safeCause := some cause, window := none, trial := none } ∧
  (∀ st, t.record st = match s.safe.substitute.values.get st with
    | some v => (giveGoal st ⟨v, .guard⟩ s).record st
    | none => s.record st) ∧
  t.moves = { s.moves with records := t.moves.records } ∧
  t.pins.safeOut = true ∧
  t.notices = (raiseNotice .safeEntered cause.code
    ((packBits (Setting.all.map (fun st => (s.safe.substitute.values.get st).isSome))).setWidth 16) s).notices ∧
  t.channels = { s.channels with gate := false } ∧ OnlyTouches touchCycle s t

end Sys2Proof.Machine
end

