-- ==== Sys2Proof/Certificates/Slice0/Obligations.lean ====
section
/-! DEFINITION. The statements for the provers, family by family. Notation of the statements:
`s.admits r mode column` says that a request of `r` passes tests 1, 3 and 4 of R181 and that no examination of the
arbiter is put off before it (one that is, is made first: `RequestsAreTurnedAwayInOrder`); `s.taken c` is `s` with the
request `c` taken; `answer r code result fields u` is `u` with that REPLY ready (its own statement: `RepliesAreQueuedInTurn`). -/

open Sys2Proof Sys2Proof.Machine

/-! ### The machine -/

/-- A step runs the command at the front of the queue on the queue's rest. -/
def Obligations.StepRunsTheFrontCommand : Prop :=
  ∀ (c : Instr) (rest : List Instr) (s : State), s.pending = c :: rest → step s = exec c (s.withPending rest)

/-- Every command answers a next state, and none changes the queue it stands in. -/
def Obligations.EveryCommandAnswersNext : Prop :=
  ∀ (c : Instr) (s : State), ∃ t, exec c s = .next t ∧ t.pending = s.pending

/-- With an empty queue (the model's choice, log 2): a keep that waits reaches the map (R74, R75; log 37); else an
examination of the guards that was put off is made (R165; log 39); else what is due becomes the queue, each due command once; with nothing due, part time goes on by 10 ms and the count of a
RUNNING heartbeat falls by one. -/
def Obligations.AnEmptyQueueTakesUpWhatIsDue : Prop :=
  ∀ s : State, s.pending = [] → s.works →
    (∀ k, s.keep = some k →
      step s = .next ((s.withKeep none).withMap (s.map.withBank k.bank ((s.map.bank k.bank).keep
        (s.mgmt.params.item (20 + k.setting.num)) k.cell k.setting k.amount.toInt)))) ∧
    (s.keep = none → ¬ s.settled → step s = .next (settleGuards s)) ∧
    (s.keep = none → s.settled → s.agendaChains.flatten = [] →
      step s = .next ((s.withPartTime (s.partTime + 1#32)).withSafe
        { s.safe with
          beatCount := if s.safe.beatRunning ∧ s.safe.beatCount ≠ 0#16 then s.safe.beatCount - 1#16
                       else s.safe.beatCount })) ∧
    (s.keep = none → s.settled → s.agendaChains.flatten ≠ [] →
      ∃ t, step s = .next t ∧ t.pending.Perm s.agendaChains.flatten ∧ t.mgmt.inbox = [] ∧
        OnlyTouches [.mgmt, .order, .pending] s t)

/-- While RESET is driven active (log 16) no command but POWER_ON_RESET changes anything; driving it
active makes SAFE_OUT inactive and tears the image of a store write that runs, and changes nothing else. -/
def Obligations.ResetDrivenActiveStopsThePart : Prop :=
  (∀ (c : Instr) (s : State), s.pins.inReset = true → (∀ x, c ≠ .powerOnReset x) → exec c s = .next s) ∧
  (∀ s : State, s.works → ∃ t, exec .resetDrivenActive s = .next t ∧
    t.pins = { s.pins with inReset := true, safeOut := false } ∧
    t.mgmt = { s.mgmt with saving := none } ∧
    t.store = (if s.mgmt.saving.isSome then { s.store with content := .torn } else s.store) ∧
    t.store.found = (if s.mgmt.saving.isSome then .failed else s.store.found) ∧
    OnlyTouches [.pins, .mgmt, .store] s t)

/-! ### Invariants -/

/-- The invariants hold right after reset. -/
def Obligations.TheInvariantsHoldAtReset : Prop :=
  State.reset.pictures.sound = true ∧ State.reset.noticesSound = true ∧ State.reset.ownerSound = true ∧
  State.reset.cycleSound = true ∧ State.reset.guardsSound = true ∧ State.reset.classSound = true ∧
  State.reset.limitsSound = true ∧ State.reset.channelsSound = true ∧ State.reset.movesSound = true ∧
  State.reset.queuesSound = true

/-- Every step keeps exactly one picture buffer U and at most one N (R198); and ATTN active exactly while
attention enable is on and notices are queued (R197), with no empty slot between the ring's points, and never
more than 31 notices (R195). -/
def Obligations.StepsKeepThePicturesAndNoticesInOrder : Prop :=
  (∀ s t : State, s.pictures.sound = true → step s = .next t → t.pictures.sound = true) ∧
  ((∀ s t : State, s.noticesSound = true → step s = .next t → t.noticesSound = true) ∧
  (∀ s : State, s.notices.held ≤ 31))

/-- Every step keeps an owner present outside AWAIT_PARAM (R180), the checking record present exactly in
CHECKING (R189), and the heartbeat STOPPED without an owner (R175). -/
def Obligations.StepsKeepAnOwnerOutsideAwaitParam : Prop :=
  ∀ s t : State, s.ownerSound = true → step s = .next t → t.ownerSound = true

/-- Every step keeps SAFE_OUT active exactly while the regulator is in SAFE (R173), the gate open exactly
in MEASURE and TRIAL_MEASURE (R40), the window in use the one of the state (R116), a SAFE cause exactly
in SAFE, and the cycle states within REGULATING (R114). -/
def Obligations.StepsKeepTheCycleInOrder : Prop :=
  ∀ s t : State, s.cycleSound = true → step s = .next t → t.cycleSound = true

/-- Every step keeps the acting stack nested by falling priority and made of the ACTING guards, and the
effective action the most severe on it (R160, R161), unless its judgement is put off (the model's choice, log 39); such
a stack holds at most 8 guards. -/
def Obligations.StepsKeepTheGuardsNested : Prop :=
  (∀ s t : State, s.guardsSound = true → step s = .next t → t.guardsSound = true) ∧
  (∀ s : State, s.guardsSound = true → s.guards.stack.length ≤ 8)

/-- Every step keeps every band in its axis's range, a frozen axis without a value and with its candidate
band equal to its adopted band (R55), and the dwell running exactly while the candidate class differs
from the adopted one (R58). -/
def Obligations.StepsKeepTheClassesInRange : Prop :=
  ∀ s t : State, s.classSound = true → step s = .next t → t.classSound = true

/-- Every step keeps the cell targets and the substitute values inside the global limits and every trim
offset within its trim bound (R74, R186), in force and in the stored image. -/
def Obligations.StepsKeepTheTargetsInsideTheLimits : Prop :=
  ∀ s t : State, s.limitsSound = true → step s = .next t → t.limitsSound = true

/-- Every step keeps the limits of R28 on the enabled entries, and the CHANNEL_LOST indicator (R39). -/
def Obligations.StepsKeepOneRoleOneKey : Prop :=
  ∀ s t : State, s.channelsSound = true → step s = .next t → t.channelsSound = true

/-- Every step keeps the accept timer to ISSUED and the move timer to MOVING (R92), a fault cause exactly
in FAULT, and DRIVE_FAULT active exactly while a record is in FAULT (R105). -/
def Obligations.StepsKeepTheMoveRecordsInOrder : Prop :=
  ∀ s t : State, s.movesSound = true → step s = .next t → t.movesSound = true

/-- Every step keeps the transmit queues sound (R15, R18, R19): no two part frames of one sort, at most
16 forwarded frames; a sound queue holds at most 24 frames, 8 of them part frames. -/
def Obligations.StepsKeepTheQueuesBounded : Prop :=
  (∀ s t : State, s.queuesSound = true → step s = .next t → t.queuesSound = true) ∧
  (∀ q : PortState, q.sound = true →
    q.queue.length ≤ 24 ∧ q.forwardCount ≤ 16 ∧ (q.queue.filter Entry.isPart).length ≤ 8)

/-! ### Frames -/

/-- R3: every frame, made by the part or taken as good, has the envelope of R3, 6 + Length bytes; and the
Check the part computes is the bit-serial CRC of R4. -/
def Obligations.FramesHaveTheEnvelope : Prop :=
  (∀ (dest source : Byte) (kind : FrameKind) (tag : Tag) (payload : List Byte),
    let f := Frame.make dest source kind tag payload
    f.bytes = [dest, source, BitVec.ofNat 4 kind.code ++ tag, BitVec.ofNat 8 payload.length] ++ payload ++
      [f.check.extractLsb' 8 8, f.check.extractLsb' 0 8] ∧
    f.bytes.length = 6 + payload.length ∧
    f.check = serialCheck (f.bytes.take (4 + payload.length))) ∧
  (∀ (bytes : List Byte) (err : Bool) (f : Frame), receiveChecks bytes err = some f →
    bytes = [f.dest, f.source, BitVec.ofNat 4 f.kind.code ++ f.tag, BitVec.ofNat 8 f.payload.length] ++ f.payload ++
      [f.check.extractLsb' 8 8, f.check.extractLsb' 0 8] ∧
    bytes.length = 6 + f.payload.length ∧ f.payload.length ≤ 24 ∧
    f.dest.toNat ≤ 63 ∧ f.source.toNat ≤ 62 ∧ 1 ≤ f.kind.code ∧ f.kind.code ≤ 10 ∧
    f.check = serialCheck (bytes.take (4 + f.payload.length)))

/-- R7: the seven receive checks; a frame that fails one is discarded and counted as one check error and
nothing else; a good frame is counted as good. -/
def Obligations.TheReceiveChecksDecide : Prop :=
  (∀ (bytes : List Byte) (err : Bool), (receiveChecks bytes err).isSome ↔
    err = false ∧ 6 ≤ bytes.length ∧
    bytes.length = 6 + (bytes.getD 3 0#8).toNat ∧ (bytes.getD 3 0#8).toNat ≤ 24 ∧
    serialCheck (bytes.take (bytes.length - 2)) =
      word16 (bytes.getD (bytes.length - 1) 0#8) (bytes.getD (bytes.length - 2) 0#8) ∧
    (bytes.getD 0 0#8).toNat < 64 ∧ (bytes.getD 1 0#8).toNat ≤ 62 ∧
    ∃ kind, FrameKind.ofCode ((bytes.getD 2 0#8).toNat / 16) = some kind ∧
      kind.lengthOk (bytes.getD 3 0#8).toNat = true) ∧
  (∀ (p : Port) (bytes : List Byte) (err : Bool) (s : State), s.works → (s.port p).tx.isSending = false →
    receiveChecks bytes err = none →
    exec (.frameEnd p bytes err) s =
      .next (s.withPort p { s.port p with checkErrors := satInc16 (s.port p).checkErrors })) ∧
  (∀ (p : Port) (bytes : List Byte) (s : State) (f : Frame), s.hears p bytes f →
    ∃ t, exec (.frameEnd p bytes false) s = .next t ∧ (t.port p).good = satInc16 (s.port p).good ∧
      (t.port p).checkErrors = (s.port p).checkErrors)

/-- A frame the part originates with a legal payload passes the receive checks and is read back as it was
made: the bytes drop nothing (R3 to R7). -/
def Obligations.FramesReadBackAsSent : Prop :=
  ∀ (dest source : Byte) (kind : FrameKind) (tag : Tag) (payload : List Byte),
    dest.toNat ≤ 63 → source.toNat ≤ 62 → payload.length ≤ 24 → kind.lengthOk payload.length = true →
    receiveChecks (Frame.make dest source kind tag payload).bytes false = some (Frame.make dest source kind tag payload)

/-- Every well-formed request is read back from its code and the bytes its fields are sent as, with every
operand; bytes beyond the last field are ignored (R5, R181). A code the part does not know, or a payload with fewer
bytes than the fields its request must carry, is UNKNOWN_REQUEST, and any other is the request its code names (R181
test 2). -/
def Obligations.RequestsReadBackAsSpelled : Prop :=
  (∀ (i : Instr) (r : Sender) (code : Nat) (extra : List Byte), i.request = some (r, code) → i.wellFormed = true →
    ((∃ c fields, i = .unknownRequest r c fields) → extra = []) →
    decodeRequest r (BitVec.ofNat 8 code) (encodeFields i ++ extra) = i) ∧
  ∀ (r : Sender) (code : Byte) (fields : List Byte),
    let byteAt (k : Nat) : Nat := (fields.getD k 0#8).toNat
    let needed : Nat := match code.toNat with
      | 1 => 2 | 2 => 14 | 4 => 1
      | 5 => match byteAt 0 with
        | 0 => 10 | 1 => 14 | 2 => 12 | 3 => 12 | _ => 1
      | 6 => 2 | 7 => 17 | 8 => 22
      | 9 => if byteAt 1 ≤ 8 then 2 + 2 * byteAt 1 else 2
      | 10 => 21 | 11 => 7 | 12 => 4 | 13 => 2 | 14 => 1 | 17 => 2 | 18 => 1 | 19 => 1 | 20 => 1 | 21 => 1 | 22 => 6
      | 24 => 5 | 25 => 2 | 26 => 1 | 27 => 1 | 29 => 2 | 30 => 11 | 35 => 3 | 38 => 2 | 39 => 10
      | _ => 0
    (code = 0#8 ∨ 50 ≤ code.toNat ∨ fields.length < needed →
      decodeRequest r code fields = .unknownRequest r code fields) ∧
    (1 ≤ code.toNat → code.toNat ≤ 49 → needed ≤ fields.length →
      (decodeRequest r code fields).request = some (r, code.toNat) ∧
      ∀ b rest, decodeRequest r code fields ≠ .unknownRequest r b rest)

/-! ### Receiving -/

/-- A good frame from the own station number (R8) raises one STATION_CLASH notice, of the LINK class, and
hands one event to the LINK_FAULT source, and does nothing else. That the two are not ordered between them is
the model's choice (log 4; R194 says so of notices from different blocks). -/
def Obligations.AStationClashIsReported : Prop :=
  NoticeKind.stationClash.classBit = 4 ∧
  ∀ (p : Port) (bytes : List Byte) (s : State) (f : Frame), s.hears p bytes f → f.source = s.ownStation →
    exec (.frameEnd p bytes false) s =
      .next (interleave
        [[raiseNotice .stationClash s.ownStation.toNat (match p with | .s => 0#16 | .m => 1#16)], [takeEvent 10]]
        (s.withPort p { s.port p with good := satInc16 (s.port p).good }))

/-- R12: a frame to another station is filtered when the side table, once it has learned the source,
has its destination on the receiving port, and is forwarded through the other port otherwise (R17: it joins
that queue with its bytes unchanged, or is dropped and counted there). R11: a SAMPLE to every station goes to
the channel unit and is forwarded, or filtered when its matching entry does not mirror (the two are not
ordered, the model's choice: log 4); another kind is forwarded only. In a channel table that obeys R28, the entry does
not mirror exactly when an enabled entry of the frame's station and sub-channel has its mirror flag off. -/
def Obligations.FramesAreForwardedOrFiltered : Prop :=
  (∀ (s : State) (f : Frame) (b lo hi : Byte), s.channelsSound = true → f.payload = [b, lo, hi] →
    (s.mirrorOff f = true ↔ ∃ i, (s.channel i).defn.enabled = true ∧ (s.channel i).defn.station = f.source ∧
      (s.channel i).defn.sub = b.setWidth 2 ∧ (s.channel i).defn.mirror = false)) ∧
  (∀ (p : Port) (bytes : List Byte) (s : State) (f : Frame), s.hears p bytes f → f.source ≠ s.ownStation →
    f.dest ≠ s.ownStation → f.dest.toNat ≤ 62 →
    (s.heard p f).sideOf f.source = Side.ofPort p ∧ f.bytes = bytes ∧
    ((s.heard p f).sideOf f.dest = Side.ofPort p →
      exec (.frameEnd p bytes false) s =
        .next ((s.heard p f).withPort p
          { (s.heard p f).port p with filtered := satInc16 (s.port p).filtered })) ∧
    ((s.heard p f).sideOf f.dest ≠ Side.ofPort p →
      exec (.frameEnd p bytes false) s =
        .next ((s.heard p f).withPort p.other ((s.port p.other).forwarded f)))) ∧
  (∀ (p : Port) (bytes : List Byte) (s : State) (f : Frame), s.hears p bytes f → f.source ≠ s.ownStation →
    f.dest = 63#8 →
    exec (.frameEnd p bytes false) s = .next
      (if f.kind ≠ .sample then (s.heard p f).withPort p.other ((s.port p.other).forwarded f)
       else if s.mirrorOff f then interleave [[updPort p PortState.countFiltered], [takeSample f]] (s.heard p f)
       else interleave [[updPort p.other (fun q => q.forwarded f)], [takeSample f]] (s.heard p f)))

/-- A frame to the own station number is handed on by its kind (R10); a REQUEST only while the receiving port's
queue holds no REPLY of the part (R13). That a REQUEST joins, decoded, the list of requests handed to the
management unit is the model's choice (log 6), and that only a REPLY of the part holds it back its reading (log 10). -/
def Obligations.FramesToTheOwnStationAreHandedOn : Prop :=
  ∀ (p : Port) (bytes : List Byte) (s : State) (f : Frame), s.hears p bytes f → f.source ≠ s.ownStation →
    f.dest = s.ownStation →
    exec (.frameEnd p bytes false) s = .next
      (match f.kind with
       | .sample => takeSample f (s.heard p f)
       | .accept => takeDriveFrame f (s.heard p f)
       | .report => takeDriveFrame f (s.heard p f)
       | .done => takeDriveFrame f (s.heard p f)
       | .ident => takeIdent f (s.heard p f)
       | .request =>
         if (s.port p).queue.any (fun e => decide (e.cls = .part) && decide (e.frame.kind = .reply)) then s.heard p f
         else (s.heard p f).withMgmt { s.mgmt with
           inbox := s.mgmt.inbox ++
             [decodeRequest ⟨f.source, f.tag⟩ (f.payload.headD 0#8) f.payload.tail] }
       | _ => s.heard p f)

/-! ### Transmitting -/

/-- R20 (the line idle for at least 12 bit times, log 17): an IDLE transmitter chooses the oldest PART
frame, or the oldest frame when there is none; a successful attempt takes the frame from the queue, or
turns its entry into the pending content, keeping its age (R18), and the transmitter returns to IDLE. -/
def Obligations.TheOldestPartFrameIsSentFirst : Prop :=
  (∀ (p : Port) (n : Nat) (s : State), s.works → 12 ≤ n → (s.port p).tx = .idle → (s.port p).queue ≠ [] →
    ∃ i e, (s.port p).queue[i]? = some e ∧
      (∀ j d, j < i → (s.port p).queue[j]? = some d → d.cls = .forward) ∧
      (e.cls = .part ∨ i = 0 ∧ ∀ d ∈ (s.port p).queue, d.cls = .forward) ∧
      exec (.txChoose p n) s = .next (s.withPort p { s.port p with tx := .active .sending i 0 })) ∧
  (∀ (p : Port) (s : State) (i n : Nat) (e : Entry), s.works → (s.port p).tx = .active .sending i n →
    (s.port p).queue[i]? = some e →
    (∀ g, e.held = some g → exec (.txSuccess p) s =
      .next (s.withPort p { s.port p with queue := (s.port p).queue.set i ⟨e.cls, g, none⟩, tx := .idle })) ∧
    (e.held = none → ∃ t, exec (.txSuccess p) s = .next t ∧
      t.link = (s.withPort p { s.port p with queue := (s.port p).queue.eraseIdx i, tx := .idle }).link ∧
      OnlyTouches [.link, .mgmt] s t ∧
      ((e.cls = .forward ∨ e.frame.kind ≠ .reply) → t.mgmt = s.mgmt) ∧
      (e.cls = .part → e.frame.kind = .reply → t.mgmt.outstanding.get p = none ∧
        (s.mgmt.outstanding.get p = some .restart → t.mgmt.restartDue = true))))

/-- R21: a collision adds one to the attempt count and leads to BACKOFF; after the wait of 1 plus the strap
value ms the same frame is sent again; at the eighth failed attempt the frame is dropped and counted, and
the notice, the collision-drop event and the report of R22 follow (not ordered: log 4). Pending content
takes the entry with a count of 0 (R18). -/
def Obligations.TheEighthCollisionDropsTheFrame : Prop :=
  (∀ (p : Port) (s : State) (i n : Nat) (e : Entry), s.works → (s.port p).tx = .active .sending i n →
    (s.port p).queue[i]? = some e →
    (n + 1 < 8 → e.held = none →
      exec (.txCollision p) s = .next (s.withPort p { s.port p with tx := .active .backoff i (n + 1) })) ∧
    (∀ g, n + 1 < 8 → e.held = some g →
      exec (.txCollision p) s = .next (s.withPort p { s.port p with
        queue := (s.port p).queue.set i ⟨e.cls, g, none⟩, tx := .active .backoff i 0 })) ∧
    (8 ≤ n + 1 →
      exec (.txCollision p) s = .next (interleave
        [[raiseNotice .linkFault e.frame.dest.toNat (BitVec.ofNat 16 e.frame.kind.code)], [takeEvent 10],
         [reportLeft p e]]
        (s.withPort p (match e.held with
          | none => { s.port p with
              queue := (s.port p).queue.eraseIdx i, tx := .idle,
              collisionDrops := satInc16 (s.port p).collisionDrops }
          | some g => { s.port p with
              queue := (s.port p).queue.set i ⟨e.cls, g, none⟩, tx := .active .backoff i 0,
              collisionDrops := satInc16 (s.port p).collisionDrops }))))) ∧
  (∀ (p : Port) (s : State) (i n ms : Nat), s.works → (s.port p).tx = .active .backoff i n →
    1 + s.pins.straps.toNat ≤ ms →
    exec (.backoffEnd p ms) s = .next (s.withPort p { s.port p with tx := .active .sending i n }))

/-- R18 and R16: a part frame goes to the port its destination was last heard on, to M when it was not
heard; it joins behind the newest frame, or takes the place of the earlier frame of its sort, keeping its
age; on the line, that frame goes on and the new one becomes the entry's pending content. -/
def Obligations.APartFrameReplacesItsSort : Prop :=
  (∀ (f : Frame) (s : State),
    queuePart f s = s.withPort (if s.sideOf f.dest = .s then .s else .m)
      ((s.port (if s.sideOf f.dest = .s then .s else .m)).joinPart f)) ∧
  (∀ (f : Frame) (q : PortState),
    ((∀ e ∈ q.queue, e.cls = .part → replaces f e.frame = false) →
      q.joinPart f = { q with queue := q.queue ++ [⟨.part, f, none⟩] }) ∧
    (∀ i e, q.queue[i]? = some e → e.cls = .part → replaces f e.frame = true →
      (∀ j d, j < i → q.queue[j]? = some d → ¬ (d.cls = .part ∧ replaces f d.frame = true)) →
      q.joinPart f = (match q.tx with
        | .active .sending j n =>
          if j = i then { q with queue := q.queue.set i ⟨.part, e.frame, some f⟩ }
          else { q with queue := q.queue.set i ⟨.part, f, none⟩, tx := .active .sending j n }
        | .active .backoff j n =>
          { q with queue := q.queue.set i ⟨.part, f, none⟩, tx := .active .backoff j (if j = i then 0 else n) }
        | .idle => { q with queue := q.queue.set i ⟨.part, f, none⟩ }))) ∧
  (∀ new old : Frame, replaces new old = true ↔
    (new.kind = .set ∧ old.kind = .set ∧ new.payload.head? = old.payload.head?) ∨
    (new.kind = .identAsk ∧ old.kind = .identAsk) ∨ (new.kind = .attention ∧ old.kind = .attention))

/-- The oldest reply that waits for a port is handed to it when its queue holds no REPLY (R19, R184), as the
frame of R5 and R6: the requester as destination, the tag of its request, the request code, the result, the
part index with More, and the fields. A reply that becomes ready waits while a REPLY stands in its port's
queue, and goes into the queue at once when none does and no other waits for it (the model's choice, log 8). The
port a waiting reply goes to is taken from the side table when it is handed over (the model's choice, log 9), and
only a REPLY of the part keeps it waiting (the model's reading, log 10), or an examination of the guards that was put
off, which a handover makes first (R163; the model's choice, log 39). -/
def Obligations.RepliesAreQueuedInTurn : Prop :=
  (∀ (p : Port) (s : State), s.works → ¬ s.settled →
    exec (.replyHandover p) s = .next (handOver p (settleGuards s)) ∧
    (settleGuards s).settled ∧
    ∀ (r : Sender) (code : Nat) (result : Result) (fields : List Byte), answer r code result fields s =
      s.withMgmt { s.mgmt with waiting := s.mgmt.waiting ++ [⟨r, BitVec.ofNat 8 code, result, 0, false, fields, .plain⟩] }) ∧
  (∀ (p : Port) (s : State) (before after : List Reply) (r : Reply), s.works → s.settled →
    (∀ e ∈ (s.port p).queue, ¬ (e.cls = .part ∧ e.frame.kind = .reply)) →
    s.mgmt.waiting = before ++ r :: after → (∀ b ∈ before, b ≠ r ∧ s.portFor b.asker.station ≠ p) →
    s.portFor r.asker.station = p →
    exec (.replyHandover p) s = .next
      ((s.withPort p { s.port p with
          queue := (s.port p).queue ++ [⟨.part, Frame.make r.asker.station s.ownStation .reply r.asker.tag
            ([r.code, BitVec.ofNat 8 r.result.code, BitVec.ofNat 8 (r.part + if r.more then 128 else 0)] ++ r.fields),
            none⟩] }).withMgmt
        { s.mgmt with
          waiting := before ++ after
          outstanding := s.mgmt.outstanding.set p (some r.origin) })) ∧
  (∀ (r : Sender) (code : Nat) (result : Result) (fields : List Byte) (s : State),
    let p := s.portFor r.station
    let ready : Reply := ⟨r, BitVec.ofNat 8 code, result, 0, false, fields, .plain⟩
    (((∃ e ∈ (s.port p).queue, e.cls = .part ∧ e.frame.kind = .reply)) →
      answer r code result fields s = s.withMgmt { s.mgmt with waiting := s.mgmt.waiting ++ [ready] }) ∧
    (s.settled → (∀ e ∈ (s.port p).queue, ¬ (e.cls = .part ∧ e.frame.kind = .reply)) →
      (∀ b ∈ s.mgmt.waiting, s.portFor b.asker.station ≠ p) →
      answer r code result fields s =
        (s.withPort p { s.port p with
          queue := (s.port p).queue ++ [⟨.part, Frame.make r.station s.ownStation .reply r.tag
            ([BitVec.ofNat 8 code, BitVec.ofNat 8 result.code, 0#8] ++ fields), none⟩] }).withMgmt
          { s.mgmt with outstanding := s.mgmt.outstanding.set p (some .plain) }))

/-! ### Channels -/

/-- R27: the scaled value is the exact product divided by 256, truncated toward zero, plus the offset,
saturated to the signed 16-bit range. -/
def Obligations.SamplesAreScaledAndSaturated : Prop :=
  ∀ gain offset raw : Word16,
    (scaleSample gain offset raw).toInt =
      max (-32768) (min 32767 (Int.tdiv (raw.toInt * gain.toInt) 256 + offset.toInt))

/-- A SAMPLE matches an enabled entry with its station and sub-channel whenever there is one, and that one in a
table that obeys R28. It changes the entry it matches alone: lock and window (R33 to R35), then the fault latch,
the range latch and count, or the value and its accumulator (R30 to R32, R41). A latch already set raises
no further notice (R31). In LOST the entry becomes LOCKED first, with a CHANNEL_LOCKED notice and the indicator
judged again (R34, R36, R37, R39; not ordered: log 4), and the SAMPLE is then handled as in LOCKED. A value taken is
handed to the classifier, for a role an axis reads, and to the arbiter, for a role a guard source reads (R26, R38, R57,
R148; not ordered); a faulted or out-of-range SAMPLE is handed to neither. A SAMPLE that matches none changes nothing. -/
def Obligations.ASampleIsTracked : Prop :=
  (∀ (role : Role) (v : Word16),
    let axis (a : Axis) : List Handing := [takeAxisValue a v]
    let source : List Handing := [takeKept role (some v)]
    valueHandings role v = match role with
      | .moisture => [axis .moisture]
      | .feedLoad => [axis .feed, source]
      | .pitch => [axis .slope, source]
      | .roll => [axis .side, source]
      | .tailings => [source] | .drumSpeed => [source] | .fanSpeed => [source]
      | .shoeLoss => [] | .sepLoss => [] | .grainFlow => [] | .none => []) ∧
  (∀ (s : State) (source : Byte) (sub : BitVec 2) (i : Fin 24), s.matchSample source sub = some i →
    (s.channel i).defn.enabled = true ∧ (s.channel i).defn.station = source ∧ (s.channel i).defn.sub = sub) ∧
  (∀ (s : State) (i : Fin 24), (s.channel i).defn.enabled = true →
    let found := s.matchSample (s.channel i).defn.station (s.channel i).defn.sub
    found.isSome = true ∧ (s.channelsSound = true → found = some i)) ∧
  (∀ (s : State) (f : Frame) (b lo hi : Byte) (i : Fin 24), f.payload = [b, lo, hi] →
    s.matchSample f.source (b.setWidth 2) = some i → (s.channel i).rt.lock = .lost →
    let c := s.channel i
    let relocked : Channel := ⟨c.defn, { c.rt with
      lock := .locked
      window := if c.defn.period = 0#8 then none
                else some ⟨s.partTime, c.defn.period.toNat + c.defn.period.toNat / 2⟩ }⟩
    ∃ u, u.channel i = relocked ∧ (∀ j, j ≠ i → u.channel j = s.channel j) ∧
      u.channels.lostIndicator = u.channels.lostNow ∧
      u = interleave
        [[raiseNotice .channelLocked i.val (BitVec.ofNat 16 c.defn.role.code)], [judgeLost]]
        (s.withChannels { s.channels with entries := s.channels.entries.set i relocked }) ∧
      takeSample f s = takeSample f u) ∧
  ∀ (s : State) (f : Frame) (b lo hi : Byte), f.payload = [b, lo, hi] →
    (s.matchSample f.source (b.setWidth 2) = none → takeSample f s = s) ∧
    ∀ i, s.matchSample f.source (b.setWidth 2) = some i → (s.channel i).rt.lock ≠ .lost →
      let c := s.channel i
      let v := scaleSample c.defn.gain c.defn.offset (word16 lo hi)
      let t := takeSample f s
      let r : ChannelRt := { c.rt with
        lock := .locked
        window := if c.defn.period = 0#8 then none
                  else some ⟨s.partTime, c.defn.period.toNat + c.defn.period.toNat / 2⟩ }
      let counted : Bool := s.channels.gate && c.defn.role.isMeasured && decide (c.rt.count ≠ 65535#16)
      (∀ j, j ≠ i → t.channel j = s.channel j) ∧
      (b.getLsbD 7 = true →
        t.channel i = ⟨c.defn, { r with faultLatch := true }⟩ ∧ OnlyTouches (.channels :: touchNotices) s t ∧
        t.notices = (if c.rt.faultLatch then s else raiseNotice .sensorFault i.val (word16 lo hi) s).notices) ∧
      (b.getLsbD 7 = false → (v.toInt < c.defn.plausibleMin.toInt ∨ c.defn.plausibleMax.toInt < v.toInt) →
        t.channel i = ⟨c.defn, { r with rangeLatch := true, rangeCount := satInc8 c.rt.rangeCount }⟩ ∧
        OnlyTouches (.channels :: touchNotices) s t ∧
        t.notices = (if c.rt.rangeLatch then s else raiseNotice .rangeError i.val v s).notices) ∧
      (b.getLsbD 7 = false → c.defn.plausibleMin.toInt ≤ v.toInt → v.toInt ≤ c.defn.plausibleMax.toInt →
        let taken : Channel := ⟨c.defn, { r with
          lastValue := some v
          lastTime := some s.partTime
          sum := if counted then c.rt.sum + v.signExtend 32 else c.rt.sum
          count := if counted then c.rt.count + 1#16 else c.rt.count }⟩
        t.channel i = taken ∧
        t = interleave (valueHandings c.defn.role v)
          (s.withChannels { s.channels with entries := s.channels.entries.set i taken }))

/-- The expiry of a tracking window (R35): LOCKED becomes ONE_MISSED and the window restarts, and nothing
else changes; ONE_MISSED becomes LOST (R34), and the CHANNEL_LOST indicator is the one of R39 afterwards. With it a
CHANNEL_LOST notice is raised with the entry and its role code (R37), the indicator is judged, and an entry that held a
usable value hands on that it holds none, which freezes its axis and makes its kept value absent (R38, R56, R148; not
ordered: log 4). -/
def Obligations.AMissedSampleIsTracked : Prop :=
  (∀ role : Role,
    let axis (a : Axis) : List Handing := [freezeAxis a]
    let source : List Handing := [takeKept role none]
    unusableHandings role = match role with
      | .moisture => [axis .moisture]
      | .feedLoad => [axis .feed, source]
      | .pitch => [axis .slope, source]
      | .roll => [axis .side, source]
      | .tailings => [source] | .drumSpeed => [source] | .fanSpeed => [source]
      | .shoeLoss => [] | .sepLoss => [] | .grainFlow => [] | .none => []) ∧
  ∀ (i : Fin 24) (s : State), s.works → s.channelDue i = true →
    ((s.channel i).rt.lock = .locked → exec (.channelWindowExpiry i) s = .next (s.withChannels { s.channels with
      entries := s.channels.entries.set i ⟨(s.channel i).defn, { (s.channel i).rt with
        lock := .oneMissed
        oneMissedLatch := true
        window := if (s.channel i).defn.period = 0#8 then none
          else some ⟨s.partTime, (s.channel i).defn.period.toNat + (s.channel i).defn.period.toNat / 2⟩ }⟩ })) ∧
    ((s.channel i).rt.lock = .oneMissed → ∃ t, exec (.channelWindowExpiry i) s = .next t ∧
      let lost : Channel := ⟨(s.channel i).defn, { (s.channel i).rt with
        lock := .lost
        window := none
        twoMissedLatch := true
        lastValue := none
        interrupted := (s.channel i).rt.interrupted ||
          (s.channels.gate && (s.channel i).defn.enabled && (s.channel i).defn.role.isMeasured) }⟩
      t.channel i = lost ∧
      t = interleave
        ([[raiseNotice .channelLost i.val (BitVec.ofNat 16 (s.channel i).defn.role.code)], [judgeLost]] ++
          (if (s.channel i).defn.enabled = true ∧ (s.channel i).rt.lastValue ≠ none
           then unusableHandings (s.channel i).defn.role else []))
        (s.withChannels { s.channels with entries := s.channels.entries.set i lost }) ∧
      (∀ j, j ≠ i → t.channel j = s.channel j) ∧
      t.channels.lostIndicator = t.channels.lostNow ∧
      OnlyTouches (.classifier :: touchGuards) s t)

/-- CHANNEL WRITE (R44, R45), CHANNEL RESTART (R47; the mark is the model's reading, log 27) and ERROR RESET
(R46, R23, R106) answered DONE: what becomes of the entries they name, of the other entries, of the counters
and of the records in FAULT. The first two judge the CHANNEL_LOST indicator again and hand on, for each entry that held
a usable value, that it holds none (R38, R45, R47; not ordered: log 4), whole, with what that leads to in the arbiter
(R181). ERROR RESET takes every record out of FAULT,
with cause none and the resend cleared, judges DRIVE_FAULT again and gives their goals again with their own source
(R106; that it goes from DRUM to FAN is the model's choice, log 35). CHANNEL WRITE is refused with BAD_FIELD for a bad field, then with CONFLICT for a
write that breaks a limit of R28; CHANNEL RESTART with BAD_FIELD for an Index of 24 to 254. -/
def Obligations.ChannelRequestsTakeEffect : Prop :=
  (∀ (own : Byte) (f : ChannelFields), (channelOfFields own f).isSome ↔
    f.station.toNat ≤ 62 ∧ f.station ≠ own ∧ f.sub.toNat ≤ 3 ∧ f.role.toNat ≤ 10 ∧
    f.plausibleMin.toInt < f.plausibleMax.toInt ∧ f.flags.toNat < 8) ∧
  (∀ (r : Sender) (index : Byte) (f : ChannelFields) (s : State), s.admits r .modifying inSetup →
    (23 < index.toNat ∨ channelOfFields s.ownStation f = none →
      s.refuses (.channelWrite r index f) r 2 .badField) ∧
    (∀ i : Fin 24, ∀ d, index.toNat = i.val → channelOfFields s.ownStation f = some d →
      s.channels.breaksLimit i d = true → s.refuses (.channelWrite r index f) r 2 .conflict)) ∧
  (∀ (r : Sender) (index : Byte) (s : State), s.admits r .modifying anyState → 23 < index.toNat → index ≠ 255#8 →
    s.refuses (.channelRestart r index) r 4 .badField) ∧
  (∀ (r : Sender) (i : Fin 24) (f : ChannelFields) (d : ChannelDef) (s : State), s.admits r .modifying inSetup →
    channelOfFields s.ownStation f = some d → s.channels.breaksLimit i d = false →
    ∃ u, exec (.channelWrite r (BitVec.ofNat 8 i.val) f) s = .next (answer r 2 .done [] u) ∧
      d.enabled = f.flags.getLsbD 0 ∧ d.mirror = f.flags.getLsbD 1 ∧ d.required = f.flags.getLsbD 2 ∧
      d.station = f.station ∧ d.sub.toNat = f.sub.toNat ∧ d.role.code = f.role.toNat ∧ d.gain = f.gain ∧
      d.offset = f.offset ∧ d.plausibleMin = f.plausibleMin ∧ d.plausibleMax = f.plausibleMax ∧
      d.period = f.period ∧
      u.channel i = ⟨d, ⟨.search, none, false, false, false, false, 0#8, none, none, 0#32, 0#16,
        s.channels.gate && d.enabled && d.role.isMeasured⟩⟩ ∧
      (∀ j, j ≠ i → u.channel j = s.channel j) ∧
      u.channels.lostIndicator = u.channels.lostNow ∧
      u.mgmt = (s.taken (.channelWrite r (BitVec.ofNat 8 i.val) f)).mgmt ∧
      u = settleWaiting (interleave ([[judgeLost]] ++
          (if (s.channel i).usable then unusableHandings (s.channel i).defn.role else []))
        ((s.taken (.channelWrite r (BitVec.ofNat 8 i.val) f)).withChannels { s.channels with
          entries := s.channels.entries.set i (u.channel i) })) ∧
      OnlyTouches (.classifier :: .mgmt :: touchGuards) s u) ∧
  (∀ (r : Sender) (index : Byte) (s : State), s.admits r .modifying anyState →
    (index.toNat ≤ 23 ∨ index = 255#8) →
    ∃ u, exec (.channelRestart r index) s = .next (answer r 4 .done [] u) ∧
      (∀ j : Fin 24, (index = 255#8 ∨ index.toNat = j.val) → u.channel j = ⟨(s.channel j).defn,
        ⟨.search, none, false, false, false, false, 0#8, none, none, 0#32, 0#16,
        s.channels.gate && (s.channel j).defn.enabled && (s.channel j).defn.role.isMeasured⟩⟩) ∧
      (∀ j : Fin 24, ¬ (index = 255#8 ∨ index.toNat = j.val) → u.channel j = s.channel j) ∧
      u.channels.lostIndicator = u.channels.lostNow ∧
      u.mgmt = (s.taken (.channelRestart r index)).mgmt ∧
      (∃ held : List (Fin 24), held.Pairwise (· < ·) ∧
        (∀ j, j ∈ held ↔ (index = 255#8 ∨ index.toNat = j.val) ∧ (s.channel j).usable = true) ∧
        u = settleWaiting (interleave
          ([[judgeLost]] ++ (held.map (fun j => unusableHandings (s.channel j).defn.role)).flatten)
          ((s.taken (.channelRestart r index)).withChannels { s.channels with entries := u.channels.entries }))) ∧
      OnlyTouches (.classifier :: .mgmt :: touchGuards) s u) ∧
  (∀ (r : Sender) (s : State), s.admits r .modifying anyState →
    ∃ u, exec (.errorReset r) s = .next (answer r 3 .done [] u) ∧
      (∀ j : Fin 24, u.channel j = ⟨(s.channel j).defn, { (s.channel j).rt with
        oneMissedLatch := false, twoMissedLatch := false, rangeLatch := false, faultLatch := false, rangeCount := 0#8 }⟩) ∧
      (∀ p : Port, (u.port p).good = 0#16 ∧ (u.port p).checkErrors = 0#16 ∧ (u.port p).filtered = 0#16 ∧
        (u.port p).forwardDrops = 0#16 ∧ (u.port p).collisionDrops = 0#16) ∧
      (∀ st : Setting, (u.record st).state ≠ .fault ∧ u.moves.stale.get st = 0#16) ∧
      u.moves.unmatched = 0#16 ∧ u.moves.driveFault = false ∧
      (∃ base : State, OnlyTouches [.channels, .link, .moves, .notices, .mgmt] s base ∧
        base.channels = { s.channels with entries := u.channels.entries } ∧ base.notices = { s.notices with lost := 0#16 } ∧ base.mgmt = u.mgmt ∧
        base.link = { s.link with ports := base.link.ports } ∧
        (∀ p, base.port p = { s.port p with
          good := 0#16, checkErrors := 0#16, filtered := 0#16, forwardDrops := 0#16, collisionDrops := 0#16 }) ∧
        base.moves = { s.moves with records := base.moves.records, stale := base.moves.stale, unmatched := 0#16 } ∧
        (∀ st, base.moves.stale.get st = 0#16 ∧ base.record st =
          if (s.record st).state = .fault then
            { s.record st with state := .idle, resendUsed := false, cause := .none }
          else s.record st) ∧
        u = (Setting.all.filter (fun st => decide ((s.record st).state = .fault))).foldl
          (fun t st => match (t.record st).goal with
            | some g => giveGoal st g t
            | none => t)
          (judgeDriveFault base)) ∧
      (s.anyFault = false → s.moves.driveFault = false →
        u.notices = { s.notices with lost := 0#16 } ∧ u.moves.records = s.moves.records) ∧
      u.link.side = s.link.side ∧
      u.mgmt = (s.taken (.errorReset r)).mgmt ∧
      OnlyTouches (.mgmt :: touchGuards) s u)

/-! ### Classes -/

/-- R50, R51: the plain band counts the thresholds a value reaches; with hysteresis the band rises to the
largest threshold above it that is passed by h, falls below the smallest one at or below it that is
undercut by h, and otherwise stays. The comparisons are exact. A value event or a usable event (R56, R57)
leaves the other axes and the adopted class; the dwell stays while the candidate class stays, stops when
it becomes the adopted class, and otherwise starts afresh (R59). -/
def Obligations.BandsFollowTheThresholdsAndValues : Prop :=
  ((∀ (ts : List Word16) (v : Int) (k : Nat), strictlyAscending ts = true → k ≤ ts.length →
    (plainBand ts v = k ↔
      (∀ j, j < k → ((ts.getD j 0#16).toInt ≤ v)) ∧ (∀ j, k ≤ j → j < ts.length → v < (ts.getD j 0#16).toInt))) ∧
  (∀ (ts : List Word16) (h : Nat) (b : Nat) (v : Int), strictlyAscending ts = true → b ≤ ts.length →
    (∀ k, b < k → k ≤ ts.length → (ts.getD (k - 1) 0#16).toInt + h ≤ v →
      (∀ j, k < j → j ≤ ts.length → v < (ts.getD (j - 1) 0#16).toInt + h) → hysteresisBand ts h b v = k) ∧
    (∀ k, 1 ≤ k → k ≤ b → v < (ts.getD (k - 1) 0#16).toInt - h →
      (∀ j, 1 ≤ j → j < k → (ts.getD (j - 1) 0#16).toInt - h ≤ v) → hysteresisBand ts h b v = k - 1) ∧
    ((∀ k, b < k → k ≤ ts.length → v < (ts.getD (k - 1) 0#16).toInt + h) →
      (∀ k, 1 ≤ k → k ≤ b → (ts.getD (k - 1) 0#16).toInt - h ≤ v) → hysteresisBand ts h b v = b)) ∧
  (∀ (a : Axis) (v : Word16) (s : State),
    let x := s.classifier.axes.get a
    (takeAxisValue a v s).classifier.axes.get a = ⟨x.defn, false, some v,
      if x.frozen then plainBand x.defn.thresholds v.toInt
      else hysteresisBand x.defn.thresholds x.defn.hysteresis.toNat x.candidate v.toInt⟩)) ∧
  (∀ (a : Axis) (s t : State), (∃ v, t = takeAxisValue a v s) ∨ t = freezeAxis a s →
    (∀ b, b ≠ a → t.classifier.axes.get b = s.classifier.axes.get b) ∧
    (t.classifier.axes.get a).defn = (s.classifier.axes.get a).defn ∧
    t.classifier.adopted = s.classifier.adopted ∧ t.classifier.adoptedAt = s.classifier.adoptedAt ∧
    (t.classifier.candidate = s.classifier.candidate → t.classifier.dwell = s.classifier.dwell) ∧
    (t.classifier.candidate ≠ s.classifier.candidate →
      t.classifier.dwell = if t.classifier.candidate = t.classifier.adopted then none
        else some ⟨s.partTime, 10 * s.mgmt.params.item 29⟩) ∧
    (t = freezeAxis a s → (s.classifier.axes.get a).frozen = false →
      (t.classifier.axes.get a).frozen = true ∧ (t.classifier.axes.get a).value = none ∧
      (t.classifier.axes.get a).candidate = s.classifier.adopted.get a) ∧
    OnlyTouches [.classifier] s t)

/-- R53, R61: the dwell's expiry adopts the candidate class and hands the adoption on (R63: to the regulator,
the picture unit and the notice unit, not ordered: log 4); AXIS WRITE answered DONE puts the new definition in
place, moves the candidate band of an axis that holds a value to the value's plain band, and on a frozen
axis adopts the new default band, handing the adoption on when it changes the adopted class. The dwell
then acts (R59) if the candidate class has changed. AXIS WRITE is refused with BAD_FIELD for an Axis above 3, and
for a hysteresis, default band or thresholds that R52 rules out; with fewer thresholds than its axis has it is
UNKNOWN, and those beyond the last are ignored (R52, R181 test 2). -/
def Obligations.ClassesAreAdopted : Prop :=
  (∀ s : State, s.works → s.dwellDue = true →
    let c : Classifier := { s.classifier with
      adopted := s.classifier.candidate
      adoptedAt := s.partTime
      dwell := none }
    ∃ t, exec .dwellExpiry s = .next t ∧ t.classifier = c ∧ c.candidate = c.adopted ∧
      t = interleave [[takeRetarget], [publish], [raiseNotice .classAdopted (cellNumber c.adopted)
        (BitVec.ofNat 16 (c.adopted.side + 8 * (frozenMask c.frozen).toNat))]] (s.withClassifier c)) ∧
  (∀ (r : Sender) (axis : Byte) (h : Word16) (db : Byte) (ts : List Word16) (s : State),
    s.admits r .modifying inSetup →
    let c : Instr := .axisWrite r axis h db ts
    (3 < axis.toNat → s.refuses c r 5 .badField) ∧
    ∀ a, Axis.ofNum axis.toNat = some a →
      (a.highest ≤ ts.length →
        (1000 < h.toNat ∨ a.highest < db.toNat ∨ strictlyAscending (ts.take a.highest) = false) →
        s.refuses c r 5 .badField) ∧
      (ts.length < a.highest → s.refuses c r 5 .unknown)) ∧
  (∀ (r : Sender) (axis : Byte) (a : Axis) (h : Word16) (db : Byte) (ts extra : List Word16) (s : State),
    s.admits r .modifying inSetup → Axis.ofNum axis.toNat = some a → ts.length = a.highest →
    h.toNat ≤ 1000 → db.toNat ≤ a.highest → strictlyAscending ts = true →
    let x := s.classifier.axes.get a
    let d : AxisDef := ⟨ts, h, db.toNat⟩
    let acts (c : Classifier) : Classifier :=
      if c.candidate = s.classifier.candidate then c
      else { c with dwell := if c.candidate = c.adopted then none else some ⟨s.partTime, 10 * s.mgmt.params.item 29⟩ }
    let request : Instr := .axisWrite r axis h db (ts ++ extra)
    let w := s.taken request
    (∀ v, x.frozen = false → x.value = some v →
      exec request s = .next (answer r 5 .done [] (w.withClassifier
        (acts { s.classifier with axes := s.classifier.axes.set a ⟨d, false, some v, plainBand ts v.toInt⟩ })))) ∧
    (x.frozen = true →
      let c : Classifier := { s.classifier with
        axes := s.classifier.axes.set a ⟨d, true, x.value, db.toNat⟩
        adopted := s.classifier.adopted.set a db.toNat
        adoptedAt := if s.classifier.adopted.get a = db.toNat then s.classifier.adoptedAt else s.partTime }
      ∃ u, exec request s = .next (answer r 5 .done [] u) ∧ u.classifier = acts c ∧
        u = ((if s.classifier.adopted.get a = db.toNat then w.withClassifier c
          else interleave [[takeRetarget], [publish], [raiseNotice .classAdopted (cellNumber c.adopted)
            (BitVec.ofNat 16 (c.adopted.side + 8 * (frozenMask c.frozen).toNat))]]
            (w.withClassifier c)).withClassifier (acts c))))

/-! ### The setting map -/

/-- The effective target (R72) is the target plus the trim offset plus the side trim, exact, clamped to the
global limits; a keep (R74) adds a step to the trim offset, held within the trim bound, counts it up to 15,
changes nothing else of the cell or of the other cells, and is discarded on an unwritten cell. -/
def Obligations.TargetsAreTrimmedAndClamped : Prop :=
  (∀ (p : Params) (b : Bank) (c : CellRecord) (side : Nat) (st : Setting),
    let sum : Int := (c.targets.get st).toNat +
      (match c.trim with | some t => (t.offsets.get st).toInt | none => 0) +
      (match st with
       | .fan => (b.sideTrims.get side).fan.toInt
       | .upper => (b.sideTrims.get side).upper.toInt
       | _ => 0)
    (sum < p.item st.num → ((effectiveTarget p b c side st).toNat : Int) = p.item st.num) ∧
    ((p.item st.num : Int) ≤ sum → (p.item (5 + st.num) : Int) < sum →
      ((effectiveTarget p b c side st).toNat : Int) = p.item (5 + st.num)) ∧
    ((p.item st.num : Int) ≤ sum → sum ≤ p.item (5 + st.num) →
      ((effectiveTarget p b c side st).toNat : Int) = sum)) ∧
  (∀ (b : Bank) (bound n : Nat) (st : Setting) (amount : Int), bound ≤ 32767 →
    (b.cell n = none → b.keep bound n st amount = b) ∧
    (∀ c, b.cell n = some c → ∃ t, (b.keep bound n st amount).cell n = some { c with trim := some t } ∧
      (let sum := c.trimOffset st + amount
       (t.offsets.get st).toInt = if sum.natAbs ≤ bound then sum else if sum < 0 then -(bound : Int) else bound) ∧
      (∀ o, o ≠ st → (t.offsets.get o).toInt = c.trimOffset o) ∧
      t.kept = min 15 ((match c.trim with | some u => u.kept | none => 0) + 1)) ∧
    (∀ m, m ≠ n → (b.keep bound n st amount).cell m = b.cell m) ∧
    { b.keep bound n st amount with cells := b.cells } = b)

/-- R80, R81: SIDETRIM WRITE and HEADER WRITE, refused (R76: a Bank above 1, the active bank while
REGULATING; then the field ranges) or answered DONE, and what they replace of the bank. -/
def Obligations.HeadersAndSideTrimsAreWritten : Prop :=
  ∀ (r : Sender) (bank : Byte) (s : State), s.admits r .modifying anyState →
    (∀ label llim tlim : Word16,
      let c : Instr := .headerWrite r bank label llim tlim
      let ok := 1 ≤ llim.toNat ∧ llim.toNat ≤ 2000 ∧ 1 ≤ tlim.toNat ∧ tlim.toNat ≤ 2000
      decodeRequest r 11#8 ([bank] ++ le16 label ++ le16 llim ++ le16 tlim) = c ∧
      (2 ≤ bank.toNat → exec c s = .next (answer r 11 .badField [] (s.taken c))) ∧
      ∀ k, BankId.ofNum bank.toNat = some k →
        ((k = s.map.active ∧ s.mgmt.partState = .regulating) →
          exec c s = .next (answer r 11 .wrongState [] (s.taken c))) ∧
        (¬ (k = s.map.active ∧ s.mgmt.partState = .regulating) → ¬ ok →
          exec c s = .next (answer r 11 .badField [] (s.taken c))) ∧
        (¬ (k = s.map.active ∧ s.mgmt.partState = .regulating) → ok →
          exec c s = .next (answer r 11 .done [] ((s.taken c).withMap
            (s.map.withBank k { s.map.bank k with label := label, llim := llim, tlim := tlim })))) ∧
        (∀ n, (match (s.map.bank k).cell n with | some x => x.ownLlim = none | none => True) →
          ({ s.map.bank k with label := label, llim := llim, tlim := tlim } : Bank).lossLimit n = llim.toNat) ∧
        (∀ n, (match (s.map.bank k).cell n with | some x => x.ownTlim = none | none => True) →
          ({ s.map.bank k with label := label, llim := llim, tlim := tlim } : Bank).tailingsLimit n = tlim.toNat)) ∧
    (∀ offsets : PerSide (Word16 × Word16),
      let c : Instr := .sidetrimWrite r bank offsets
      let ok := ∀ e ∈ offsets.toList, -500 ≤ e.1.toInt ∧ e.1.toInt ≤ 500 ∧ -100 ≤ e.2.toInt ∧ e.2.toInt ≤ 100
      let sent := bank :: (offsets.toList.map (fun e => le16 e.1 ++ le16 e.2)).flatten
      decodeRequest r 10#8 sent = c ∧ sent.length = 21 ∧
      (2 ≤ bank.toNat → exec c s = .next (answer r 10 .badField [] (s.taken c))) ∧
      ∀ k, BankId.ofNum bank.toNat = some k →
        ((k = s.map.active ∧ s.mgmt.partState = .regulating) →
          exec c s = .next (answer r 10 .wrongState [] (s.taken c))) ∧
        (¬ (k = s.map.active ∧ s.mgmt.partState = .regulating) → ¬ ok →
          exec c s = .next (answer r 10 .badField [] (s.taken c))) ∧
        (¬ (k = s.map.active ∧ s.mgmt.partState = .regulating) → ok →
          exec c s = .next (answer r 10 .done [] ((s.taken c).withMap
            (s.map.withBank k { s.map.bank k with
              sideTrims := ⟨⟨offsets.i0.1, offsets.i0.2⟩, ⟨offsets.i1.1, offsets.i1.2⟩,
                ⟨offsets.i2.1, offsets.i2.2⟩, ⟨offsets.i3.1, offsets.i3.2⟩, ⟨offsets.i4.1, offsets.i4.2⟩⟩ })))))

/-- CELL WRITE (R77), CELL FILL (R78) and PLAN WRITE (R79) answered DONE: the cells named become written with
the record's targets, permission and own limits and without a trim; the other cells, and the rest of the
map, stay; the plan becomes the steps given. They are refused (R76) with BAD_FIELD for a Bank above 1, with
WRONG_STATE for the active bank while REGULATING, and then with BAD_FIELD by their own checks. A PLAN WRITE with fewer
than Count step words is UNKNOWN, and step words beyond them are ignored (R181 test 2). -/
def Obligations.CellsAndPlansAreWritten : Prop :=
  (∀ (r : Sender) (bank : Byte) (s : State), s.admits r .modifying anyState →
    let okCell (f : CellFields) : Prop :=
      (∀ st, s.mgmt.params.inLimits st (f.targets.get st).toNat = true) ∧ f.flags.toNat < 8 ∧
      (f.flags.getLsbD 1 = true → 1 ≤ f.llim.toNat ∧ f.llim.toNat ≤ 2000) ∧
      (f.flags.getLsbD 2 = true → 1 ≤ f.tlim.toNat ∧ f.tlim.toNat ≤ 2000)
    let okBlock (g : BandBlock) : Prop :=
      g.moistureLow.toNat ≤ g.moistureHigh.toNat ∧ g.moistureHigh.toNat ≤ 3 ∧
      g.feedLow.toNat ≤ g.feedHigh.toNat ∧ g.feedHigh.toNat ≤ 5 ∧
      g.slopeLow.toNat ≤ g.slopeHigh.toNat ∧ g.slopeHigh.toNat ≤ 4
    let okStep (w : Word16) : Prop :=
      (w.extractLsb' 0 10).toInt ≠ 0 ∧ (w.extractLsb' 0 10).toInt.natAbs ≤ 500 ∧
      (w.extractLsb' 10 3).toNat ≤ 4 ∧ (w.extractLsb' 13 2).toNat ≤ 2 ∧ w.getLsbD 15 = false
    let refused (c : Instr) (code : Nat) (ok : Prop) : Prop :=
      (2 ≤ bank.toNat → s.refuses c r code .badField) ∧
      ∀ k, BankId.ofNum bank.toNat = some k →
        (k = s.map.active → s.mgmt.partState = .regulating → s.refuses c r code .wrongState) ∧
        (¬ (k = s.map.active ∧ s.mgmt.partState = .regulating) → ¬ ok → s.refuses c r code .badField)
    (∀ (cell : Byte) (f : CellFields), refused (.cellWrite r bank cell f) 7 (cell.toNat ≤ 119 ∧ okCell f)) ∧
    (∀ (g : BandBlock) (f : CellFields), refused (.cellFill r bank g f) 8 (okBlock g ∧ okCell f)) ∧
    (∀ (count : Byte) (ws : List Word16),
      (8 < count.toNat ∨ count.toNat ≤ ws.length →
        refused (.planWrite r bank count ws) 9 (count.toNat ≤ 8 ∧ ∀ w ∈ ws.take count.toNat, okStep w)) ∧
      (count.toNat ≤ 8 → ws.length < count.toNat → s.refuses (.planWrite r bank count ws) r 9 .unknown))) ∧
  ∀ (r : Sender) (bank : Byte) (k : BankId) (s : State), s.admits r .modifying anyState →
    BankId.ofNum bank.toNat = some k → ¬ (k = s.map.active ∧ s.mgmt.partState = .regulating) →
    (∀ f : CellFields, (∀ st, s.mgmt.params.inLimits st (f.targets.get st).toNat = true) → f.flags.toNat < 8 →
      (f.flags.getLsbD 1 = true → 1 ≤ f.llim.toNat ∧ f.llim.toNat ≤ 2000) →
      (f.flags.getLsbD 2 = true → 1 ≤ f.tlim.toNat ∧ f.tlim.toNat ≤ 2000) →
      let x : CellRecord := ⟨f.targets, f.flags.getLsbD 0, if f.flags.getLsbD 1 then some f.llim else none,
        if f.flags.getLsbD 2 then some f.tlim else none, none⟩
      (∀ cell : Byte, cell.toNat ≤ 119 → ∃ b : Bank,
        exec (.cellWrite r bank cell f) s = .next (answer r 7 .done []
          ((s.taken (.cellWrite r bank cell f)).withMap (s.map.withBank k b))) ∧
        (∀ n, n < 120 → b.cell n = if n = cell.toNat then some x else (s.map.bank k).cell n) ∧
        { b with cells := (s.map.bank k).cells } = s.map.bank k) ∧
      (∀ g : BandBlock, g.moistureLow.toNat ≤ g.moistureHigh.toNat → g.moistureHigh.toNat ≤ 3 →
        g.feedLow.toNat ≤ g.feedHigh.toNat → g.feedHigh.toNat ≤ 5 →
        g.slopeLow.toNat ≤ g.slopeHigh.toNat → g.slopeHigh.toNat ≤ 4 → ∃ b : Bank,
        exec (.cellFill r bank g f) s = .next (answer r 8 .done []
          ((s.taken (.cellFill r bank g f)).withMap (s.map.withBank k b))) ∧
        (∀ m e l, m ≤ 3 → e ≤ 5 → l ≤ 4 →
          b.cell (30 * m + 5 * e + l) =
            if g.moistureLow.toNat ≤ m ∧ m ≤ g.moistureHigh.toNat ∧ g.feedLow.toNat ≤ e ∧ e ≤ g.feedHigh.toNat ∧
              g.slopeLow.toNat ≤ l ∧ l ≤ g.slopeHigh.toNat then some x
            else (s.map.bank k).cell (30 * m + 5 * e + l)) ∧
        { b with cells := (s.map.bank k).cells } = s.map.bank k)) ∧
    (∀ (steps : List PlanStep) (extra : List Word16), steps.length ≤ 8 →
      (∀ p ∈ steps, p.amount.toInt ≠ 0 ∧ p.amount.toInt.natAbs ≤ 500) →
      let c : Instr := .planWrite r bank (BitVec.ofNat 8 steps.length) (steps.map wordOfStep ++ extra)
      exec c s = .next (answer r 9 .done [] ((s.taken c).withMap
        (s.map.withBank k { s.map.bank k with plan := steps }))))

/-- R84, R85: BANK CLEAR empties the shadow and is refused for the active bank; BANK COPY makes the shadow a
copy of the active bank. Neither changes the active bank or the selector. -/
def Obligations.TheShadowIsClearedAndCopied : Prop :=
  ∀ (r : Sender) (s : State), s.admits r .modifying anyState →
    (∀ bank : Byte,
      let c : Instr := .bankClear r bank
      (2 ≤ bank.toNat → exec c s = .next (answer r 14 .badField [] (s.taken c))) ∧
      (BankId.ofNum bank.toNat = some s.map.active → exec c s = .next (answer r 14 .conflict [] (s.taken c))) ∧
      (BankId.ofNum bank.toNat = some s.map.active.other → ∃ b : Bank,
        exec c s = .next (answer r 14 .done [] ((s.taken c).withMap (s.map.withBank s.map.active.other b))) ∧
        (∀ n, b.cell n = none) ∧ b.plan = [] ∧ (∀ n, b.sideTrims.get n = ⟨0#16, 0#16⟩) ∧
        b.label = 0#16 ∧ b.llim = 150#16 ∧ b.tlim = 300#16 ∧ b.valid = false ∧ b.writtenCount = 0)) ∧
    (let c : Instr := .bankCopy r
     let m := s.map.withBank s.map.active.other (s.map.bank s.map.active)
     exec c s = .next (answer r 15 .done [] ((s.taken c).withMap m)) ∧
     m.bank s.map.active.other = s.map.bank s.map.active ∧ m.bank s.map.active = s.map.bank s.map.active ∧
     m.active = s.map.active)

/-- R86, R87: SWITCH BANK exchanges the roles of the banks when the shadow is valid, hands the bank-change
event to the regulator and raises BANK_SWITCHED; CLEAR TRIMS removes the trim records it names, and
hands on the trims-cleared event when one of the active bank was among them; a bad Bank or Cell is BAD_FIELD.
A retarget event (R134) makes a cycle state enter FOLLOW with a new episode (R119, R120), and does nothing in
any other state. -/
def Obligations.BanksSwitchAndTrimsAreCleared : Prop :=
  (∀ s : State,
    (s.regulator.state = .idle ∨ s.regulator.state = .paused ∨ s.regulator.state = .safe → takeRetarget s = s) ∧
    (s.regulator.state ≠ .idle → s.regulator.state ≠ .paused → s.regulator.state ≠ .safe →
      s.followed (takeRetarget s) 0 false)) ∧
  (∀ (r : Sender) (bank cell : Byte) (s : State), s.admits r .modifying anyState →
    (2 < bank.toNat ∨ 119 < cell.toNat ∧ cell ≠ 255#8) → s.refuses (.clearTrims r bank cell) r 17 .badField) ∧
  (∀ (r : Sender) (s : State), s.admits r .modifying inReadyOrRegulating →
    let c : Instr := .switchBank r
    let m : SettingMap := ⟨s.map.bankA, s.map.bankB, s.map.active.other⟩
    ((s.map.bank s.map.active.other).valid = false → exec c s = .next (answer r 16 .conflict [] (s.taken c))) ∧
    ((s.map.bank s.map.active.other).valid = true → ∃ u, exec c s = .next (answer r 16 .done [] u) ∧ u.map = m ∧
      u = raiseNotice .bankSwitched s.map.active.other.num (m.bank m.active).label
        (takeRetarget ((s.taken c).withMap m)))) ∧
  (∀ (r : Sender) (bank cell : Byte) (s : State), s.admits r .modifying anyState → bank.toNat ≤ 2 →
    (cell.toNat ≤ 119 ∨ cell = 255#8) →
    let c : Instr := .clearTrims r bank cell
    let names (k : BankId) (n : Nat) : Prop := (bank.toNat = 2 ∨ bank.toNat = k.num) ∧ (cell = 255#8 ∨ cell.toNat = n)
    ∃ u v, exec c s = .next (answer r 17 .done [] u) ∧ v.map = u.map ∧
      (∀ k n, names k n → (u.map.bank k).cell n =
        ((s.map.bank k).cell n).map (fun x => { x with trim := none })) ∧
      (∀ k n, ¬ names k n → (u.map.bank k).cell n = (s.map.bank k).cell n) ∧
      (∀ k, { u.map.bank k with cells := (s.map.bank k).cells } = s.map.bank k) ∧ u.map.active = s.map.active ∧
      v = (s.taken c).withMap u.map ∧
      ((∀ n x, names s.map.active n → s.activeBank.cell n = some x → x.trim = none) → u = v) ∧
      (∀ n x, names s.map.active n → s.activeBank.cell n = some x → x.trim ≠ none →
        u = if cell = 255#8 ∨ cell.toNat = cellNumber s.classifier.adopted then takeRetarget v else v))

/-! ### Moves -/

/-- A goal given to a move record (R95): kept while the record is manual, in FAULT or without a drive
station; deferred when it is the regulator's and the group is held; otherwise issued (R96). The leg target
(R94) lies between the global limits, at most one leg step from the start, and is the aim when the aim is
that near, the leg step limit is 0, or there is no start. -/
def Obligations.AGoalIsKeptDeferredOrIssued : Prop :=
  (∀ (p : Params) (st : Setting) (goal : Nat) (start : Option Nat), p.item st.num ≤ p.item (5 + st.num) →
    let lo := p.item st.num
    let hi := p.item (5 + st.num)
    let step := p.item (10 + st.num)
    let aim := max lo (min hi goal)
    let leg := (legTarget p st goal start).toNat
    lo ≤ leg ∧ leg ≤ hi ∧
    (start = none ∨ step = 0 → leg = aim) ∧
    (∀ v, start = some v → aim ≤ v + step → v ≤ aim + step → leg = aim) ∧
    (∀ v, start = some v → step ≠ 0 → v + step < aim → leg = max lo (v + step)) ∧
    (∀ v, start = some v → step ≠ 0 → aim + step < v → leg = min hi (v - step))) ∧
  (∀ (st : Setting) (g : Goal) (s : State),
    let r := s.record st
    let kept := r.manual = true ∨ r.state = .fault ∨ s.driveStation st = none
    let deferred := g.source = .regulator ∧ s.groupHeld st = true
    (kept → giveGoal st g s = setRecord st { r with goal := some g, deferred := none } s) ∧
    (¬ kept → deferred → giveGoal st g s = setRecord st { r with deferred := some g.value } s) ∧
    (¬ kept → ¬ deferred → ∀ d, s.driveStation st = some d →
      let leg := legTarget s.mgmt.params st g.value.toNat
        (if (r.tracking = .locked ∨ r.tracking = .oneMissed) ∧ r.lastActual ≠ none
         then r.lastActual.map BitVec.toNat else r.leg.map BitVec.toNat)
      giveGoal st g s = queuePart (Frame.make d s.ownStation .set (r.tag + 1#4) (BitVec.ofNat 8 st.num :: le16 leg))
        (setRecord st { r with
          state := .issued
          tag := r.tag + 1#4
          goal := some g
          leg := some leg
          deferred := none
          resendUsed := false
          limited := false
          acceptTimer := some ⟨s.partTime, 20⟩
          moveTimer := none } s)))

/-- R97: a matched ACCEPT with the record's tag, taken in ISSUED, stops the accept timer, makes the record
MOVING and starts the move timer; any other is stale and only counted (R100). And a matched DONE (R98) with
the record's tag, taken in MOVING: REACHED on the last leg ends the move; REACHED before it issues the next
leg; LIMITED ends the move and raises MOVE_LIMITED; REFUSED puts the record in FAULT. A setting that becomes settled
hands its settled event to the regulator and the picture unit (R109; handings not ordered: log 4). Any other matched
DONE is stale (R100), and one with an Outcome above 2, or not matched, is counted as unmatched (R90), as is any drive
frame with a Setting number above 4 or from a station that is not the roster's. A matched
REPORT (R102 to R105) relocks the drive tracking, sets the last actual and the drive flags, and then acts by its
Manual bit (MANUAL_ON ends the exchange, MANUAL_OFF gives the kept goal again) and by its Drive fault bit. -/
def Obligations.DriveAnswersMoveTheExchange : Prop :=
  (∀ (f : Frame) (n : Byte) (rest : List Byte) (s : State), f.payload = n :: rest →
    (f.kind = .accept ∧ rest.length = 0 ∨ f.kind = .report ∧ rest.length = 3 ∨ f.kind = .done ∧ rest.length = 3) →
    (4 < n.toNat ∨ ∃ st : Setting, n.toNat = st.num ∧ s.driveStation st ≠ some f.source) →
    takeDriveFrame f s = s.withMoves { s.moves with unmatched := satInc16 s.moves.unmatched }) ∧
  (∀ (f : Frame) (n : Byte) (st : Setting) (s : State), f.kind = .accept → f.payload = [n] →
    n.toNat = st.num → s.driveStation st = some f.source →
    ((s.record st).state = .issued → f.tag = (s.record st).tag →
      takeDriveFrame f s = setRecord st { s.record st with
        state := .moving
        acceptTimer := none
        moveTimer := some ⟨s.partTime, 10 * s.mgmt.params.item (15 + st.num)⟩ } s) ∧
    (¬ ((s.record st).state = .issued ∧ f.tag = (s.record st).tag) →
      takeDriveFrame f s = s.withMoves { s.moves with
        stale := s.moves.stale.set st (satInc16 (s.moves.stale.get st)) })) ∧
  (∀ (f : Frame) (n outcome lo hi : Byte) (st : Setting) (s : State), f.kind = .done →
    f.payload = [n, outcome, lo, hi] → n.toNat = st.num →
    let r := s.record st
    let unmatched := s.withMoves { s.moves with unmatched := satInc16 s.moves.unmatched }
    let t := takeDriveFrame f s
    (s.driveStation st ≠ some f.source ∨ 2 < outcome.toNat → t = unmatched) ∧
    (s.driveStation st = some f.source → outcome.toNat ≤ 2 →
      (¬ (r.state = .moving ∧ f.tag = r.tag) → t = s.withMoves { s.moves with
        stale := s.moves.stale.set st (satInc16 (s.moves.stale.get st)) }) ∧
      (r.state = .moving → f.tag = r.tag →
        let settledEvent : List (List Handing) :=
          if r.manual = false ∧ r.deferred = none then [[takeSettled st], [publish]] else []
        let ended (limited : Bool) : State := setRecord st { r with
          state := .idle, moveTimer := none, lastActual := some (word16 lo hi), limited := limited } s
        (∀ g l, outcome.toNat = 0 → r.goal = some g → r.leg = some l →
          (l.toNat : Int) = s.mgmt.params.clamp st g.value.toNat → t = interleave settledEvent (ended r.limited)) ∧
        (outcome.toNat = 1 →
          t = interleave ([[raiseNotice .moveLimited st.num (word16 lo hi)]] ++ settledEvent) (ended true)) ∧
        (t.record st).lastActual = some (word16 lo hi) ∧ (t.record st).moveTimer = none ∧
        (∀ g l, outcome.toNat = 0 → r.goal = some g → r.leg = some l →
          ((l.toNat : Int) ≠ s.mgmt.params.clamp st g.value.toNat →
            (t.record st).state = .issued ∧ (t.record st).tag = r.tag + 1#4 ∧ (t.record st).goal = some g) ∧
          ((l.toNat : Int) = s.mgmt.params.clamp st g.value.toNat → s.regulator.state = .idle →
            (t.record st).state = .idle ∧ (t.record st).limited = r.limited ∧ (t.record st).goal = some g)) ∧
        (outcome.toNat = 1 → s.regulator.state = .idle →
          (t.record st).state = .idle ∧ (t.record st).limited = true ∧
          t.notices = (raiseNotice .moveLimited st.num (word16 lo hi) s).notices) ∧
        (outcome.toNat = 2 → (t.record st).state = .fault ∧ (t.record st).cause = .refused)))) ∧
  (∀ (f : Frame) (n lo hi status : Byte) (st : Setting) (s : State), f.kind = .report →
    f.payload = [n, lo, hi, status] → n.toNat = st.num →
    let r := s.record st
    let v := word16 lo hi
    let heard : MoveRecord := { r with
      tracking := .locked
      trackWindow := some ⟨s.partTime,
        (s.moves.roster.get st).period.toNat + (s.moves.roster.get st).period.toNat / 2⟩
      lastActual := some v
      flagMoving := status.getLsbD 0
      flagAtLimit := status.getLsbD 1 }
    let settledEvent (was : Bool) : List (List Handing) := if was then [] else [[takeSettled st], [publish]]
    let exchange : Bool := decide (r.state = .issued) || decide (r.state = .moving)
    let m : State :=
      if status.getLsbD 3 = r.manual then setRecord st heard s
      else if r.manual = false then
        interleave ([[raiseNotice .manualOn st.num v], [takeExclusion st]] ++ settledEvent r.settled)
          (setRecord st { heard with
            manual := true
            state := if exchange then .idle else r.state
            acceptTimer := if exchange then none else r.acceptTimer
            moveTimer := if exchange then none else r.moveTimer } s)
      else
        match r.goal with
        | some g => giveGoal st g (raiseNotice .manualOff st.num v (setRecord st { heard with manual := false } s))
        | none => raiseNotice .manualOff st.num v (setRecord st { heard with manual := false } s)
    (s.driveStation st ≠ some f.source →
      takeDriveFrame f s = s.withMoves { s.moves with unmatched := satInc16 s.moves.unmatched }) ∧
    (s.driveStation st = some f.source →
      (status.getLsbD 2 = false ∨ (m.record st).state = .fault → takeDriveFrame f s = m) ∧
      (status.getLsbD 2 = true → (m.record st).state ≠ .fault → takeDriveFrame f s =
        interleave ([[raiseNotice .driveFault st.num 4#16], [takeExclusion st], [judgeDriveFault]] ++
            settledEvent (m.record st).settled)
          (setRecord st { m.record st with
            state := .fault, cause := .driveFlag, acceptTimer := none, moveTimer := none } m))))

/-- The first expiry of the accept timer (R99) queues the SET again with the same tag, its leg target clamped
again, and restarts the timer; that the clamped value also becomes the record's leg target is the model's reading
(log 23). The second puts the record in FAULT with cause ACCEPT_TIMEOUT, the move timer's with cause MOVE_TIMEOUT.
With them, the tracking of the drive's REPORT stream (R103): LOCKED becomes ONE_MISSED, and ONE_MISSED becomes LOST
with FAULT REPORT_LOST; a record already in FAULT keeps its cause (R105). -/
def Obligations.ExpiredMovesAreResentOrFail : Prop :=
  ∀ (st : Setting) (s : State), s.works →
    let r := s.record st
    let fails (t : State) (cause : FaultCause) : Prop :=
      (t.record st).state = .fault ∧ (t.record st).cause = cause ∧ (t.record st).acceptTimer = none ∧
      (t.record st).moveTimer = none ∧ (t.record st).tag = r.tag ∧ (t.record st).leg = r.leg ∧
      t.moves.driveFault = true ∧ OnlyTouches touchGuards s t
    (∀ d l, s.acceptDue st = true → r.resendUsed = false → s.driveStation st = some d → r.leg = some l →
      let leg := BitVec.ofInt 16 (s.mgmt.params.clamp st l.toNat)
      exec (.acceptTimerExpiry st) s = .next (queuePart
        (Frame.make d s.ownStation .set r.tag (BitVec.ofNat 8 st.num :: le16 leg))
        (setRecord st { r with
          leg := some leg, resendUsed := true, acceptTimer := some ⟨s.partTime, 20⟩ } s))) ∧
    (s.acceptDue st = true → r.resendUsed = true →
      ∃ t, exec (.acceptTimerExpiry st) s = .next t ∧ fails t .acceptTimeout) ∧
    (s.moveDue st = true → ∃ t, exec (.moveTimerExpiry st) s = .next t ∧ fails t .moveTimeout) ∧
    (s.trackingDue st = true → r.tracking = .locked →
      exec (.driveTrackingExpiry st) s = .next (setRecord st { r with
        tracking := .oneMissed
        trackWindow := some ⟨s.partTime,
          (s.moves.roster.get st).period.toNat + (s.moves.roster.get st).period.toNat / 2⟩ } s)) ∧
    (s.trackingDue st = true → r.tracking = .oneMissed → r.state ≠ .fault →
      ∃ t, exec (.driveTrackingExpiry st) s = .next t ∧ (t.record st).tracking = .lost ∧
        (t.record st).trackWindow = none ∧ fails t .reportLost) ∧
    (s.trackingDue st = true → r.tracking = .oneMissed → r.state = .fault →
      exec (.driveTrackingExpiry st) s = .next (setRecord st { r with tracking := .lost, trackWindow := none } s))

/-- HOLD ADJUST (R107), RELEASE ADJUST and RELEASE ONCE (R108) answered DONE: the groups the Mask selects become
held, are released with their deferred goals given again, or stay held while their deferred goals are
issued; a record that is manual or in FAULT, or without a drive station, keeps the goal and is not issued (R95, R108);
the records of other groups stay. A Mask above 3 is BAD_FIELD. -/
def Obligations.HoldsAreSetAndReleased : Prop :=
  (∀ (r : Sender) (mask : Byte) (s : State), s.admits r .modifying inReadyOrRegulating → 4 ≤ mask.toNat →
    s.refuses (.holdAdjust r mask) r 18 .badField ∧ s.refuses (.releaseAdjust r mask) r 19 .badField ∧
    s.refuses (.releaseOnce r mask) r 20 .badField) ∧
  ∀ (r : Sender) (mask : Byte) (s : State), s.admits r .modifying inReadyOrRegulating → mask.toNat < 4 →
    let thresh := mask = 0#8 ∨ mask.getLsbD 0 = true
    let clean := mask = 0#8 ∨ mask.getLsbD 1 = true
    let chosen (st : Setting) : Prop := (st.isThresh = true ∧ thresh) ∨ (st.isThresh = false ∧ clean)
    exec (.holdAdjust r mask) s = .next (answer r 18 .done [] ((s.taken (.holdAdjust r mask)).withMoves
      { s.moves with
        heldThresh := if thresh then true else s.moves.heldThresh
        heldClean := if clean then true else s.moves.heldClean })) ∧
    (∃ u, exec (.releaseAdjust r mask) s = .next (answer r 19 .done [] u) ∧
      u.moves.heldThresh = (if thresh then false else s.moves.heldThresh) ∧
      u.moves.heldClean = (if clean then false else s.moves.heldClean) ∧
      (∀ st, ¬ chosen st ∨ (s.record st).deferred = none → u.record st = s.record st) ∧
      (∀ st v, chosen st → (s.record st).deferred = some v → s.goalKept st = false →
        (u.record st).goal = some ⟨v, .regulator⟩ ∧ (u.record st).deferred = none ∧ (u.record st).state = .issued ∧
        (u.record st).tag = (s.record st).tag + 1#4) ∧
      (∀ st v, chosen st → (s.record st).deferred = some v → s.goalKept st = true →
        u.record st = { s.record st with goal := some ⟨v, .regulator⟩, deferred := none }) ∧
      OnlyTouches [.moves, .link, .mgmt] s u ∧ u.mgmt = (s.taken (.releaseAdjust r mask)).mgmt) ∧
    (∃ u, exec (.releaseOnce r mask) s = .next (answer r 20 .done [] u) ∧
      u.moves.heldThresh = s.moves.heldThresh ∧ u.moves.heldClean = s.moves.heldClean ∧
      (∀ st, ¬ chosen st ∨ (s.record st).deferred = none → u.record st = s.record st) ∧
      (∀ st v, chosen st → (s.record st).deferred = some v →
        (u.record st).goal = some ⟨v, .regulator⟩ ∧ (u.record st).deferred = none ∧
        (s.goalKept st = false → (u.record st).state = .issued ∧ (u.record st).tag = (s.record st).tag + 1#4) ∧
        (s.goalKept st = true → (u.record st).state = (s.record st).state)) ∧
      OnlyTouches [.moves, .link, .mgmt] s u ∧ u.mgmt = (s.taken (.releaseOnce r mask)).mgmt)

/-! ### The cycle -/

/-- R121: SETTLE runs timer A with the settle length and leads to HOLD in feed band F0 and to MEASURE in any
other; TRIAL_SETTLE runs in the same way and always leads to TRIAL_MEASURE. With them, the windows they
enter: MEASURE and TRIAL_MEASURE open the gate and start timer B (R122), HOLD starts timer A with the recheck
length, and its expiry leads to MEASURE, or starts it again in F0 (R127). A settled event leads from FOLLOW to
SETTLE when all five settings are settled (R120), from TRIAL_MOVE to TRIAL_SETTLE when the trial's setting is (R129),
and in REVERT to the next step or HOLD (R132; the step: `ATrialIsKeptOrReverted`); else it changes nothing. That the
settled condition is read when the event is taken is the model's reading (log 11). -/
def Obligations.SettlingLeadsToMeasuring : Prop :=
  (∀ (st : Setting) (s : State),
    let t := takeSettled st s
    let onTrial : Prop := (∃ x, s.regulator.trial = some x ∧ x.setting = st) ∧ (s.record st).settled = true
    let u := s.withRegulator { s.regulator with trial := none }
    (s.regulator.state = .follow → (∀ o, (s.record o).settled = true) → t = enterSettle s) ∧
    (s.regulator.state = .follow → (∃ o, (s.record o).settled = false) → t = s) ∧
    (s.regulator.state = .trialMove → onTrial → t = enterTrialSettle s) ∧
    (s.regulator.state = .revert → onTrial → t = if s.trialConditions then tryNextStep u else enterHold u) ∧
    (s.regulator.state = .trialMove ∨ s.regulator.state = .revert → ¬ onTrial → t = s) ∧
    (s.regulator.state ≠ .follow → s.regulator.state ≠ .trialMove → s.regulator.state ≠ .revert → t = s)) ∧
  (∀ s : State, (enterSettle s).regulator = { s.regulator with
      state := .settle, window := some (.a, ⟨s.partTime, s.mgmt.params.item 26 * 10⟩) } ∧
    (enterTrialSettle s).regulator = { s.regulator with
      state := .trialSettle, window := some (.a, ⟨s.partTime, s.mgmt.params.item 26 * 10⟩) } ∧
    (enterHold s).regulator = { s.regulator with
      state := .hold, window := some (.a, ⟨s.partTime, s.mgmt.params.item 28 * 10⟩) } ∧
    (enterHold s).channels = s.channels) ∧
  ∀ s : State, s.works → s.windowDue .a = true →
    let measures (t : State) (state : RegState) : Prop :=
      t.regulator = { s.regulator with
        state := state, window := some (.b, ⟨s.partTime, s.mgmt.params.item 27 * 10⟩) } ∧
      t.channels.gate = true ∧
      (∀ i, t.channel i = ⟨(s.channel i).defn, { (s.channel i).rt with
        sum := 0#32
        count := 0#16
        interrupted := (s.channel i).defn.enabled && (s.channel i).defn.role.isMeasured &&
          decide ((s.channel i).rt.lock = .lost) }⟩) ∧
      OnlyTouches [.regulator, .channels, .pictures] s t
    (s.regulator.state = .settle → s.classifier.adopted.feed = 0 →
      exec .windowAExpiry s = .next (enterHold s)) ∧
    (s.regulator.state = .settle ∨ s.regulator.state = .hold → s.classifier.adopted.feed ≠ 0 →
      ∃ t, exec .windowAExpiry s = .next t ∧ measures t .measure) ∧
    (s.regulator.state = .trialSettle → ∃ t, exec .windowAExpiry s = .next t ∧ measures t .trialMeasure) ∧
    (s.regulator.state = .hold → s.classifier.adopted.feed = 0 →
      exec .windowAExpiry s = .next (s.withRegulator { s.regulator with
        window := some (.a, ⟨s.partTime, s.mgmt.params.item 28 * 10⟩) }))

/-- The end of window B (R122): the gate closes, the result is computed from the accumulators (R123: the
first VOID cause that holds; R124: L, T and S; R125: the outcome), becomes the last result, and is handed
on; a MEASURE result that is GOOD or VOID and raises no alarm leads to HOLD (R126). That the picture of the result is
not ordered with the decision is the model's choice (log 4). -/
def Obligations.AWindowEndsInItsResult : Prop :=
  (∀ (s : State) (kind : ResultKind),
    let w := s.windowResult kind
    let flow := (s.channels.entries.list.filter (fun c => c.defn.enabled && decide (c.defn.role = .grainFlow))).head?
    let losses := s.channels.entries.list.filter
      (fun c => c.defn.enabled && (decide (c.defn.role = .shoeLoss) || decide (c.defn.role = .sepLoss)))
    let tailings := (s.channels.entries.list.filter (fun c => c.defn.enabled && decide (c.defn.role = .tailings))).head?
    let mean (c : Channel) : Int := Int.tdiv c.rt.sum.toInt c.rt.count.toNat
    let noFlow := ∀ g, flow = some g → g.rt.count = 0#16
    let lowFlow := ∃ g, flow = some g ∧ (mean g < s.mgmt.params.item 32 ∨ mean g ≤ 0)
    let noLoss := losses = [] ∨ ∃ c ∈ losses, c.rt.count = 0#16
    let interrupted := (∃ g, flow = some g ∧ g.rt.interrupted = true) ∨ ∃ c ∈ losses, c.rt.interrupted = true
    let void (cause : Nat) := w = ⟨kind, cellNumber s.classifier.adopted, .void, cause, 0#16, 0#16, 0#16, s.partTime⟩
    (noFlow → void 1) ∧ (¬ noFlow → lowFlow → void 2) ∧ (¬ noFlow → ¬ lowFlow → noLoss → void 3) ∧
    (¬ noFlow → ¬ lowFlow → ¬ noLoss → interrupted → void 4) ∧
    (¬ noFlow → ¬ lowFlow → ¬ noLoss → ¬ interrupted → ∀ g, flow = some g →
      let n := cellNumber s.classifier.adopted
      let lossLimit := (s.map.bank s.map.active).lossLimit n
      let tailingsLimit := (s.map.bank s.map.active).tailingsLimit n
      let l := min 65535 (10000 * ((losses.map mean).sum).toNat / (mean g).toNat)
      let t := match tailings with
        | some c => if c.rt.count = 0#16 then 0 else (mean c).toNat
        | none => 0
      w = ⟨kind, n,
        if l ≤ lossLimit then (if t ≤ tailingsLimit then .good else .highTailings)
        else (if t ≤ tailingsLimit then .highLoss else .both),
        0, BitVec.ofNat 16 l, BitVec.ofNat 16 t,
        BitVec.ofNat 16 (min 65535 (l * 1000 / lossLimit + t * 1000 / tailingsLimit)), s.partTime⟩)) ∧
  (∀ s : State, s.works → s.windowDue .b = true →
    let closed := s.withChannels { s.channels with gate := false }
    let w := closed.windowResult (if s.regulator.state = .trialMeasure then .trial else .measure)
    let alarm := w.outcome ≠ .void ∧
      s.mgmt.params.item 33 * (s.map.bank s.map.active).lossLimit (cellNumber s.classifier.adopted) < w.l.toNat * 100
    ∃ t, exec .windowBExpiry s = .next t ∧ t.regulator.last = some w ∧ t.channels.gate = false ∧
      (∀ i, t.channel i = s.channel i) ∧
      t = interleave [[publish], [afterResult w, fun u => if alarm then takeEvent 5 u else u]]
        (closed.withRegulator { s.regulator with window := none, last := some w }) ∧
      (s.regulator.state = .measure → (w.outcome = .good ∨ w.outcome = .void) → ¬ alarm →
        t.regulator.state = .hold ∧
        t.regulator.window = some (.a, ⟨s.partTime, s.mgmt.params.item 28 * 10⟩) ∧
        OnlyTouches [.regulator, .channels, .pictures, .order] s t))

/-- TUNE WINDOWS answered DONE (R117): the three lengths go into the block in force; the running timer keeps
its start and takes its new length, and when that has passed already it expires at once, with what the
expiry leads to in the arbiter (R181). A length outside its item's range is BAD_FIELD. -/
def Obligations.WindowsAreTuned : Prop :=
  (∀ (r : Sender) (settle measure recheck : Word16) (s : State), s.admits r .modifying inReadyOrRegulating →
    ¬ (5 ≤ settle.toNat ∧ settle.toNat ≤ 600 ∧ 10 ≤ measure.toNat ∧ measure.toNat ≤ 600 ∧
      10 ≤ recheck.toNat ∧ recheck.toNat ≤ 3000) →
    s.refuses (.tuneWindows r settle measure recheck) r 22 .badField) ∧
  ∀ (r : Sender) (settle measure recheck : Word16) (s : State), s.admits r .modifying inReadyOrRegulating →
    5 ≤ settle.toNat → settle.toNat ≤ 600 → 10 ≤ measure.toNat → measure.toNat ≤ 600 →
    10 ≤ recheck.toNat → recheck.toNat ≤ 3000 →
    let c : Instr := .tuneWindows r settle measure recheck
    let p : Params := ((s.mgmt.params.write 26 settle).write 27 measure).write 28 recheck
    let tuned := (s.taken c).withMgmt { (s.taken c).mgmt with params := p }
    (p.item 26 = settle.toNat ∧ p.item 27 = measure.toNat ∧ p.item 28 = recheck.toNat ∧
      ∀ k, k ≠ 26 → k ≠ 27 → k ≠ 28 → p.item k = s.mgmt.params.item k) ∧
    (s.regulator.window = none → exec c s = .next (answer r 22 .done [] tuned)) ∧
    (∀ w t, s.regulator.window = some (w, t) →
      let length := 10 * (match w with
        | .b => measure.toNat
        | .a => if s.regulator.state = .hold then recheck.toNat else settle.toNat)
      let adjusted := tuned.withRegulator { s.regulator with window := some (w, ⟨t.start, length⟩) }
      ((s.partTime - t.start).toNat < length → exec c s = .next (answer r 22 .done [] adjusted)) ∧
      (length ≤ (s.partTime - t.start).toNat →
        exec c s = .next (answer r 22 .done []
          (match w with | .a => windowAEnds adjusted | .b => settleWaiting (windowBEnds adjusted)))))

/-- The trials of a plan. The decision after a MEASURE result (R126), and the search (R128): the first eligible step at
or after the cursor starts its trial (R129: trial record, goal and target set, then TRIAL_MOVE); with none, the episode
is exhausted, PLAN_EXHAUSTED is raised and HOLD entered. A TRIAL result judged (R131, R132): improved when it is not VOID
and its S plus the gain margin is not above the baseline's; then the regulator hands the map the keep named by the
trial record, which the map takes at once or, by the `order` field's choice, later (R75; log 37), and goes on; otherwise no
trim is written, the effective target worked out afresh is given again and set in the target set, TRIAL_REVERTED is
raised with the trial's cell, position and setting (R133), and REVERT is entered; a setting that is settled at once,
manual or in FAULT, goes on from there in the same way (R132). Either way the cursor passes the step. An exclusion event of the trial's setting abandons the trial for
FOLLOW, which keeps the cursor and the exhausted flag (R137). -/
def Obligations.ATrialIsKeptOrReverted : Prop :=
  (∀ s : State, s.trialConditions = true ↔
    s.mgmt.params.item 30 = 1 ∧ (∃ c, s.cellInUse = some c ∧ c.trialPermission = true) ∧
    s.moves.heldThresh = false ∧ s.moves.heldClean = false ∧ s.regulator.exhausted = false) ∧
  (∀ (w : WindowResult) (s : State),
    let high := w.outcome = .highLoss ∨ w.outcome = .highTailings ∨ w.outcome = .both
    (high → s.trialConditions = true →
      decideMeasure w s = tryNextStep (s.withRegulator { s.regulator with baseline := some w })) ∧
    (¬ (high ∧ s.trialConditions = true) → decideMeasure w s = enterHold s)) ∧
  (∀ (s : State) (b : WindowResult) (c : CellRecord), s.regulator.baseline = some b → s.cellInUse = some c →
    let aim (p : PlanStep) : Int := (c.targets.get p.setting).toNat + c.trimOffset p.setting +
      (match p.setting with
       | .fan => (s.activeBank.sideTrims.get s.classifier.adopted.side).fan.toInt
       | .upper => (s.activeBank.sideTrims.get s.classifier.adopted.side).upper.toInt
       | _ => 0) + p.amount.toInt
    let covers (p : PlanStep) : Prop := p.condition = .any ∨
      p.condition = .loss ∧ (b.outcome = .highLoss ∨ b.outcome = .both) ∨
      p.condition = .tailings ∧ (b.outcome = .highTailings ∨ b.outcome = .both)
    let eligible (k : Nat) (p : PlanStep) : Prop :=
      s.regulator.cursor ≤ k ∧ s.activeBank.plan[k]? = some p ∧ covers p ∧
      (s.record p.setting).manual = false ∧ (s.record p.setting).state ≠ .fault ∧
      (c.trimOffset p.setting + p.amount.toInt).natAbs ≤ s.mgmt.params.item (20 + p.setting.num) ∧
      (s.mgmt.params.item p.setting.num : Int) ≤ aim p ∧ aim p ≤ s.mgmt.params.item (5 + p.setting.num)
    (∀ k p, eligible k p → (∀ j q, eligible j q → k ≤ j) →
      let v : Word16 := BitVec.ofInt 16 (aim p)
      let u := (giveGoal p.setting ⟨v, .regulator⟩ s).withRegulator { s.regulator with
        state := .trialMove
        window := none
        targets := s.regulator.targets.set p.setting (some v)
        cursor := k
        trial := some ⟨s.map.active, cellNumber s.classifier.adopted, k, p.setting, p.amount, v⟩ }
      tryNextStep s =
        if (u.record p.setting).settled then enterTrialSettle (publish u) else publish u) ∧
    ((∀ k p, ¬ eligible k p) →
      let n := s.activeBank.plan.length
      tryNextStep s = enterHold (raiseNotice .planExhausted (cellNumber s.classifier.adopted) (BitVec.ofNat 16 n)
        (s.withRegulator { s.regulator with cursor := n, exhausted := true })))) ∧
  (∀ (s : State) (x : Trial) (w b : WindowResult), s.regulator.trial = some x → s.regulator.baseline = some b →
    let t := judgeTrial w s
    let improved := w.outcome ≠ .void ∧ w.s.toNat + s.mgmt.params.item 31 ≤ b.s.toNat
    let earlier := (takeWaitingKeep s).map
    let keep : Keep := ⟨x.bank, x.cell, x.setting, x.amount⟩
    let u := (raiseNotice .trialKept x.cell (BitVec.ofNat 16 (8 * x.position + x.setting.num)) (handKeep keep s)).withRegulator
      { s.regulator with cursor := x.position + 1, trial := none, baseline := some w }
    (improved →
      (s.order.headD 0 % 2 = 0 → t.keep = none ∧
        t.map = earlier.withBank x.bank ((earlier.bank x.bank).keep (s.mgmt.params.item (20 + x.setting.num))
          x.cell x.setting x.amount.toInt)) ∧
      (s.order.headD 0 % 2 ≠ 0 → t.keep = some keep ∧ t.map = earlier) ∧
      t.regulator.baseline = some w ∧
      (x.position < s.activeBank.plan.length → x.position + 1 ≤ t.regulator.cursor) ∧
      (w.outcome = .good → t = enterHold u) ∧
      (w.outcome ≠ .good → t = if u.trialConditions then tryNextStep u else enterHold u) ∧
      (w.outcome = .good → t.regulator.state = .hold ∧ t.regulator.cursor = x.position + 1 ∧
        t.regulator.trial = none ∧
        t.notices = (raiseNotice .trialKept x.cell (BitVec.ofNat 16 (8 * x.position + x.setting.num)) s).notices)) ∧
    (¬ improved → ∀ c, s.cellInUse = some c →
      let v := effectiveTarget s.mgmt.params s.activeBank c s.classifier.adopted.side x.setting
      let entered := publish ((raiseNotice .trialReverted x.cell (BitVec.ofNat 16 (8 * x.position + x.setting.num))
        (giveGoal x.setting ⟨v, .regulator⟩ s)).withRegulator { s.regulator with
          state := .revert
          targets := s.regulator.targets.set x.setting (some v)
          cursor := x.position + 1 })
      let ended := entered.withRegulator { entered.regulator with trial := none }
      t = if (entered.record x.setting).settled then
            (if ended.trialConditions then tryNextStep ended else enterHold ended)
          else entered) ∧
    (¬ improved → t.map = s.map ∧ t.keep = s.keep ∧ t.regulator.baseline = some b ∧
      (∀ c d, s.cellInUse = some c → s.driveStation x.setting = some d → (s.record x.setting).manual = false →
        (s.record x.setting).state ≠ .fault →
        t.regulator.state = .revert ∧ t.regulator.cursor = x.position + 1 ∧ t.regulator.trial = some x ∧
        t.regulator.targets = s.regulator.targets.set x.setting
          (some (effectiveTarget s.mgmt.params s.activeBank c s.classifier.adopted.side x.setting))))) ∧
  (∀ (st : Setting) (s : State),
    let inTrial := s.regulator.state = .trialMove ∨ s.regulator.state = .trialSettle ∨
      s.regulator.state = .trialMeasure ∨ s.regulator.state = .revert
    (∀ x, s.regulator.trial = some x → x.setting = st → inTrial →
      s.followed (takeExclusion st s) (x.position + 1) s.regulator.exhausted) ∧
    (¬ (inTrial ∧ ∃ x, s.regulator.trial = some x ∧ x.setting = st) → takeExclusion st s = s))

/-! ### Guards -/

/-- R157, R158: a change of a source's condition moves its guard as the tables of its trigger say, and is
followed by the examination and the judgement (R160, R161), after a raise at once or put off (`settleRaised`: the
statement of the examination; the model's choice, log 39); a condition that has not changed does nothing; an event is a change to active followed at once by the return (R152). With them, the conditions judged
from the channel values handed on (R148: surge, overload, slope) and the slip comparison of the two rotors with
its dwell (R149, R150). -/
def Obligations.GuardsFollowTheirConditions : Prop :=
  (∀ (v : Option Word16) (s : State),
    let kept (k : KeptValues) : State := s.withGuards { s.guards with kept := k }
    let steep (o : Option Word16) : Prop := ∃ x, o = some x ∧ s.mgmt.params.item 39 < x.toInt.natAbs
    let exceeds (item : Nat) : Prop := ∃ x, v = some x ∧ (s.mgmt.params.item item : Int) < x.toInt
    let judged (t : State) (n : Fin 12) (active : Prop) : Prop :=
      (active → t = setCondition n true (kept t.guards.kept)) ∧ (¬ active → t = setCondition n false (kept t.guards.kept))
    (takeKept .feedLoad v s).guards.kept = { s.guards.kept with feedLoad := v } ∧
    judged (takeKept .feedLoad v s) 1 (exceeds 37) ∧
    (takeKept .tailings v s).guards.kept = { s.guards.kept with tailings := v } ∧
    judged (takeKept .tailings v s) 2 (exceeds 38) ∧
    (takeKept .pitch v s).guards.kept = { s.guards.kept with pitch := v } ∧
    judged (takeKept .pitch v s) 4 (steep v ∨ steep s.guards.kept.roll) ∧
    (takeKept .roll v s).guards.kept = { s.guards.kept with roll := v } ∧
    judged (takeKept .roll v s) 4 (steep s.guards.kept.pitch ∨ steep v)) ∧
  (∀ (w : Rotor) (v : Option Word16) (s : State),
    let a := s.guards
    let u : State := s.withGuards { a with kept := match w with
      | .drum => { a.kept with drumSpeed := v }
      | .fan => { a.kept with fanSpeed := v } }
    let n : Fin 12 := match w with | .drum => 0 | .fan => 3
    let r := s.record (match w with | .drum => .drum | .fan => .fan)
    let percent := s.mgmt.params.item (match w with | .drum => 34 | .fan => 35)
    let timer := match w with | .drum => a.slipDrum | .fan => a.slipFan
    let withTimer (x : Option Timer) : State := u.withGuards (match w with
      | .drum => { u.guards with slipDrum := x }
      | .fan => { u.guards with slipFan := x })
    let slips : Prop := ∃ x g, v = some x ∧ s.regulator.state ≠ .idle ∧ r.state = .idle ∧ r.manual = false ∧
      r.goal = some g ∧ ∃ reference : Word16,
        ((r.limited = true ∧ r.lastActual = some reference) ∨
          ((r.limited = false ∨ r.lastActual = none) ∧ reference = g.value)) ∧
        x.toInt * 100 < percent * reference.toNat
    let t := takeKept (match w with | .drum => .drumSpeed | .fan => .fanSpeed) v s
    (slips → ((a.guard n).condition = true ∨ timer ≠ none) → t = u) ∧
    (slips → (a.guard n).condition = false → timer = none →
      t = withTimer (some ⟨s.partTime, 10 * s.mgmt.params.item 36⟩)) ∧
    (¬ slips → t = setCondition n false (withTimer none))) ∧
  ∀ (n : Fin 12) (s : State),
    let g := s.guards.guard n
    let dwell : Timer := ⟨s.partTime, 10 * g.config.clearDwell.toNat⟩
    let written (h : Guard) : State := s.withGuards { s.guards with table := s.guards.table.set n h }
    let raised (h : Guard) : State := settleRaised .raised n (written h)
    let fallen (h : Guard) : State := settleGuards (written h)
    setCondition n g.condition s = s ∧
    (g.config.edge = false → g.condition = false →
      setCondition n true s = raised { g with
        condition := true, armed := false
        state := if g.state = .idle then .pending else g.state
        clearTimer := if g.state = .acting then none else g.clearTimer }) ∧
    (g.config.edge = false → g.condition = true →
      setCondition n false s = fallen { g with
        condition := false, armed := true
        state := if g.state = .pending then .idle else g.state
        clearTimer := if g.state = .acting ∧ g.config.auto = true then some dwell else g.clearTimer }) ∧
    (g.config.edge = true → g.condition = false → g.armed = true →
      setCondition n true s = raised { g with
        condition := true, armed := false
        state := if g.state = .idle then .pending else g.state
        clearTimer := if g.state = .acting ∧ g.config.auto = true then some dwell else g.clearTimer }) ∧
    (g.config.edge = true → g.condition = false → g.armed = false →
      setCondition n true s = raised { g with condition := true }) ∧
    (g.config.edge = true → g.condition = true →
      setCondition n false s = fallen { g with condition := false, armed := true }) ∧
    (g.armed = true → raiseEvent n s = written { g with
        condition := false, armed := true
        state := if g.state = .idle then .pending else g.state
        clearTimer := if g.state = .acting ∧ g.config.auto = true then some dwell else g.clearTimer }) ∧
    takeEvent n s = settleRaised .raised n (raiseEvent n s)

/-- The examination (R160) makes the qualifying guard of lowest priority, among equals of lowest source
number, ACTING, on top of the stack; with none qualifying it changes nothing. The judgement (R161) hands
on the most severe action of the stack when it differs from the one last judged. The regulator takes the change by
the table of R138: it enters PAUSED, with the concave release target for OPEN_CONCAVE, enters SAFE, or leaves PAUSED
or a GUARD SAFE for the state the action asks for; in IDLE, in an owner-loss SAFE and outside REGULATING it does nothing.
Where a raise or a named release of guard `n` makes `n` the guard the examination picks, the `order` field says whether
the two follow at once or are put off until the next event, request (but for a GUARD MASK after a raise), reply or idle
step, so that every order of the table of R165 is there (the model's choice, log 39). -/
def Obligations.TheMostUrgentGuardActs : Prop :=
  ∀ s : State,
    let g := s.guards.guard
    let fits (n : Fin 12) : Prop := (g n).state = .pending ∧ (g n).config.masked = false ∧
      (g n).config.priority < s.guards.floor ∧ ∀ k ∈ s.guards.stack, (g n).config.priority < (g k).config.priority
    ((∀ n, ¬ fits n) → examineGuards s = s) ∧
    (∀ n, fits n → (∀ m, fits m → (g n).config.priority < (g m).config.priority ∨
        (g n).config.priority = (g m).config.priority ∧ n ≤ m) →
      examineGuards s = raiseNotice .guardActing n.val
        (BitVec.ofNat 16 (4 * (g n).config.priority + (g n).config.action.code))
        (s.withGuards { s.guards with
          table := s.guards.table.set n { g n with
            state := .acting
            clearTimer := if (g n).config.edge = true ∧ (g n).config.auto = true
              then some ⟨s.partTime, 10 * (g n).config.clearDwell.toNat⟩ else none }
          stack := s.guards.stack ++ [n] })) ∧
    (∀ e : Action, (e = .noticeOnly ∨ ∃ n ∈ s.guards.stack, (g n).config.action = e) →
      (∀ n ∈ s.guards.stack, (g n).config.action.code ≤ e.code) →
      judgeAction s = if e = s.guards.effective then s
        else interleave [[takeAction e], [publish]] (s.withGuards { s.guards with effective := e })) ∧
    (let ended := s.withGuards { s.guards with examineDue := .no }
     settleGuards s = judgeAction (examineGuards ended)) ∧
    (∀ n,
      let picked := fits n ∧ ∀ m, fits m → (g n).config.priority < (g m).config.priority ∨
        (g n).config.priority = (g m).config.priority ∧ n ≤ m
      let u := s.withOrder s.order.tail
      ∀ due : ExamineDue,
      (¬ picked ∨ ¬ s.settled → settleRaised due n s = settleGuards s) ∧
      (picked → s.settled →
        (s.order.headD 0 % 2 = 0 → settleRaised due n s = settleGuards u) ∧
        (s.order.headD 0 % 2 ≠ 0 → settleRaised due n s = u.withGuards { s.guards with examineDue := due }))) ∧
    settleWaiting s = (if s.settled then s else settleGuards s) ∧
    (let state := s.regulator.state
     let cycle := state ≠ .idle ∧ state ≠ .paused ∧ state ≠ .safe
     let guardSafe := state = .safe ∧ s.regulator.safeCause = some .guard
     (s.mgmt.partState ≠ .regulating ∨ state = .idle ∨ (state = .safe ∧ s.regulator.safeCause = some .ownerLoss) →
       ∀ e, takeAction e s = s) ∧
     (s.mgmt.partState = .regulating →
       (cycle ∨ state = .paused → s.safeEntered (takeAction .safeSet s) .guard) ∧
       (cycle ∨ guardSafe → s.pausedBy (takeAction .openConcave s) true) ∧
       (cycle ∨ guardSafe → s.pausedBy (takeAction .pause s) false) ∧
       (state = .paused → takeAction .openConcave s =
         giveGoal .concave ⟨BitVec.ofNat 16 (s.mgmt.params.item 25), .guard⟩ s) ∧
       (state = .paused → takeAction .pause s = s) ∧
       (state = .paused ∨ guardSafe → s.followed (takeAction .noticeOnly s) 0 false)))

/-- GUARD CONFIG (R154), GUARD MASK (R155), GUARD FLOOR (R159), GUARD RELEASE (R162, R163) and GUARD RAISE (R166)
answered DONE, each followed by the examination and the judgement, which a named release may put off until before the
next request (`settleRaised`, log 39), and GUARD MASK as well when it meets a raise whose own was put off (R165, log 39);
GUARD CONFIG examines once (log 12). Their own
refusals: BAD_FIELD for a field out of range, WRONG_STATE for the release of a guard that is not ACTING. The
slip dwell's expiry makes the condition of DRUM_SLIP or FAN_STALL active (R150), the clear dwell's releases
the guard with cause AUTO (R164), and a machine line that has settled is the condition of HEADER_UP or
SEPARATOR_OFF, active while the line is low (R151). -/
def Obligations.TheArbiterTakesRequestsTimersAndLines : Prop :=
  ((∀ (r : Sender) (source : Byte) (f : GuardFields) (s : State), s.admits r .modifying notRegulating →
    (11 < source.toNat ∨ 7 < f.priority.toNat ∨ 3 < f.action.toNat ∨ f.clearDwell = 0#8 ∨ 8 ≤ f.flags.toNat ∨
      (source.toNat = 5 ∨ source.toNat = 10 ∨ source.toNat = 11) ∧ f.flags.getLsbD 1 = false) →
    s.refuses (.guardConfig r source f) r 24 .badField) ∧
  (∀ (r : Sender) (mask : Word16) (s : State), s.free → s.mgmt.owner = some r.station →
    s.guards.examineDue ≠ .released → 4096 ≤ mask.toNat → s.refuses (.guardMask r mask) r 25 .badField) ∧
  (∀ (r : Sender) (s : State), s.admits r .modifying anyState →
    (∀ floor : Byte, floor.toNat = 0 ∨ 8 < floor.toNat → s.refuses (.guardFloor r floor) r 26 .badField) ∧
    (∀ (source : Byte) (n : Fin 12), source.toNat = n.val → (s.guards.guard n).state ≠ .acting →
      s.refuses (.guardRelease r source) r 27 .wrongState) ∧
    (s.guards.stack = [] → s.refuses (.guardRelease r 255#8) r 27 .wrongState) ∧
    (∀ source : Byte, 11 < source.toNat → source ≠ 255#8 → s.refuses (.guardRelease r source) r 27 .badField))) ∧
  ((∀ (r : Sender) (n : Fin 12) (f : GuardFields) (a : Action) (s : State), s.admits r .modifying notRegulating →
    f.priority.toNat ≤ 7 → f.clearDwell ≠ 0#8 → f.flags.toNat < 8 → Action.ofCode f.action.toNat = some a →
    (isEventSource n = true → f.flags.getLsbD 1 = true) →
    let c : Instr := .guardConfig r (BitVec.ofNat 8 n.val) f
    let g := s.guards.guard n
    let written : GuardConfig :=
      ⟨f.priority.toNat, f.flags.getLsbD 0, f.flags.getLsbD 1, a, f.flags.getLsbD 2, f.clearDwell⟩
    let set (t : State) : State := t.withGuards { t.guards with
      table := t.guards.table.set n ⟨written,
        if f.flags.getLsbD 1 = false ∧ g.condition = true then .pending else .idle, g.condition, !g.condition, none⟩ }
    (g.state ≠ .acting → exec c s = .next (answer r 24 .done [] (settleGuards (set (s.taken c))))) ∧
    (g.state = .acting → exec c s = .next (answer r 24 .done [] (settleGuards (set
      (raiseNotice .guardReleased n.val 3#16 ((s.taken c).withGuards { s.guards with
        table := s.guards.table.set n { g with
          clearTimer := none, state := if g.config.edge = false ∧ g.condition = true then .pending else .idle }
        stack := s.guards.stack.filter (fun k => decide (k ≠ n)) }))))))) ∧
  (∀ (r : Sender) (mask : Word16) (s : State), s.free → s.mgmt.owner = some r.station →
    s.guards.examineDue ≠ .released → mask.toNat < 4096 →
    ∃ a : Arbiter, exec (.guardMask r mask) s =
        .next (answer r 25 .done [] (settleGuards ((s.taken (.guardMask r mask)).withGuards a))) ∧
      (∀ n : Fin 12, a.guard n = { s.guards.guard n with
        config := { (s.guards.guard n).config with masked := mask.getLsbD n.val } }) ∧
      { a with table := s.guards.table } = s.guards) ∧
  (∀ (r : Sender) (floor : Byte) (s : State), s.admits r .modifying anyState → 1 ≤ floor.toNat → floor.toNat ≤ 8 →
    exec (.guardFloor r floor) s = .next (answer r 26 .done [] (settleGuards
      ((s.taken (.guardFloor r floor)).withGuards { s.guards with floor := floor.toNat })))) ∧
  (∀ (r : Sender) (source : Byte) (n : Fin 12) (s : State), s.admits r .modifying anyState →
    (source.toNat = n.val ∧ (s.guards.guard n).state = .acting ∨
      source = 255#8 ∧ s.guards.stack.getLast? = some n) →
    exec (.guardRelease r source) s = .next (answer r 27 .done []
      ((if source = 255#8 then settleGuards else settleRaised .released n)
      (raiseNotice .guardReleased n.val (if source = 255#8 then 1#16 else 0#16)
        ((s.taken (.guardRelease r source)).withGuards { s.guards with
          table := s.guards.table.set n { s.guards.guard n with
            clearTimer := none
            state := if (s.guards.guard n).config.edge = false ∧ (s.guards.guard n).condition = true
              then .pending else .idle }
          stack := s.guards.stack.filter (fun k => decide (k ≠ n)) }))))) ∧
  (∀ (r : Sender) (s : State), s.admits r .modifying anyState →
    exec (.guardRaise r) s = .next (answer r 28 .done [] (settleGuards (raiseEvent 11 (s.taken (.guardRaise r))))))) ∧
  (∀ s : State, s.works →
    (s.slipDue .drum = true → exec (.slipDwellExpiry .drum) s =
      .next (setCondition 0 true (s.withGuards { s.guards with slipDrum := none }))) ∧
    (s.slipDue .fan = true → exec (.slipDwellExpiry .fan) s =
      .next (setCondition 3 true (s.withGuards { s.guards with slipFan := none }))) ∧
    (∀ n : Fin 12, s.clearDue n = true → exec (.clearDwellExpiry n) s = .next (settleGuards
      (raiseNotice .guardReleased n.val 2#16 (s.withGuards { s.guards with
        table := s.guards.table.set n { s.guards.guard n with
          clearTimer := none
          state := if (s.guards.guard n).config.edge = false ∧ (s.guards.guard n).condition = true
            then .pending else .idle }
        stack := s.guards.stack.filter (fun k => decide (k ≠ n)) })))) ∧
    (∀ high : Bool, exec (.lineLevelSettled .hdrDown high) s =
        .next (setCondition 8 (!high) (s.withPins { s.pins with hdrDown := some high })) ∧
      exec (.lineLevelSettled .sepOn high) s =
        .next (setCondition 9 (!high) (s.withPins { s.pins with sepOn := some high }))))

/-! ### The safe set, the heartbeat and owner loss -/

/-- SUBSTITUTE WRITE (R170), BEAT ENABLE, BEAT DISABLE (R175) and BEAT (R176): what each does when it is answered
DONE; BEAT is carried out even while the part is busy, and claims no owner. SUBSTITUTE WRITE is refused with
WRONG_STATE in SAFE, and with BAD_FIELD for a bad mask or a present value outside its limits; that WRONG_STATE comes
before BAD_FIELD is the model's choice (log 38). -/
def Obligations.TheHeartbeatIsLoadedByTheOwner : Prop :=
  (∀ (r : Sender) (mask : Byte) (v : PerSetting Word16) (s : State), s.admits r .modifying anyState →
    (s.regulator.state = .safe → s.refuses (.substituteWrite r mask v) r 30 .wrongState) ∧
    (s.regulator.state ≠ .safe →
      (32 ≤ mask.toNat ∨ ∃ st : Setting, mask.getLsbD st.num = true ∧
        s.mgmt.params.inLimits st (v.get st).toNat = false) →
      s.refuses (.substituteWrite r mask v) r 30 .badField)) ∧
  (∀ (r : Sender) (mask : Byte) (v : PerSetting Word16) (s : State), s.admits r .modifying anyState →
    s.regulator.state ≠ .safe → mask.toNat < 32 →
    (∀ st : Setting, mask.getLsbD st.num = true → s.mgmt.params.inLimits st (v.get st).toNat = true) →
    let c : Instr := .substituteWrite r mask v
    let given (st : Setting) : Option Word16 := if mask.getLsbD st.num then some (v.get st) else none
    exec c s = .next (answer r 30 .done [] ((s.taken c).withSafe { s.safe with
      substitute := ⟨⟨given .drum, given .concave, given .upper, given .lower, given .fan⟩, true⟩ }))) ∧
  (∀ (r : Sender) (s : State), s.admits r .modifying inReadyOrRegulating →
    exec (.beatEnable r) s = .next (answer r 31 .done [] ((s.taken (.beatEnable r)).withSafe { s.safe with
      beatRunning := true, beatCount := BitVec.ofNat 16 (s.mgmt.params.item 40) }))) ∧
  (∀ (r : Sender) (s : State), s.admits r .modifying anyState →
    exec (.beatDisable r) s = .next (answer r 32 .done [] ((s.taken (.beatDisable r)).withSafe
      { s.safe with beatRunning := false }))) ∧
  (∀ (r : Sender) (s : State), s.works →
    (s.mgmt.owner = some r.station → s.safe.beatRunning = true →
      exec (.beat r) s = .next (answer r 33 .done [] ((s.taken (.beat r)).withSafe
        { s.safe with beatCount := BitVec.ofNat 16 (s.mgmt.params.item 40) }))) ∧
    (s.mgmt.owner = some r.station → s.safe.beatRunning = false →
      exec (.beat r) s = .next (answer r 33 .done [] (s.taken (.beat r)))) ∧
    (s.mgmt.owner ≠ some r.station →
      exec (.beat r) s = .next (answer r 33 .notOwner [] (s.taken (.beat r)))))

/-- Owner loss (R183), by the heartbeat's expiry (R177) or by RELEASE OWNER (R192): the owner, the part state,
the checking and the read are gone, the pending copy is the block in force, the heartbeat is STOPPED, the
groups are released and the deferred goals discarded (R111); a regulator that was in a cycle state or
PAUSED is in SAFE with cause OWNER_LOSS (R142). A SAVE is not disturbed. The owner-loss event makes the regulator
enter SAFE (R171: substitute goals, SAFE_OUT, SAFE_ENTERED), or only changes the cause of a GUARD SAFE; its handing, the
move unit's and the picture's are not ordered (R183; log 4). -/
def Obligations.TheOwnerIsLost : Prop :=
  (∀ s : State, s.ownerSound = true → s.cycleSound = true → s.works →
    let t := loseOwner s
    t.mgmt.owner = none ∧ t.mgmt.partState = .awaitParam ∧ t.mgmt.checking = none ∧ t.mgmt.reading = none ∧
    t.mgmt.saving = s.mgmt.saving ∧ t.mgmt.params = s.mgmt.params ∧ t.mgmt.pendingParams = s.mgmt.params ∧
    t.safe = { s.safe with beatRunning := false } ∧
    t.moves.heldThresh = false ∧ t.moves.heldClean = false ∧ (∀ st, (t.record st).deferred = none) ∧
    (s.mgmt.partState = .regulating → t.regulator.state = .safe ∧ t.regulator.safeCause = some .ownerLoss ∧
      t.pins.safeOut = true ∧ t.channels.gate = false ∧ t.regulator.window = none) ∧
    (s.mgmt.partState ≠ .regulating → t.regulator = s.regulator) ∧
    t.map = s.map ∧ t.guards = s.guards ∧ t.classifier = s.classifier ∧ t.store = s.store ∧
    ∃ u, OnlyTouches [.mgmt, .safe] s u ∧ t = interleave
      ((if s.mgmt.partState = .awaitParam then [] else [[publish]]) ++
        [[moveOwnerLoss], [regOwnerLoss s.mgmt.partState]]) u) ∧
  (∀ s : State,
    let state := s.regulator.state
    (state ≠ .idle → state ≠ .safe → s.safeEntered (regOwnerLoss .regulating s) .ownerLoss) ∧
    (state = .safe → regOwnerLoss .regulating s =
      publish (s.withRegulator { s.regulator with safeCause := some .ownerLoss })) ∧
    (∀ p, p ≠ .regulating → regOwnerLoss p s = s)) ∧
  (∀ s : State, s.works → s.safe.beatRunning = true → s.safe.beatCount = 0#16 →
    exec .heartbeatExpiry s = .next (interleave
      [[raiseNotice .beatExpired (s.mgmt.owner.getD 0#8).toNat (BitVec.ofNat 16 (s.mgmt.params.item 40))],
       [loseOwner]]
      (s.withSafe { s.safe with beatRunning := false }))) ∧
  (∀ (r : Sender) (s : State), s.free →
    (s.mgmt.owner = some r.station →
      exec (.releaseOwner r) s = .next (loseOwner (answer r 43 .done [] (s.taken (.releaseOwner r))))) ∧
    (s.mgmt.owner = none →
      exec (.releaseOwner r) s = .next (answer r 43 .notOwner [] (s.taken (.releaseOwner r)))))

/-! ### Requests and part states -/

/-- The tests of R181 in their order: BUSY before anything; UNKNOWN for a request that is not known; NOT_OWNER
from a station that is not the owner; WRONG_STATE outside the columns of 9.7. A request turned away
changes nothing else. Each request is carried out whole before the next is taken: an examination that the arbiter still
owes is made first, and what follows is the request on the state after it, but for a GUARD MASK that meets a raise that
is no request's (R165; the model's choice, log 39). -/
def Obligations.RequestsAreTurnedAwayInOrder : Prop :=
  ∀ (i : Instr) (r : Sender) (code : Nat) (s : State), i.request = some (r, code) → i.wellFormed = true →
    (s.works → (s.guards.examineDue = .released ∨ s.guards.examineDue = .raised ∧ ∀ q mask, i ≠ .guardMask q mask) →
      exec i s = exec i (settleGuards s) ∧ (settleGuards s).settled) ∧
    (s.works → s.mgmt.busy = true → (∀ q, i ≠ .beat q) →
      exec i s = .next (answer r code .busy [] (s.taken i))) ∧
    (s.free → (∃ b fields, i = .unknownRequest r b fields) →
      exec i s = .next (answer r code .unknown [] (s.taken i))) ∧
    (s.free → (∀ b fields, i ≠ .unknownRequest r b fields) →
      (requestMode i ≠ .read → s.mgmt.owner ≠ some r.station →
        (s.mgmt.owner ≠ none ∨ s.mgmt.partState ≠ .awaitParam ∨ requestMode i = .noClaim) →
        exec i s = .next (answer r code .notOwner [] (s.taken i))) ∧
      ((requestMode i = .read ∨ s.mgmt.owner = some r.station) → requestColumn i s.mgmt.partState = false →
        exec i s = .next (answer r code .wrongState [] (s.taken i))))

/-- R182: a modifying request that is known, taken in AWAIT_PARAM while the part is not busy and has no owner,
makes its sender the owner, whatever it is answered, and is then judged and carried out as from the owner; a busy part
claims nothing; and while an owner is present, no command but owner loss and a reset changes it. -/
def Obligations.TheFirstModifyingRequestClaims : Prop :=
  (∀ (i : Instr) (r : Sender) (code : Nat) (s : State), i.request = some (r, code) → i.wellFormed = true →
    requestMode i = .modifying → (∀ b fields, i ≠ .unknownRequest r b fields) → s.works →
    s.mgmt.owner = none → s.mgmt.partState = .awaitParam →
    ∃ t, exec i s = .next t ∧
      t.mgmt.owner = (if s.mgmt.busy then none else some r.station) ∧
      (s.mgmt.busy = false → s.settled → exec i s = exec i (s.withMgmt { s.mgmt with owner := some r.station }))) ∧
  (∀ (i : Instr) (s t : State) (o : Byte), s.mgmt.owner = some o → exec i s = .next t →
    t.mgmt.owner = some o ∨
    (t.mgmt.owner = none ∧
      (i = .heartbeatExpiry ∨ (∃ r, i = .releaseOwner r) ∨ (∃ x, i = .powerOnReset x) ∨ ∃ x, i = .restartAct x)))

/-- The parameter block: PARAM WRITE (R185) writes the pending copy; PARAM CLOSE (R186) puts it in force exactly
when it keeps every cross-item constraint, and is otherwise answered CONFLICT with the item, cause, bank and cell of
the first one broken; PARAM OPEN (R187) copies the block back. A bad Item or Value is BAD_FIELD. -/
def Obligations.ParametersComeIntoForce : Prop :=
  (∀ (r : Sender) (k : Fin 43) (v : Word16) (s : State), s.admits r .modifying inAwaitParam →
    (paramRange k.val).1 ≤ v.toNat → v.toNat ≤ (paramRange k.val).2 →
    let c : Instr := .paramWrite r (BitVec.ofNat 8 k.val) v
    exec c s = .next (answer r 35 .done [] ((s.taken c).withMgmt
      { (s.taken c).mgmt with pendingParams := ⟨s.mgmt.pendingParams.items.set k v⟩ }))) ∧
  (∀ (r : Sender) (s : State), s.admits r .modifying inAwaitParam →
    let p := s.mgmt.pendingParams
    let keeps := (∀ st : Setting, p.item st.num < p.item (5 + st.num)) ∧
      substituteFits p s.safe.substitute = true ∧ bankFits p s.map.bankA = true ∧ bankFits p s.map.bankB = true ∧
      p.item 1 ≤ p.item 25 ∧ p.item 25 ≤ p.item 6
    (keeps → ∃ u, exec (.paramClose r) s = .next (answer r 36 .done [] u) ∧
      u.mgmt = { (s.taken (.paramClose r)).mgmt with params := p, partState := .awaitLayout } ∧
      u.pins.attn = (decide (p.item 41 = 1) && decide (s.notices.held ≠ 0)) ∧
      u.pictures = s.pictures.publish (State.nextPicture (s.withMgmt u.mgmt)) ∧
      OnlyTouches [.mgmt, .pins, .pictures] s u) ∧
    (¬ keeps → ∃ fields, fields.length = 4 ∧
      exec (.paramClose r) s = .next (answer r 36 .conflict fields (s.taken (.paramClose r)))) ∧
    (let conflict (item cause bank cell : Nat) : Prop :=
       exec (.paramClose r) s = .next (answer r 36 .conflict
         [BitVec.ofNat 8 item, BitVec.ofNat 8 cause, BitVec.ofNat 8 bank, BitVec.ofNat 8 cell] (s.taken (.paramClose r)))
     let limits := ∀ st : Setting, p.item st.num < p.item (5 + st.num)
     let breaks (st : Setting) (v item : Nat) : Prop :=
       v < p.item st.num ∧ item = st.num ∨ p.item st.num ≤ v ∧ p.item (5 + st.num) < v ∧ item = 5 + st.num
     let inside (st : Setting) (v : Nat) : Prop := ∀ item : Nat, ¬ breaks st v item
     let substitutes := ∀ (st : Setting) (v : Word16), s.safe.substitute.values.get st = some v → inside st v.toNat
     let targetsOf (k : BankId) (m : Nat) : Prop :=
       ∀ c, (s.map.bank k).cell m = some c → ∀ st, inside st (c.targets.get st).toNat
     let trimsOf (k : BankId) (m : Nat) : Prop :=
       ∀ c, (s.map.bank k).cell m = some c → ∀ st, (c.trimOffset st).natAbs ≤ p.item (20 + st.num)
     let before (ok : BankId → Nat → Prop) (k : BankId) (n : Nat) : Prop :=
       (k = .b → ∀ m, ok .a m) ∧ ∀ m, m < n → ok k m
     let release := inside .concave (p.item 25)
     (∀ st : Setting, ¬ p.item st.num < p.item (5 + st.num) →
       (∀ o : Setting, o.num < st.num → p.item o.num < p.item (5 + o.num)) → conflict st.num 1 255 255) ∧
     (∀ (st : Setting) (v : Word16) (item : Nat), limits → s.safe.substitute.values.get st = some v → breaks st v.toNat item →
       (∀ (o : Setting) (x : Word16), o.num < st.num → s.safe.substitute.values.get o = some x → inside o x.toNat) →
       conflict item 2 255 255) ∧
     (∀ (k : BankId) (n : Nat) (c : CellRecord) (st : Setting) (item : Nat), limits → substitutes → (s.map.bank k).cell n = some c → before targetsOf k n →
       breaks st (c.targets.get st).toNat item →
       (∀ o : Setting, o.num < st.num → inside o (c.targets.get o).toNat) → conflict item 3 k.num n) ∧
     (∀ item : Nat, limits → substitutes → (∀ k n, targetsOf k n) → breaks .concave (p.item 25) item →
       conflict item 4 255 255) ∧
     (∀ (k : BankId) (n : Nat) (c : CellRecord) (st : Setting), limits → substitutes → (∀ k n, targetsOf k n) → release → (s.map.bank k).cell n = some c →
       before trimsOf k n → p.item (20 + st.num) < (c.trimOffset st).natAbs →
       (∀ o : Setting, o.num < st.num → (c.trimOffset o).natAbs ≤ p.item (20 + o.num)) →
       conflict (20 + st.num) 5 k.num n))) ∧
  (∀ (r : Sender) (item : Byte) (v : Word16) (s : State), s.admits r .modifying inAwaitParam →
    (42 < item.toNat ∨ v.toNat < (paramRange item.toNat).1 ∨ (paramRange item.toNat).2 < v.toNat) →
    s.refuses (.paramWrite r item v) r 35 .badField) ∧
  (∀ (r : Sender) (s : State), s.admits r .modifying inLayoutOrReady →
    ∃ u, exec (.paramOpen r) s = .next (answer r 37 .done [] u) ∧
      u.mgmt = { (s.taken (.paramOpen r)).mgmt with pendingParams := s.mgmt.params, partState := .awaitParam } ∧
      OnlyTouches [.mgmt, .pictures] s u)

/-- The layout and the checking: LAYOUT WRITE (R188, R91) replaces the roster and resets the records whose
station changed, keeping their tags; LAYOUT CLOSE (R188) and RESUME (R205) begin CHECKING with DRUM; the
answer timer asks a second time and then fails the drive (R189). An IDENT from the drive being checked fails it by
its kind or its range, or passes it: the next drive is asked, and after FAN the part is READY with CHECK_PASSED; any
other IDENT is ignored. That one with both a wrong kind and a bad range fails with WRONG_KIND is the model's choice
(log 40). That the notice and the picture at the end of CHECKING are not ordered is the model's choice
(log 4). The refusals: BAD_FIELD for a bad pair, BAD_FIELD with the lowest setting the roster tests
concern, and for RESUME CONFLICT without an image. -/
def Obligations.DrivesAreCheckedInOrder : Prop :=
  (∀ (r : Sender) (v : PerSetting (Byte × Byte)) (s : State), s.admits r .modifying inAwaitLayout →
    (∃ st, 62 < (v.get st).1.toNat ∧ (v.get st).1 ≠ 255#8 ∨ (v.get st).1 = s.ownStation ∨ (v.get st).2.toNat < 5) →
    s.refuses (.layoutWrite r v) r 39 .badField) ∧
  (∀ (r : Sender) (s : State) (st : Setting),
    let bad (o : Setting) : Prop := s.driveStation o = none ∨ s.driveStation o = some s.ownStation ∨
      ∃ q, q ≠ o ∧ s.driveStation q = s.driveStation o
    (s.admits r .modifying inAwaitLayout → bad st → (∀ o : Setting, o.num < st.num → ¬ bad o) →
      exec (.layoutClose r) s = .next (answer r 40 .badField [BitVec.ofNat 8 st.num] (s.taken (.layoutClose r)))) ∧
    (s.admits r .modifying inAwaitParam → s.mgmt.imageHeld = false → s.refuses (.resume r) r 49 .conflict) ∧
    (s.admits r .modifying inAwaitParam → s.mgmt.imageHeld = true → bad st →
      (∀ o : Setting, o.num < st.num → ¬ bad o) →
      exec (.resume r) s = .next (answer r 49 .badField [BitVec.ofNat 8 st.num] (s.taken (.resume r))))) ∧
  (∀ (f : Frame) (s : State) (kind a0 a1 b0 b1 : Byte), f.payload = [kind, a0, a1, b0, b1] →
    let t := takeIdent f s
    let ends (next : PartState) (notice : NoticeKind) (subject : Nat) (detail : Word16) : Prop :=
      t = interleave [[raiseNotice notice subject detail], [publish]]
        (s.withMgmt { s.mgmt with checking := none, partState := next })
    (s.mgmt.checking = none → t = s) ∧
    ∀ k, s.mgmt.checking = some k →
      let p := s.mgmt.params
      let inRange := (word16 a0 a1).toNat ≤ p.item k.setting.num ∧ p.item (5 + k.setting.num) ≤ (word16 b0 b1).toNat
      (s.driveStation k.setting ≠ some f.source → t = s) ∧
      (s.driveStation k.setting = some f.source →
        (kind.toNat ≠ k.setting.num → ends .awaitLayout .layoutConflict k.setting.num 2#16) ∧
        (kind.toNat = k.setting.num → ¬ inRange → ends .awaitLayout .layoutConflict k.setting.num 3#16) ∧
        (kind.toNat = k.setting.num → inRange → k.setting = .fan →
          ends .ready .checkPassed s.ownStation.toNat 5#16) ∧
        (kind.toNat = k.setting.num → inRange → ∀ (n : Setting) (d : Byte), n.num = k.setting.num + 1 →
          s.driveStation n = some d → t = queuePart (Frame.make d s.ownStation .identAsk 0#4 [])
            (s.withMgmt { s.mgmt with checking := some ⟨n, 1, ⟨s.partTime, 10⟩⟩ })))) ∧
  (∀ (r : Sender) (v : PerSetting (Byte × Byte)) (s : State), s.admits r .modifying inAwaitLayout →
    s.cycleSound = true →
    (∀ st, ((v.get st).1.toNat ≤ 62 ∨ (v.get st).1 = 255#8) ∧ (v.get st).1 ≠ s.ownStation ∧ 5 ≤ (v.get st).2.toNat) →
    ∃ u, exec (.layoutWrite r v) s = .next (answer r 39 .done [] u) ∧
      (∀ st, u.moves.roster.get st = ⟨if (v.get st).1 = 255#8 then none else some (v.get st).1, (v.get st).2⟩) ∧
      (∀ st, u.driveStation st = s.driveStation st → u.record st = s.record st) ∧
      (∀ st, u.driveStation st ≠ s.driveStation st →
        (u.record st).state = .idle ∧ (u.record st).tag = (s.record st).tag ∧ (u.record st).goal = none ∧
        (u.record st).leg = none ∧ (u.record st).deferred = none ∧ (u.record st).lastActual = none ∧
        (u.record st).tracking = .search ∧ (u.record st).manual = false) ∧
      u.moves.driveFault = u.anyFault ∧ u.mgmt = (s.taken (.layoutWrite r v)).mgmt) ∧
  (∀ (r : Sender) (s : State) (d : Byte), s.driveStation .drum = some d →
    let good := (∀ st, s.driveStation st ≠ none ∧ s.driveStation st ≠ some s.ownStation) ∧
      ∀ a b : Setting, a ≠ b → s.driveStation a ≠ s.driveStation b
    let asked (w : State) : State := queuePart (Frame.make d s.ownStation .identAsk 0#4 []) (w.withMgmt
      { w.mgmt with checking := some ⟨.drum, 1, ⟨s.partTime, 10⟩⟩ })
    (s.admits r .modifying inAwaitLayout → good → exec (.layoutClose r) s = .next (answer r 40 .done []
      (asked (publish ((s.taken (.layoutClose r)).withMgmt
        { (s.taken (.layoutClose r)).mgmt with partState := .checking }))))) ∧
    (s.admits r .modifying inAwaitParam → s.mgmt.imageHeld = true → good →
      exec (.resume r) s = .next (answer r 49 .done [] (asked (publish ((s.taken (.resume r)).withMgmt
        { (s.taken (.resume r)).mgmt with pendingParams := s.mgmt.params, partState := .checking })))))) ∧
  (∀ (s : State) (k : Checking) (d : Byte), s.works → s.mgmt.checking = some k → s.answerDue = true →
    s.driveStation k.setting = some d →
    (k.asks < 2 → exec .answerTimerExpiry s = .next (queuePart (Frame.make d s.ownStation .identAsk 0#4 [])
      (s.withMgmt { s.mgmt with checking := some ⟨k.setting, 2, ⟨s.partTime, 10⟩⟩ }))) ∧
    (2 ≤ k.asks → ∃ t, exec .answerTimerExpiry s = .next t ∧
      t.mgmt = { s.mgmt with checking := none, partState := .awaitLayout } ∧
      t.notices = (raiseNotice .layoutConflict k.setting.num 1#16 s).notices ∧
      OnlyTouches [.mgmt, .notices, .pins, .link, .pictures, .order] s t))

/-- START and STOP (R191). START is refused with CONFLICT while the active bank is invalid (Cause 1), then while
the substitute set is not loaded (Cause 2); answered DONE, it makes the part REGULATING and takes the
regulator where the effective action says (R118): to SAFE, PAUSED or FOLLOW, from IDLE, and from an owner-loss SAFE,
which it leaves (R172, R174) or which becomes a GUARD SAFE. STOP takes it to IDLE (R141) and discards the deferred
goals (R110); from SAFE it leaves SAFE. -/
def Obligations.RegulationStartsAndStops : Prop :=
  (∀ (r : Sender) (s : State), s.admits r .modifying inReady →
    (s.activeBank.valid = false →
      exec (.start r) s = .next (answer r 41 .conflict [1#8] (s.taken (.start r)))) ∧
    (s.activeBank.valid = true → s.safe.substitute.loaded = false →
      exec (.start r) s = .next (answer r 41 .conflict [2#8] (s.taken (.start r)))) ∧
    (s.activeBank.valid = true → s.safe.substitute.loaded = true → s.regulator.state = .idle →
      ∃ u, exec (.start r) s = .next (answer r 41 .done [] u) ∧
        u.mgmt = { (s.taken (.start r)).mgmt with partState := .regulating } ∧
        (s.guards.effective = .safeSet → u.regulator.state = .safe ∧ u.regulator.safeCause = some .guard ∧
          u.pins.safeOut = true) ∧
        (s.guards.effective = .openConcave ∨ s.guards.effective = .pause → u.regulator.state = .paused) ∧
        (s.guards.effective = .noticeOnly → (u.regulator.state = .follow ∨ u.regulator.state = .settle) ∧
          u.regulator.cursor = 0 ∧ u.regulator.exhausted = false ∧ u.regulator.baseline = none ∧
          ∀ x st, s.cellInUse = some x → u.regulator.targets.get st =
            some (effectiveTarget s.mgmt.params s.activeBank x s.classifier.adopted.side st)))) ∧
  (∀ (r : Sender) (s : State), s.admits r .modifying inReady → s.activeBank.valid = true →
    s.safe.substitute.loaded = true →
    let w := (s.taken (.start r)).withMgmt { (s.taken (.start r)).mgmt with partState := .regulating }
    (s.regulator.state = .idle ∨ (s.regulator.state = .safe ∧ s.regulator.safeCause = some .ownerLoss) →
      ∃ u, exec (.start r) s = .next (answer r 41 .done [] u) ∧ u.mgmt = w.mgmt ∧
        (s.guards.effective = .safeSet → s.regulator.state = .idle → w.safeEntered u .guard) ∧
        (s.guards.effective = .safeSet → s.regulator.state = .safe →
          u.regulator = { s.regulator with safeCause := some .guard } ∧
          OnlyTouches [.regulator, .pictures, .order] w u) ∧
        (s.guards.effective = .openConcave → w.pausedBy u true) ∧
        (s.guards.effective = .pause → w.pausedBy u false) ∧
        (s.guards.effective = .noticeOnly → w.followed u 0 false))) ∧
  (∀ (r : Sender) (s : State), s.admits r .modifying inRegulating → s.cycleSound = true →
    ∃ u, exec (.stop r) s = .next (answer r 42 .done [] u) ∧ s.leftSafe u .idle ∧
      u.mgmt = { (s.taken (.stop r)).mgmt with partState := .ready } ∧
      u.regulator = { s.regulator with state := .idle, safeCause := none, window := none, trial := none } ∧
      u.pins.safeOut = false ∧ u.channels.gate = false ∧
      u.moves.heldThresh = s.moves.heldThresh ∧ u.moves.heldClean = s.moves.heldClean ∧
      ∀ st, u.record st = { s.record st with deferred := none })

/-! ### The store and the reset -/

/-- SAVE (R203): its snapshot is written and its DONE comes when the write ends (SAVE_WRITE_END, at any time
while it runs: log 19), with the image's check beside it (R202); RESTART (R204): its DONE goes out, and RESTART_ACT
resets the part once it has left; POWER_ON_RESET finds the store blank, valid or failed (R202) and cuts a write short,
leaving an image whose check fails, which that reset itself finds (the model's reading, log 31). -/
def Obligations.ConfigurationIsSavedAndReloaded : Prop :=
  (∀ (r : Sender) (s : State), s.admits r .modifying inReadyOrRegulating →
    exec (.save r) s = .next ((s.taken (.save r)).withMgmt { (s.taken (.save r)).mgmt with
      saving := some ⟨r, s.snapshot, s.partTime⟩ })) ∧
  (∀ (s : State) (j : SaveJob), s.works → s.mgmt.saving = some j →
    exec .saveWriteEnd s = .next (answer j.sender 47 .done []
      ((s.withStore ⟨.image j.image, crc16 (imageBytes j.image)⟩).withMgmt { s.mgmt with saving := none, imageHeld := true }))) ∧
  (∀ (r : Sender) (s : State), s.admits r .modifying anyState →
    exec (.restart r) s = .next (readyReply ⟨r, 48#8, .done, 0, false, [], .restart⟩ (s.taken (.restart r)))) ∧
  (∀ (x : BitVec 3) (s : State), s.works → s.mgmt.restartDue = true →
    exec (.restartAct x) s = exec (.powerOnReset x) s) ∧
  (∀ x : Store, x.found = match x.content with
    | .erased => if x.check = 65535#16 then .blank else .failed
    | .image i => if x.check = crc16 (imageBytes i) then .valid i else .failed
    | .torn => .failed) ∧
  (∀ (x : BitVec 3) (s : State), ∃ t, exec (.powerOnReset x) s = .next t ∧
    t.store = (if s.mgmt.saving.isSome then { s.store with content := .torn } else s.store) ∧
    (∀ image, t.store.found = .valid image → t.snapshot = image ∧ t.mgmt.imageHeld = true) ∧
    ((∀ image, t.store.found ≠ .valid image) → t.snapshot = State.reset.snapshot ∧ t.mgmt.imageHeld = false) ∧
    t.ownStation = 48#8 + x.setWidth 8 ∧ t.keep = none ∧
    (t.store.found = .blank →
      ((((t.withStore ⟨.erased, 65535#16⟩).withOrder []).withPending []).withPins { t.pins with straps := 0#3 }) = State.reset))

/-- What a reset leaves (the After Reset sections: R24, R48, R65, R88, R113, R145, R168, R179, R193, R201), with the
store's parts loaded and a STORE_FAULT notice only for a failed store (R202, R204). The kept channel values are not
usable (R168), SUBSTITUTE READ shows a STOPPED heartbeat with count 0 (R179), and the picture being read has sequence 0
and time 0 and shows the blocks as the reset leaves them, loaded parts included (R201). -/
def Obligations.AResetLeavesTheAfterResetState : Prop :=
  ∀ (x : BitVec 3) (s t : State), exec (.powerOnReset x) s = .next t →
    t.partTime = 0#32 ∧ t.pins.safeOut = false ∧ t.pins.inReset = false ∧
    (∀ n, n ≤ 62 → t.sideOf (BitVec.ofNat 8 n) = .unknown) ∧
    (∀ p, (t.port p).queue = [] ∧ (t.port p).tx = .idle ∧ (t.port p).good = 0#16 ∧ (t.port p).checkErrors = 0#16 ∧
      (t.port p).filtered = 0#16 ∧ (t.port p).forwardDrops = 0#16 ∧ (t.port p).collisionDrops = 0#16) ∧
    (∀ i, (t.channel i).rt = ⟨.search, none, false, false, false, false, 0#8, none, none, 0#32, 0#16, false⟩) ∧
    t.channels.gate = false ∧ t.channels.lostIndicator = false ∧
    (∀ a, (t.classifier.axes.get a).frozen = true ∧ (t.classifier.axes.get a).value = none ∧
      (t.classifier.axes.get a).candidate = (t.classifier.axes.get a).defn.defaultBand ∧
      t.classifier.adopted.get a = (t.classifier.axes.get a).defn.defaultBand) ∧
    t.classifier.adoptedAt = 0#32 ∧ t.classifier.dwell = none ∧
    (∀ st, (t.record st).state = .idle ∧ (t.record st).tag = 0#4 ∧ (t.record st).goal = none ∧
      (t.record st).leg = none ∧ (t.record st).deferred = none ∧ (t.record st).resendUsed = false ∧
      (t.record st).lastActual = none ∧ (t.record st).tracking = .search ∧ (t.record st).manual = false ∧
      (t.record st).limited = false ∧ t.moves.stale.get st = 0#16) ∧
    t.moves.unmatched = 0#16 ∧ t.moves.heldThresh = false ∧ t.moves.heldClean = false ∧ t.moves.driveFault = false ∧
    t.regulator.state = .idle ∧ t.regulator.safeCause = none ∧ t.regulator.window = none ∧
    (∀ st, t.regulator.targets.get st = none) ∧ t.regulator.cursor = 0 ∧ t.regulator.exhausted = false ∧
    t.regulator.baseline = none ∧ t.regulator.trial = none ∧ t.regulator.last = none ∧
    (∀ n, (t.guards.guard n).state = .idle ∧ (t.guards.guard n).condition = false ∧
      (t.guards.guard n).armed = true ∧ (t.guards.guard n).clearTimer = none) ∧
    t.guards.floor = 8 ∧ t.guards.stack = [] ∧ t.guards.effective = .noticeOnly ∧
    t.guards.slipDrum = none ∧ t.guards.slipFan = none ∧ t.guards.kept = ⟨none, none, none, none, none, none⟩ ∧
    t.guards.examineDue = .no ∧
    t.safe.beatRunning = false ∧ t.safe.beatCount = 0#16 ∧
    (∀ r : Sender, ∃ shown : List Byte,
      exec (.substituteRead r) t = .next (answer r 34 .done (shown ++ [0#8, 0#8]) (t.taken (.substituteRead r)))) ∧
    (let p := (t.pictures.buffers.get 0).picture
     p.sequence = 0#16 ∧ p.time = 0#32 ∧ p.partState = .awaitParam ∧ p.regState = .idle ∧ p.safeCause = none ∧
     p.window = none ∧ p.adopted = t.classifier.adopted ∧ (∀ a, p.frozen.get a = true) ∧
     p.activeBank = t.map.active ∧ p.label = t.activeBank.label ∧
     (∀ st, p.targets.get st = none ∧ p.moves.get st = ⟨none, .idle, false, false⟩) ∧
     p.heldThresh = false ∧ p.heldClean = false ∧ p.last = none ∧ p.cursor = 0 ∧ p.stack = [] ∧
     p.effective = .noticeOnly ∧ p.noticesQueued = 0 ∧ p.lostNotices = 0#16 ∧ ∀ i, p.locks.get i = .search) ∧
    t.mgmt.partState = .awaitParam ∧ t.mgmt.owner = none ∧ t.mgmt.busy = false ∧
    t.mgmt.checking = none ∧ t.mgmt.waiting = [] ∧ t.mgmt.pendingParams = t.mgmt.params ∧
    t.notices.lost = 0#16 ∧ t.pictures.seq = 0#16 ∧
    (t.pictures.buffers.get 0).role = .u ∧ (t.pictures.buffers.get 1).role = .f ∧
    (t.pictures.buffers.get 2).role = .f ∧
    (t.store.found ≠ .failed → t.notices.held = 0 ∧ t.pins.attn = false) ∧
    (t.store.found = .failed → t.pins.attn = true ∧ t.notices.held = 1 ∧
      t.notices.nth 0 = some ⟨.storeFault, 0#32, t.ownStation, 1#16⟩)

/-! ### Notices, pictures and reads -/

/-- A notice (R195, R197) is discarded when its class is off; otherwise it joins the ring, or is counted as lost
when 31 are held; ATTN follows attention enable; a notice joining an empty queue brings the owner an
ATTENTION with payload 1. FETCH NOTICES (R196) removes the oldest notices, up to 3, and answers with them. -/
def Obligations.NoticesAreQueuedAndFetched : Prop :=
  (∀ (k : NoticeKind) (subject : Nat) (detail : Word16) (s : State),
    let x : Notice := ⟨k, s.partTime, BitVec.ofNat 8 subject, detail⟩
    let t := raiseNotice k subject detail s
    ((s.mgmt.params.item 42).testBit k.classBit = false → t = s) ∧
    ((s.mgmt.params.item 42).testBit k.classBit = true → s.notices.held = 31 →
      t = s.withNotices { s.notices with lost := satInc16 s.notices.lost }) ∧
    ((s.mgmt.params.item 42).testBit k.classBit = true → s.notices.held < 31 →
      t.notices.held = s.notices.held + 1 ∧ t.notices.nth s.notices.held = some x ∧
      (∀ j, j < s.notices.held → t.notices.nth j = s.notices.nth j) ∧
      t.notices.lost = s.notices.lost ∧ t.notices.readPoint = s.notices.readPoint ∧
      t.pins = { s.pins with attn := decide (s.mgmt.params.item 41 = 1) } ∧
      (0 < s.notices.held ∨ s.mgmt.params.item 41 ≠ 1 ∨ s.mgmt.owner = none → t.link = s.link) ∧
      (∀ o, s.notices.held = 0 → s.mgmt.params.item 41 = 1 → s.mgmt.owner = some o →
        t.link = (queuePart (Frame.make o s.ownStation .attention 0#4 [1#8]) s).link) ∧
      OnlyTouches touchNotices s t)) ∧
  (∀ (r : Sender) (s : State), s.admits r .modifying anyState → s.noticesSound = true →
    let k := min s.notices.held 3
    ∃ (l : List Notice) (u : State), l.length = k ∧ (∀ j, j < k → s.notices.nth j = l[j]?) ∧
      exec (.fetchNotices r) s = .next (answer r 44 .done
        ([BitVec.ofNat 8 (s.notices.held - k)] ++ le16 s.notices.lost ++
          (l.map (fun x => [BitVec.ofNat 8 x.kind.code, x.subject] ++ le16 x.detail ++
            le16 (x.time.setWidth 16))).flatten) u) ∧
      u.notices.held = s.notices.held - k ∧ (∀ j, u.notices.nth j = s.notices.nth (k + j)) ∧
      u.notices.lost = s.notices.lost ∧
      u.pins = { s.pins with attn := decide (s.mgmt.params.item 41 = 1) && decide (u.notices.held ≠ 0) } ∧
      u.mgmt = (s.taken (.fetchNotices r)).mgmt ∧ OnlyTouches [.notices, .pins, .mgmt] s u)

/-- A picture published (R198) advances the sequence number and goes into the lowest free buffer, which becomes
N; the buffer being read is not written. PICTURE READ (R199) turns the newest unread picture into the one
being read, and its first part becomes ready; the next part becomes ready when the one before has left,
and the read ends after the third. A picture has 63 bytes, 21 to a part; the bytes of a picture composed are those of
the table of R198 over the blocks as they stand. It holds the lock state of
every channel entry (R34), beside those bytes by the model's choice (log 33). -/
def Obligations.PicturesArePublishedAndRead : Prop :=
  (∀ (s : State), s.pictures.sound = true →
    let t := publish s
    t.pictures.seq = s.pictures.seq + 1#16 ∧ OnlyTouches [.pictures] s t ∧
    ∃ k : Fin 3, (s.pictures.buffers.get k).role = .f ∧ (∀ j, j < k → (s.pictures.buffers.get j).role ≠ .f) ∧
      t.pictures.buffers.get k = ⟨.n, s.nextPicture⟩ ∧
      ∀ j, j ≠ k → (t.pictures.buffers.get j).picture = (s.pictures.buffers.get j).picture ∧
        (t.pictures.buffers.get j).role =
          if (s.pictures.buffers.get j).role = .n then .f else (s.pictures.buffers.get j).role) ∧
  (∀ (s : State) (i : Fin 24), s.nextPicture.locks.get i = (s.channel i).rt.lock) ∧
  (∀ s : State,
    let g := s.regulator
    let words (f : Setting → Word16) : List Byte := (Setting.all.map (fun st => le16 (f st))).flatten
    let part : Byte := match s.mgmt.partState with
      | .awaitParam => 0#8 | .awaitLayout => 1#8 | .checking => 2#8 | .ready => 3#8 | .regulating => 4#8
    let state : Byte := match g.state with
      | .idle => 0#8 | .follow => 1#8 | .settle => 2#8 | .measure => 3#8 | .hold => 4#8 | .trialMove => 5#8
      | .trialSettle => 6#8 | .trialMeasure => 7#8 | .revert => 8#8 | .paused => 9#8 | .safe => 10#8
    let cause : Byte := match g.safeCause with | none => 0#8 | some .guard => 16#8 | some .ownerLoss => 32#8
    let window : Byte := match g.window with | none => 0#8 | some (.a, _) => 1#8 | some (.b, _) => 2#8
    let move (st : Setting) : Byte :=
      let m := s.record st
      (match m.state with | .idle => 0#8 | .issued => 1#8 | .moving => 2#8 | .fault => 3#8) |||
        (packBits [m.manual, m.lastActual.isSome, m.limited] <<< 2)
    s.nextPicture.bytes =
      le16 (s.pictures.seq + 1#16) ++ le32 s.partTime ++ [part, state ||| cause, window] ++
      Axis.all.map (fun a => BitVec.ofNat 8 (s.classifier.adopted.get a)) ++
      [packBits (Axis.all.map (fun a => (s.classifier.axes.get a).frozen)),
        match s.map.active with | .a => 0#8 | .b => 1#8] ++ le16 s.activeBank.label ++
      words (fun st => (g.targets.get st).getD 0#16) ++ words (fun st => (s.record st).lastActual.getD 0#16) ++
      Setting.all.map move ++ [packBits [s.moves.heldThresh, s.moves.heldClean]] ++
      (match g.last with
       | some w => le16 w.l ++ le16 w.t ++ le16 w.s ++ [BitVec.ofNat 8 w.outcome.code]
       | none => [0#8, 0#8, 0#8, 0#8, 0#8, 0#8, 255#8]) ++
      [BitVec.ofNat 8 g.cursor] ++ ((s.guards.stack.map (fun k => BitVec.ofNat 8 k.val)) ++ List.replicate 8 255#8).take 8 ++
      [BitVec.ofNat 8 s.guards.effective.code, BitVec.ofNat 8 s.notices.held] ++ le16 s.notices.lost) ∧
  (∀ p : Picture, p.bytes.length = 63 ∧ p.bytes = p.part 0 ++ p.part 1 ++ p.part 2 ∧
    ∀ k, k < 3 → (p.part k).length = 21) ∧
  (∀ (r : Sender) (s : State), s.free → s.settled → s.pictures.sound = true → ∃ (u : State) (k : Fin 3),
    (u.pictures.buffers.get k).role = .u ∧ u.pictures.seq = s.pictures.seq ∧
    (∀ j, (u.pictures.buffers.get j).picture = (s.pictures.buffers.get j).picture) ∧
    ((s.pictures.buffers.get k).role = .n ∨
      (s.pictures.buffers.get k).role = .u ∧ ∀ j, (s.pictures.buffers.get j).role ≠ .n) ∧
    u.mgmt = { (s.taken (.pictureRead r)).mgmt with reading := some ⟨r, 0⟩ } ∧
    OnlyTouches [.pictures, .mgmt] s u ∧
    exec (.pictureRead r) s = .next (readyReply
      ⟨r, 45#8, .done, 0, true, (s.pictures.buffers.get k).picture.part 0, .picture⟩ u)) ∧
  (∀ (p : Port) (j : ReadJob) (s : State), s.mgmt.reading = some j → s.mgmt.outstanding.get p = some .picture →
    (replyLeft p s).mgmt = { s.mgmt with
      outstanding := s.mgmt.outstanding.set p none
      reading := if j.part < 2 then some ⟨j.sender, j.part + 1⟩ else none
      waiting := if j.part < 2 then s.mgmt.waiting ++
        [⟨j.sender, 45#8, .done, j.part + 1, decide (j.part + 1 < 2), s.readingPart (j.part + 1), .picture⟩]
        else s.mgmt.waiting })

/-- R200: COUNTERS READ answers any station, in every part state, with the ten link counters, and changes
nothing. -/
def Obligations.CountersAreRead : Prop :=
  ∀ (r : Sender) (s : State), s.free →
    let k (p : Port) : PortState := (s.taken (.countersRead r)).port p
    let five (p : Port) : List Byte := le16 (k p).good ++ le16 (k p).checkErrors ++
      le16 (k p).filtered ++ le16 (k p).forwardDrops ++ le16 (k p).collisionDrops
    (s.settled → ∀ p, k p = s.port p) ∧
    (five .s ++ five .m).length = 20 ∧
    exec (.countersRead r) s = .next (answer r 46 .done (five .s ++ five .m) (s.taken (.countersRead r)))

/-- The other read requests answer any station, in every part state, and change nothing: every field of each
view, byte for byte, and BAD_FIELD outside the views and indexes (R43, R64, R82, R83, R112, R144, R167, R178, R187).
CELL READ, View 2, of an unwritten cell is CONFLICT; that a bad Side of one is BAD_FIELD is the model's choice (log 34). -/
def Obligations.ReadsAnswerAndChangeNothing : Prop :=
  ∀ (r : Sender) (s : State), s.free → s.settled →
    let replies (c : Instr) (code : Nat) (fields : List Byte) : Prop :=
      exec c s = .next (answer r code .done fields (s.taken c))
    let left (o : Option Timer) : Word16 := match o with
      | some x => BitVec.ofNat 16 (x.length - (s.partTime - x.start).toNat)
      | none => 0#16
    let words (f : Setting → Word16) : List Byte := (Setting.all.map (fun st => le16 (f st))).flatten
    (∀ (i : Fin 24),
      let d := (s.channel i).defn
      let t := (s.channel i).rt
      let n : Byte := BitVec.ofNat 8 i.val
      replies (.channelRead r n 0#8) 1
        ([n, packBits [d.enabled, d.mirror, d.required], d.station, d.sub.setWidth 8, BitVec.ofNat 8 d.role.code] ++
          le16 d.gain ++ le16 d.offset ++ le16 d.plausibleMin ++ le16 d.plausibleMax ++ [d.period]) ∧
      replies (.channelRead r n 1#8) 1
        ([n, BitVec.ofNat 8 t.lock.code, packBits [t.oneMissedLatch, t.twoMissedLatch, t.rangeLatch, t.faultLatch,
            t.lastValue.isSome, t.lastTime.isSome, t.interrupted, s.channels.gate], t.rangeCount] ++
          le16 (t.lastValue.getD 0#16) ++ le32 (t.lastTime.getD 0#32) ++ le32 t.sum ++ le16 t.count)) ∧
    (∀ i v : Byte, 23 < i.toNat ∨ 1 < v.toNat → s.refuses (.channelRead r i v) r 1 .badField) ∧
    (∀ (a : Axis) (n : Byte), Axis.ofNum n.toNat = some a →
      let x := s.classifier.axes.get a
      replies (.classRead r 0#8 n) 6
        ([n] ++ le16 x.defn.hysteresis ++ [BitVec.ofNat 8 x.defn.defaultBand,
            BitVec.ofNat 8 x.defn.thresholds.length] ++ (x.defn.thresholds.map le16).flatten ++
          [packBits [x.frozen, x.value.isSome], BitVec.ofNat 8 x.candidate] ++ le16 (x.value.getD 0#16))) ∧
    (∀ n : Byte, replies (.classRead r 1#8 n) 6
      (Axis.all.map (fun a => BitVec.ofNat 8 (s.classifier.axes.get a).candidate) ++
        Axis.all.map (fun a => BitVec.ofNat 8 (s.classifier.adopted.get a)) ++
        [packBits (Axis.all.map (fun a => (s.classifier.axes.get a).frozen)),
          if s.classifier.dwell.isSome then 1#8 else 0#8] ++
        le16 (left s.classifier.dwell) ++ le32 s.classifier.adoptedAt ++
        [BitVec.ofNat 8 (30 * s.classifier.adopted.moisture + 5 * s.classifier.adopted.feed +
          s.classifier.adopted.slope)])) ∧
    (∀ v n : Byte, 1 < v.toNat ∨ v = 0#8 ∧ 3 < n.toNat → s.refuses (.classRead r v n) r 6 .badField) ∧
    (∀ (k : BankId) (cell side : Byte), cell.toNat ≤ 119 →
      let b : Byte := BitVec.ofNat 8 k.num
      (∀ x, (s.map.bank k).cell cell.toNat = some x →
        let flags := packBits [true, x.trialPermission, x.ownLlim.isSome, x.ownTlim.isSome, x.trim.isSome]
        let effective (n : Nat) : List Byte :=
          [cell, BitVec.ofNat 8 n, packBits (Setting.all.map (targetClamped s.mgmt.params (s.map.bank k) x n))] ++
            words (effectiveTarget s.mgmt.params (s.map.bank k) x n) ++
            le16 (BitVec.ofNat 16 ((s.map.bank k).lossLimit cell.toNat)) ++
            le16 (BitVec.ofNat 16 ((s.map.bank k).tailingsLimit cell.toNat))
        replies (.cellRead r b cell 0#8 side) 12
          ([cell, flags] ++ words x.targets.get ++ le16 (x.ownLlim.getD 0#16) ++ le16 (x.ownTlim.getD 0#16)) ∧
        (∀ t, x.trim = some t → replies (.cellRead r b cell 1#8 side) 12
          ([cell, flags] ++ words t.offsets.get ++ [BitVec.ofNat 8 t.kept])) ∧
        (x.trim = none → replies (.cellRead r b cell 1#8 side) 12 ([cell, flags] ++ List.replicate 11 0#8)) ∧
        (side.toNat ≤ 4 → replies (.cellRead r b cell 2#8 side) 12 (effective side.toNat)) ∧
        (side = 255#8 → replies (.cellRead r b cell 2#8 side) 12 (effective s.classifier.adopted.side))) ∧
      ((s.map.bank k).cell cell.toNat = none →
        replies (.cellRead r b cell 0#8 side) 12 ([cell, 0#8] ++ List.replicate 14 0#8) ∧
        replies (.cellRead r b cell 1#8 side) 12 ([cell, 0#8] ++ List.replicate 11 0#8) ∧
        (side.toNat ≤ 4 ∨ side = 255#8 → s.refuses (.cellRead r b cell 2#8 side) r 12 .conflict)) ∧
      (4 < side.toNat → side ≠ 255#8 → s.refuses (.cellRead r b cell 2#8 side) r 12 .badField)) ∧
    (∀ b cell v side : Byte, 1 < b.toNat ∨ 119 < cell.toNat ∨ 2 < v.toNat →
      s.refuses (.cellRead r b cell v side) r 12 .badField) ∧
    (∀ (k : BankId),
      let b : Byte := BitVec.ofNat 8 k.num
      let x := s.map.bank k
      replies (.bankRead r b 0#8) 13
        ([b, packBits [decide (k = s.map.active), x.valid]] ++ le16 x.label ++ le16 x.llim ++ le16 x.tlim ++
          [BitVec.ofNat 8 x.writtenCount, BitVec.ofNat 8 x.trimCount, BitVec.ofNat 8 x.plan.length]) ∧
      replies (.bankRead r b 1#8) 13
        ([b, BitVec.ofNat 8 x.plan.length] ++ (x.plan.map (fun p => le16 (wordOfStep p))).flatten) ∧
      replies (.bankRead r b 2#8) 13
        ([b] ++ ([0, 1, 2, 3, 4].map (fun n => le16 (x.sideTrims.get n).fan ++ le16 (x.sideTrims.get n).upper)).flatten)) ∧
    (∀ b v : Byte, 1 < b.toNat ∨ 2 < v.toNat → s.refuses (.bankRead r b v) r 13 .badField) ∧
    (∀ (st : Setting),
      let n : Byte := BitVec.ofNat 8 st.num
      let m := s.record st
      replies (.moveRead r n) 21
        ([n, BitVec.ofNat 8 m.state.code, m.tag.setWidth 8, packBits [m.goal.isSome, m.deferred.isSome, m.resendUsed,
            m.lastActual.isSome, m.manual, m.limited, m.goal.any (fun g => decide (g.source = .guard)), s.groupHeld st]] ++
          le16 ((m.goal.map Goal.value).getD 0#16) ++ le16 (m.leg.getD 0#16) ++ le16 (m.deferred.getD 0#16) ++
          le16 (m.lastActual.getD 0#16) ++ [BitVec.ofNat 8 m.tracking.code,
            packBits [m.flagMoving, m.flagAtLimit, m.leg.isSome], BitVec.ofNat 8 m.cause.code] ++
          le16 (s.moves.stale.get st) ++ le16 s.moves.unmatched)) ∧
    (∀ n : Byte, 4 < n.toNat → s.refuses (.moveRead r n) r 21 .badField) ∧
    (let g := s.regulator
     replies (.regulatorRead r) 23
      ([BitVec.ofNat 8 g.state.code,
          match g.safeCause with | none => 0#8 | some .guard => 1#8 | some .ownerLoss => 2#8,
          match g.window with | none => 0#8 | some (.a, _) => 1#8 | some (.b, _) => 2#8] ++
        le16 (left (g.window.map Prod.snd)) ++
        [BitVec.ofNat 8 g.cursor, packBits [g.exhausted, g.baseline.isSome, g.trial.isSome, g.last.isSome] |||
          (BitVec.ofNat 8 ((g.last.map WindowResult.voidCause).getD 0) <<< 4)] ++
        (match g.trial with
         | some x => [BitVec.ofNat 8 x.setting.num] ++ le16 (x.amount.signExtend 16) ++ le16 x.target
         | none => List.replicate 5 0#8) ++
        le16 ((g.baseline.map WindowResult.s).getD 0#16) ++
        (match g.last with
         | some x => [BitVec.ofNat 8 x.outcome.code] ++ le16 x.l ++ le16 x.t ++ le16 x.s
         | none => List.replicate 7 0#8))) ∧
    (∀ n : Byte,
      let a := s.guards
      ∃ pending masked active armed : Word16,
        (∀ k, pending.getLsbD k = true ↔ ∃ n : Fin 12, n.val = k ∧ (a.guard n).state = .pending) ∧
        (∀ k, masked.getLsbD k = true ↔ ∃ n : Fin 12, n.val = k ∧ (a.guard n).config.masked = true) ∧
        (∀ k, active.getLsbD k = true ↔ ∃ n : Fin 12, n.val = k ∧ (a.guard n).condition = true) ∧
        (∀ k, armed.getLsbD k = true ↔ ∃ n : Fin 12, n.val = k ∧ (a.guard n).armed = true) ∧
        replies (.guardPeek r 0#8 n) 29
          (le16 pending ++ le16 masked ++ le16 active ++ le16 armed ++
            [BitVec.ofNat 8 a.floor, BitVec.ofNat 8 a.effective.code, BitVec.ofNat 8 a.stack.length] ++
            ((a.stack.map (fun k => BitVec.ofNat 8 k.val)) ++ List.replicate 8 255#8).take 8)) ∧
    (∀ n : Fin 12,
      let a := s.guards
      let g := a.guard n
      let dwells := n = 0 ∧ a.slipDrum ≠ none ∨ n = 3 ∧ a.slipFan ≠ none
      let k : Byte := BitVec.ofNat 8 n.val
      let view (place : Nat) (slip : Bool) : Prop := replies (.guardPeek r 1#8 k) 29
        ([k, BitVec.ofNat 8 g.config.priority,
          packBits [g.config.masked, g.config.edge, g.config.auto, g.condition, g.armed, slip],
          BitVec.ofNat 8 g.config.action.code, g.config.clearDwell, BitVec.ofNat 8 g.state.code,
          BitVec.ofNat 8 place] ++ le16 (left g.clearTimer))
      (∀ p, a.stack[p]? = some n → (∀ q, q < p → a.stack[q]? ≠ some n) → (dwells → view p true) ∧ (¬ dwells → view p false)) ∧
      (n ∉ a.stack → (dwells → view 255 true) ∧ (¬ dwells → view 255 false))) ∧
    (∀ v n : Byte, 1 < v.toNat ∨ v = 1#8 ∧ 11 < n.toNat → s.refuses (.guardPeek r v n) r 29 .badField) ∧
    (let u := s.safe.substitute
     replies (.substituteRead r) 34
      ([packBits [u.loaded, s.safe.beatRunning, s.pins.safeOut] |||
          ((match s.regulator.safeCause with | none => 0#8 | some .guard => 1#8 | some .ownerLoss => 2#8 : Byte) <<< 3),
        packBits (Setting.all.map (fun st => (u.values.get st).isSome))] ++
        words (fun st => (u.values.get st).getD 0#16) ++ le16 (BitVec.ofNat 16 (s.mgmt.params.item 40)) ++
        le16 (if s.safe.beatRunning then s.safe.beatCount else 0#16))) ∧
    (∀ k : Fin 43,
      let n : Byte := BitVec.ofNat 8 k.val
      replies (.paramRead r 0#8 n) 38 (n :: le16 (s.mgmt.params.items.get k)) ∧
      replies (.paramRead r 1#8 n) 38 (n :: le16 (s.mgmt.pendingParams.items.get k))) ∧
    (∀ n : Byte, replies (.paramRead r 2#8 n) 38
      (Setting.all.map (fun st => [((s.moves.roster.get st).station).getD 255#8, (s.moves.roster.get st).period])).flatten) ∧
    (∀ v n : Byte, 2 < v.toNat ∨ v.toNat < 2 ∧ 42 < n.toNat → s.refuses (.paramRead r v n) r 38 .badField)
end

