-- ==== Sys2Proof/Laws/State.lean ====
section
/-! SUPPORT. One lemma for each field and each replacement of a block, so that no proof unfolds a record update;
and in which condition a reset finds a store. -/

namespace Sys2Proof.Machine.State

variable (s : State)

@[simp] theorem withPartTime_partTime (x : Word32) : (s.withPartTime x).partTime = x := rfl
@[simp] theorem withPartTime_pins (x : Word32) : (s.withPartTime x).pins = s.pins := rfl
@[simp] theorem withPartTime_link (x : Word32) : (s.withPartTime x).link = s.link := rfl
@[simp] theorem withPartTime_channels (x : Word32) : (s.withPartTime x).channels = s.channels := rfl
@[simp] theorem withPartTime_classifier (x : Word32) : (s.withPartTime x).classifier = s.classifier := rfl
@[simp] theorem withPartTime_map (x : Word32) : (s.withPartTime x).map = s.map := rfl
@[simp] theorem withPartTime_moves (x : Word32) : (s.withPartTime x).moves = s.moves := rfl
@[simp] theorem withPartTime_regulator (x : Word32) : (s.withPartTime x).regulator = s.regulator := rfl
@[simp] theorem withPartTime_guards (x : Word32) : (s.withPartTime x).guards = s.guards := rfl
@[simp] theorem withPartTime_safe (x : Word32) : (s.withPartTime x).safe = s.safe := rfl
@[simp] theorem withPartTime_mgmt (x : Word32) : (s.withPartTime x).mgmt = s.mgmt := rfl
@[simp] theorem withPartTime_notices (x : Word32) : (s.withPartTime x).notices = s.notices := rfl
@[simp] theorem withPartTime_pictures (x : Word32) : (s.withPartTime x).pictures = s.pictures := rfl
@[simp] theorem withPartTime_store (x : Word32) : (s.withPartTime x).store = s.store := rfl
@[simp] theorem withPartTime_keep (x : Word32) : (s.withPartTime x).keep = s.keep := rfl
@[simp] theorem withPartTime_order (x : Word32) : (s.withPartTime x).order = s.order := rfl
@[simp] theorem withPartTime_pending (x : Word32) : (s.withPartTime x).pending = s.pending := rfl

@[simp] theorem withPins_partTime (x : Pins) : (s.withPins x).partTime = s.partTime := rfl
@[simp] theorem withPins_pins (x : Pins) : (s.withPins x).pins = x := rfl
@[simp] theorem withPins_link (x : Pins) : (s.withPins x).link = s.link := rfl
@[simp] theorem withPins_channels (x : Pins) : (s.withPins x).channels = s.channels := rfl
@[simp] theorem withPins_classifier (x : Pins) : (s.withPins x).classifier = s.classifier := rfl
@[simp] theorem withPins_map (x : Pins) : (s.withPins x).map = s.map := rfl
@[simp] theorem withPins_moves (x : Pins) : (s.withPins x).moves = s.moves := rfl
@[simp] theorem withPins_regulator (x : Pins) : (s.withPins x).regulator = s.regulator := rfl
@[simp] theorem withPins_guards (x : Pins) : (s.withPins x).guards = s.guards := rfl
@[simp] theorem withPins_safe (x : Pins) : (s.withPins x).safe = s.safe := rfl
@[simp] theorem withPins_mgmt (x : Pins) : (s.withPins x).mgmt = s.mgmt := rfl
@[simp] theorem withPins_notices (x : Pins) : (s.withPins x).notices = s.notices := rfl
@[simp] theorem withPins_pictures (x : Pins) : (s.withPins x).pictures = s.pictures := rfl
@[simp] theorem withPins_store (x : Pins) : (s.withPins x).store = s.store := rfl
@[simp] theorem withPins_keep (x : Pins) : (s.withPins x).keep = s.keep := rfl
@[simp] theorem withPins_order (x : Pins) : (s.withPins x).order = s.order := rfl
@[simp] theorem withPins_pending (x : Pins) : (s.withPins x).pending = s.pending := rfl

@[simp] theorem withLink_partTime (x : Link) : (s.withLink x).partTime = s.partTime := rfl
@[simp] theorem withLink_pins (x : Link) : (s.withLink x).pins = s.pins := rfl
@[simp] theorem withLink_link (x : Link) : (s.withLink x).link = x := rfl
@[simp] theorem withLink_channels (x : Link) : (s.withLink x).channels = s.channels := rfl
@[simp] theorem withLink_classifier (x : Link) : (s.withLink x).classifier = s.classifier := rfl
@[simp] theorem withLink_map (x : Link) : (s.withLink x).map = s.map := rfl
@[simp] theorem withLink_moves (x : Link) : (s.withLink x).moves = s.moves := rfl
@[simp] theorem withLink_regulator (x : Link) : (s.withLink x).regulator = s.regulator := rfl
@[simp] theorem withLink_guards (x : Link) : (s.withLink x).guards = s.guards := rfl
@[simp] theorem withLink_safe (x : Link) : (s.withLink x).safe = s.safe := rfl
@[simp] theorem withLink_mgmt (x : Link) : (s.withLink x).mgmt = s.mgmt := rfl
@[simp] theorem withLink_notices (x : Link) : (s.withLink x).notices = s.notices := rfl
@[simp] theorem withLink_pictures (x : Link) : (s.withLink x).pictures = s.pictures := rfl
@[simp] theorem withLink_store (x : Link) : (s.withLink x).store = s.store := rfl
@[simp] theorem withLink_keep (x : Link) : (s.withLink x).keep = s.keep := rfl
@[simp] theorem withLink_order (x : Link) : (s.withLink x).order = s.order := rfl
@[simp] theorem withLink_pending (x : Link) : (s.withLink x).pending = s.pending := rfl

@[simp] theorem withChannels_partTime (x : ChannelUnit) : (s.withChannels x).partTime = s.partTime := rfl
@[simp] theorem withChannels_pins (x : ChannelUnit) : (s.withChannels x).pins = s.pins := rfl
@[simp] theorem withChannels_link (x : ChannelUnit) : (s.withChannels x).link = s.link := rfl
@[simp] theorem withChannels_channels (x : ChannelUnit) : (s.withChannels x).channels = x := rfl
@[simp] theorem withChannels_classifier (x : ChannelUnit) : (s.withChannels x).classifier = s.classifier := rfl
@[simp] theorem withChannels_map (x : ChannelUnit) : (s.withChannels x).map = s.map := rfl
@[simp] theorem withChannels_moves (x : ChannelUnit) : (s.withChannels x).moves = s.moves := rfl
@[simp] theorem withChannels_regulator (x : ChannelUnit) : (s.withChannels x).regulator = s.regulator := rfl
@[simp] theorem withChannels_guards (x : ChannelUnit) : (s.withChannels x).guards = s.guards := rfl
@[simp] theorem withChannels_safe (x : ChannelUnit) : (s.withChannels x).safe = s.safe := rfl
@[simp] theorem withChannels_mgmt (x : ChannelUnit) : (s.withChannels x).mgmt = s.mgmt := rfl
@[simp] theorem withChannels_notices (x : ChannelUnit) : (s.withChannels x).notices = s.notices := rfl
@[simp] theorem withChannels_pictures (x : ChannelUnit) : (s.withChannels x).pictures = s.pictures := rfl
@[simp] theorem withChannels_store (x : ChannelUnit) : (s.withChannels x).store = s.store := rfl
@[simp] theorem withChannels_keep (x : ChannelUnit) : (s.withChannels x).keep = s.keep := rfl
@[simp] theorem withChannels_order (x : ChannelUnit) : (s.withChannels x).order = s.order := rfl
@[simp] theorem withChannels_pending (x : ChannelUnit) : (s.withChannels x).pending = s.pending := rfl

@[simp] theorem withClassifier_partTime (x : Classifier) : (s.withClassifier x).partTime = s.partTime := rfl
@[simp] theorem withClassifier_pins (x : Classifier) : (s.withClassifier x).pins = s.pins := rfl
@[simp] theorem withClassifier_link (x : Classifier) : (s.withClassifier x).link = s.link := rfl
@[simp] theorem withClassifier_channels (x : Classifier) : (s.withClassifier x).channels = s.channels := rfl
@[simp] theorem withClassifier_classifier (x : Classifier) : (s.withClassifier x).classifier = x := rfl
@[simp] theorem withClassifier_map (x : Classifier) : (s.withClassifier x).map = s.map := rfl
@[simp] theorem withClassifier_moves (x : Classifier) : (s.withClassifier x).moves = s.moves := rfl
@[simp] theorem withClassifier_regulator (x : Classifier) : (s.withClassifier x).regulator = s.regulator := rfl
@[simp] theorem withClassifier_guards (x : Classifier) : (s.withClassifier x).guards = s.guards := rfl
@[simp] theorem withClassifier_safe (x : Classifier) : (s.withClassifier x).safe = s.safe := rfl
@[simp] theorem withClassifier_mgmt (x : Classifier) : (s.withClassifier x).mgmt = s.mgmt := rfl
@[simp] theorem withClassifier_notices (x : Classifier) : (s.withClassifier x).notices = s.notices := rfl
@[simp] theorem withClassifier_pictures (x : Classifier) : (s.withClassifier x).pictures = s.pictures := rfl
@[simp] theorem withClassifier_store (x : Classifier) : (s.withClassifier x).store = s.store := rfl
@[simp] theorem withClassifier_keep (x : Classifier) : (s.withClassifier x).keep = s.keep := rfl
@[simp] theorem withClassifier_order (x : Classifier) : (s.withClassifier x).order = s.order := rfl
@[simp] theorem withClassifier_pending (x : Classifier) : (s.withClassifier x).pending = s.pending := rfl

@[simp] theorem withMap_partTime (x : SettingMap) : (s.withMap x).partTime = s.partTime := rfl
@[simp] theorem withMap_pins (x : SettingMap) : (s.withMap x).pins = s.pins := rfl
@[simp] theorem withMap_link (x : SettingMap) : (s.withMap x).link = s.link := rfl
@[simp] theorem withMap_channels (x : SettingMap) : (s.withMap x).channels = s.channels := rfl
@[simp] theorem withMap_classifier (x : SettingMap) : (s.withMap x).classifier = s.classifier := rfl
@[simp] theorem withMap_map (x : SettingMap) : (s.withMap x).map = x := rfl
@[simp] theorem withMap_moves (x : SettingMap) : (s.withMap x).moves = s.moves := rfl
@[simp] theorem withMap_regulator (x : SettingMap) : (s.withMap x).regulator = s.regulator := rfl
@[simp] theorem withMap_guards (x : SettingMap) : (s.withMap x).guards = s.guards := rfl
@[simp] theorem withMap_safe (x : SettingMap) : (s.withMap x).safe = s.safe := rfl
@[simp] theorem withMap_mgmt (x : SettingMap) : (s.withMap x).mgmt = s.mgmt := rfl
@[simp] theorem withMap_notices (x : SettingMap) : (s.withMap x).notices = s.notices := rfl
@[simp] theorem withMap_pictures (x : SettingMap) : (s.withMap x).pictures = s.pictures := rfl
@[simp] theorem withMap_store (x : SettingMap) : (s.withMap x).store = s.store := rfl
@[simp] theorem withMap_keep (x : SettingMap) : (s.withMap x).keep = s.keep := rfl
@[simp] theorem withMap_order (x : SettingMap) : (s.withMap x).order = s.order := rfl
@[simp] theorem withMap_pending (x : SettingMap) : (s.withMap x).pending = s.pending := rfl

@[simp] theorem withMoves_partTime (x : MoveUnit) : (s.withMoves x).partTime = s.partTime := rfl
@[simp] theorem withMoves_pins (x : MoveUnit) : (s.withMoves x).pins = s.pins := rfl
@[simp] theorem withMoves_link (x : MoveUnit) : (s.withMoves x).link = s.link := rfl
@[simp] theorem withMoves_channels (x : MoveUnit) : (s.withMoves x).channels = s.channels := rfl
@[simp] theorem withMoves_classifier (x : MoveUnit) : (s.withMoves x).classifier = s.classifier := rfl
@[simp] theorem withMoves_map (x : MoveUnit) : (s.withMoves x).map = s.map := rfl
@[simp] theorem withMoves_moves (x : MoveUnit) : (s.withMoves x).moves = x := rfl
@[simp] theorem withMoves_regulator (x : MoveUnit) : (s.withMoves x).regulator = s.regulator := rfl
@[simp] theorem withMoves_guards (x : MoveUnit) : (s.withMoves x).guards = s.guards := rfl
@[simp] theorem withMoves_safe (x : MoveUnit) : (s.withMoves x).safe = s.safe := rfl
@[simp] theorem withMoves_mgmt (x : MoveUnit) : (s.withMoves x).mgmt = s.mgmt := rfl
@[simp] theorem withMoves_notices (x : MoveUnit) : (s.withMoves x).notices = s.notices := rfl
@[simp] theorem withMoves_pictures (x : MoveUnit) : (s.withMoves x).pictures = s.pictures := rfl
@[simp] theorem withMoves_store (x : MoveUnit) : (s.withMoves x).store = s.store := rfl
@[simp] theorem withMoves_keep (x : MoveUnit) : (s.withMoves x).keep = s.keep := rfl
@[simp] theorem withMoves_order (x : MoveUnit) : (s.withMoves x).order = s.order := rfl
@[simp] theorem withMoves_pending (x : MoveUnit) : (s.withMoves x).pending = s.pending := rfl

@[simp] theorem withRegulator_partTime (x : Regulator) : (s.withRegulator x).partTime = s.partTime := rfl
@[simp] theorem withRegulator_pins (x : Regulator) : (s.withRegulator x).pins = s.pins := rfl
@[simp] theorem withRegulator_link (x : Regulator) : (s.withRegulator x).link = s.link := rfl
@[simp] theorem withRegulator_channels (x : Regulator) : (s.withRegulator x).channels = s.channels := rfl
@[simp] theorem withRegulator_classifier (x : Regulator) : (s.withRegulator x).classifier = s.classifier := rfl
@[simp] theorem withRegulator_map (x : Regulator) : (s.withRegulator x).map = s.map := rfl
@[simp] theorem withRegulator_moves (x : Regulator) : (s.withRegulator x).moves = s.moves := rfl
@[simp] theorem withRegulator_regulator (x : Regulator) : (s.withRegulator x).regulator = x := rfl
@[simp] theorem withRegulator_guards (x : Regulator) : (s.withRegulator x).guards = s.guards := rfl
@[simp] theorem withRegulator_safe (x : Regulator) : (s.withRegulator x).safe = s.safe := rfl
@[simp] theorem withRegulator_mgmt (x : Regulator) : (s.withRegulator x).mgmt = s.mgmt := rfl
@[simp] theorem withRegulator_notices (x : Regulator) : (s.withRegulator x).notices = s.notices := rfl
@[simp] theorem withRegulator_pictures (x : Regulator) : (s.withRegulator x).pictures = s.pictures := rfl
@[simp] theorem withRegulator_store (x : Regulator) : (s.withRegulator x).store = s.store := rfl
@[simp] theorem withRegulator_keep (x : Regulator) : (s.withRegulator x).keep = s.keep := rfl
@[simp] theorem withRegulator_order (x : Regulator) : (s.withRegulator x).order = s.order := rfl
@[simp] theorem withRegulator_pending (x : Regulator) : (s.withRegulator x).pending = s.pending := rfl

@[simp] theorem withGuards_partTime (x : Arbiter) : (s.withGuards x).partTime = s.partTime := rfl
@[simp] theorem withGuards_pins (x : Arbiter) : (s.withGuards x).pins = s.pins := rfl
@[simp] theorem withGuards_link (x : Arbiter) : (s.withGuards x).link = s.link := rfl
@[simp] theorem withGuards_channels (x : Arbiter) : (s.withGuards x).channels = s.channels := rfl
@[simp] theorem withGuards_classifier (x : Arbiter) : (s.withGuards x).classifier = s.classifier := rfl
@[simp] theorem withGuards_map (x : Arbiter) : (s.withGuards x).map = s.map := rfl
@[simp] theorem withGuards_moves (x : Arbiter) : (s.withGuards x).moves = s.moves := rfl
@[simp] theorem withGuards_regulator (x : Arbiter) : (s.withGuards x).regulator = s.regulator := rfl
@[simp] theorem withGuards_guards (x : Arbiter) : (s.withGuards x).guards = x := rfl
@[simp] theorem withGuards_safe (x : Arbiter) : (s.withGuards x).safe = s.safe := rfl
@[simp] theorem withGuards_mgmt (x : Arbiter) : (s.withGuards x).mgmt = s.mgmt := rfl
@[simp] theorem withGuards_notices (x : Arbiter) : (s.withGuards x).notices = s.notices := rfl
@[simp] theorem withGuards_pictures (x : Arbiter) : (s.withGuards x).pictures = s.pictures := rfl
@[simp] theorem withGuards_store (x : Arbiter) : (s.withGuards x).store = s.store := rfl
@[simp] theorem withGuards_keep (x : Arbiter) : (s.withGuards x).keep = s.keep := rfl
@[simp] theorem withGuards_order (x : Arbiter) : (s.withGuards x).order = s.order := rfl
@[simp] theorem withGuards_pending (x : Arbiter) : (s.withGuards x).pending = s.pending := rfl

@[simp] theorem withSafe_partTime (x : SafeBlock) : (s.withSafe x).partTime = s.partTime := rfl
@[simp] theorem withSafe_pins (x : SafeBlock) : (s.withSafe x).pins = s.pins := rfl
@[simp] theorem withSafe_link (x : SafeBlock) : (s.withSafe x).link = s.link := rfl
@[simp] theorem withSafe_channels (x : SafeBlock) : (s.withSafe x).channels = s.channels := rfl
@[simp] theorem withSafe_classifier (x : SafeBlock) : (s.withSafe x).classifier = s.classifier := rfl
@[simp] theorem withSafe_map (x : SafeBlock) : (s.withSafe x).map = s.map := rfl
@[simp] theorem withSafe_moves (x : SafeBlock) : (s.withSafe x).moves = s.moves := rfl
@[simp] theorem withSafe_regulator (x : SafeBlock) : (s.withSafe x).regulator = s.regulator := rfl
@[simp] theorem withSafe_guards (x : SafeBlock) : (s.withSafe x).guards = s.guards := rfl
@[simp] theorem withSafe_safe (x : SafeBlock) : (s.withSafe x).safe = x := rfl
@[simp] theorem withSafe_mgmt (x : SafeBlock) : (s.withSafe x).mgmt = s.mgmt := rfl
@[simp] theorem withSafe_notices (x : SafeBlock) : (s.withSafe x).notices = s.notices := rfl
@[simp] theorem withSafe_pictures (x : SafeBlock) : (s.withSafe x).pictures = s.pictures := rfl
@[simp] theorem withSafe_store (x : SafeBlock) : (s.withSafe x).store = s.store := rfl
@[simp] theorem withSafe_keep (x : SafeBlock) : (s.withSafe x).keep = s.keep := rfl
@[simp] theorem withSafe_order (x : SafeBlock) : (s.withSafe x).order = s.order := rfl
@[simp] theorem withSafe_pending (x : SafeBlock) : (s.withSafe x).pending = s.pending := rfl

@[simp] theorem withMgmt_partTime (x : Mgmt) : (s.withMgmt x).partTime = s.partTime := rfl
@[simp] theorem withMgmt_pins (x : Mgmt) : (s.withMgmt x).pins = s.pins := rfl
@[simp] theorem withMgmt_link (x : Mgmt) : (s.withMgmt x).link = s.link := rfl
@[simp] theorem withMgmt_channels (x : Mgmt) : (s.withMgmt x).channels = s.channels := rfl
@[simp] theorem withMgmt_classifier (x : Mgmt) : (s.withMgmt x).classifier = s.classifier := rfl
@[simp] theorem withMgmt_map (x : Mgmt) : (s.withMgmt x).map = s.map := rfl
@[simp] theorem withMgmt_moves (x : Mgmt) : (s.withMgmt x).moves = s.moves := rfl
@[simp] theorem withMgmt_regulator (x : Mgmt) : (s.withMgmt x).regulator = s.regulator := rfl
@[simp] theorem withMgmt_guards (x : Mgmt) : (s.withMgmt x).guards = s.guards := rfl
@[simp] theorem withMgmt_safe (x : Mgmt) : (s.withMgmt x).safe = s.safe := rfl
@[simp] theorem withMgmt_mgmt (x : Mgmt) : (s.withMgmt x).mgmt = x := rfl
@[simp] theorem withMgmt_notices (x : Mgmt) : (s.withMgmt x).notices = s.notices := rfl
@[simp] theorem withMgmt_pictures (x : Mgmt) : (s.withMgmt x).pictures = s.pictures := rfl
@[simp] theorem withMgmt_store (x : Mgmt) : (s.withMgmt x).store = s.store := rfl
@[simp] theorem withMgmt_keep (x : Mgmt) : (s.withMgmt x).keep = s.keep := rfl
@[simp] theorem withMgmt_order (x : Mgmt) : (s.withMgmt x).order = s.order := rfl
@[simp] theorem withMgmt_pending (x : Mgmt) : (s.withMgmt x).pending = s.pending := rfl

@[simp] theorem withNotices_partTime (x : NoticeUnit) : (s.withNotices x).partTime = s.partTime := rfl
@[simp] theorem withNotices_pins (x : NoticeUnit) : (s.withNotices x).pins = s.pins := rfl
@[simp] theorem withNotices_link (x : NoticeUnit) : (s.withNotices x).link = s.link := rfl
@[simp] theorem withNotices_channels (x : NoticeUnit) : (s.withNotices x).channels = s.channels := rfl
@[simp] theorem withNotices_classifier (x : NoticeUnit) : (s.withNotices x).classifier = s.classifier := rfl
@[simp] theorem withNotices_map (x : NoticeUnit) : (s.withNotices x).map = s.map := rfl
@[simp] theorem withNotices_moves (x : NoticeUnit) : (s.withNotices x).moves = s.moves := rfl
@[simp] theorem withNotices_regulator (x : NoticeUnit) : (s.withNotices x).regulator = s.regulator := rfl
@[simp] theorem withNotices_guards (x : NoticeUnit) : (s.withNotices x).guards = s.guards := rfl
@[simp] theorem withNotices_safe (x : NoticeUnit) : (s.withNotices x).safe = s.safe := rfl
@[simp] theorem withNotices_mgmt (x : NoticeUnit) : (s.withNotices x).mgmt = s.mgmt := rfl
@[simp] theorem withNotices_notices (x : NoticeUnit) : (s.withNotices x).notices = x := rfl
@[simp] theorem withNotices_pictures (x : NoticeUnit) : (s.withNotices x).pictures = s.pictures := rfl
@[simp] theorem withNotices_store (x : NoticeUnit) : (s.withNotices x).store = s.store := rfl
@[simp] theorem withNotices_keep (x : NoticeUnit) : (s.withNotices x).keep = s.keep := rfl
@[simp] theorem withNotices_order (x : NoticeUnit) : (s.withNotices x).order = s.order := rfl
@[simp] theorem withNotices_pending (x : NoticeUnit) : (s.withNotices x).pending = s.pending := rfl

@[simp] theorem withPictures_partTime (x : PictureUnit) : (s.withPictures x).partTime = s.partTime := rfl
@[simp] theorem withPictures_pins (x : PictureUnit) : (s.withPictures x).pins = s.pins := rfl
@[simp] theorem withPictures_link (x : PictureUnit) : (s.withPictures x).link = s.link := rfl
@[simp] theorem withPictures_channels (x : PictureUnit) : (s.withPictures x).channels = s.channels := rfl
@[simp] theorem withPictures_classifier (x : PictureUnit) : (s.withPictures x).classifier = s.classifier := rfl
@[simp] theorem withPictures_map (x : PictureUnit) : (s.withPictures x).map = s.map := rfl
@[simp] theorem withPictures_moves (x : PictureUnit) : (s.withPictures x).moves = s.moves := rfl
@[simp] theorem withPictures_regulator (x : PictureUnit) : (s.withPictures x).regulator = s.regulator := rfl
@[simp] theorem withPictures_guards (x : PictureUnit) : (s.withPictures x).guards = s.guards := rfl
@[simp] theorem withPictures_safe (x : PictureUnit) : (s.withPictures x).safe = s.safe := rfl
@[simp] theorem withPictures_mgmt (x : PictureUnit) : (s.withPictures x).mgmt = s.mgmt := rfl
@[simp] theorem withPictures_notices (x : PictureUnit) : (s.withPictures x).notices = s.notices := rfl
@[simp] theorem withPictures_pictures (x : PictureUnit) : (s.withPictures x).pictures = x := rfl
@[simp] theorem withPictures_store (x : PictureUnit) : (s.withPictures x).store = s.store := rfl
@[simp] theorem withPictures_keep (x : PictureUnit) : (s.withPictures x).keep = s.keep := rfl
@[simp] theorem withPictures_order (x : PictureUnit) : (s.withPictures x).order = s.order := rfl
@[simp] theorem withPictures_pending (x : PictureUnit) : (s.withPictures x).pending = s.pending := rfl

@[simp] theorem withStore_partTime (x : Store) : (s.withStore x).partTime = s.partTime := rfl
@[simp] theorem withStore_pins (x : Store) : (s.withStore x).pins = s.pins := rfl
@[simp] theorem withStore_link (x : Store) : (s.withStore x).link = s.link := rfl
@[simp] theorem withStore_channels (x : Store) : (s.withStore x).channels = s.channels := rfl
@[simp] theorem withStore_classifier (x : Store) : (s.withStore x).classifier = s.classifier := rfl
@[simp] theorem withStore_map (x : Store) : (s.withStore x).map = s.map := rfl
@[simp] theorem withStore_moves (x : Store) : (s.withStore x).moves = s.moves := rfl
@[simp] theorem withStore_regulator (x : Store) : (s.withStore x).regulator = s.regulator := rfl
@[simp] theorem withStore_guards (x : Store) : (s.withStore x).guards = s.guards := rfl
@[simp] theorem withStore_safe (x : Store) : (s.withStore x).safe = s.safe := rfl
@[simp] theorem withStore_mgmt (x : Store) : (s.withStore x).mgmt = s.mgmt := rfl
@[simp] theorem withStore_notices (x : Store) : (s.withStore x).notices = s.notices := rfl
@[simp] theorem withStore_pictures (x : Store) : (s.withStore x).pictures = s.pictures := rfl
@[simp] theorem withStore_store (x : Store) : (s.withStore x).store = x := rfl
@[simp] theorem withStore_keep (x : Store) : (s.withStore x).keep = s.keep := rfl
@[simp] theorem withStore_order (x : Store) : (s.withStore x).order = s.order := rfl
@[simp] theorem withStore_pending (x : Store) : (s.withStore x).pending = s.pending := rfl

@[simp] theorem withKeep_partTime (x : Option Keep) : (s.withKeep x).partTime = s.partTime := rfl
@[simp] theorem withKeep_pins (x : Option Keep) : (s.withKeep x).pins = s.pins := rfl
@[simp] theorem withKeep_link (x : Option Keep) : (s.withKeep x).link = s.link := rfl
@[simp] theorem withKeep_channels (x : Option Keep) : (s.withKeep x).channels = s.channels := rfl
@[simp] theorem withKeep_classifier (x : Option Keep) : (s.withKeep x).classifier = s.classifier := rfl
@[simp] theorem withKeep_map (x : Option Keep) : (s.withKeep x).map = s.map := rfl
@[simp] theorem withKeep_moves (x : Option Keep) : (s.withKeep x).moves = s.moves := rfl
@[simp] theorem withKeep_regulator (x : Option Keep) : (s.withKeep x).regulator = s.regulator := rfl
@[simp] theorem withKeep_guards (x : Option Keep) : (s.withKeep x).guards = s.guards := rfl
@[simp] theorem withKeep_safe (x : Option Keep) : (s.withKeep x).safe = s.safe := rfl
@[simp] theorem withKeep_mgmt (x : Option Keep) : (s.withKeep x).mgmt = s.mgmt := rfl
@[simp] theorem withKeep_notices (x : Option Keep) : (s.withKeep x).notices = s.notices := rfl
@[simp] theorem withKeep_pictures (x : Option Keep) : (s.withKeep x).pictures = s.pictures := rfl
@[simp] theorem withKeep_store (x : Option Keep) : (s.withKeep x).store = s.store := rfl
@[simp] theorem withKeep_keep (x : Option Keep) : (s.withKeep x).keep = x := rfl
@[simp] theorem withKeep_order (x : Option Keep) : (s.withKeep x).order = s.order := rfl
@[simp] theorem withKeep_pending (x : Option Keep) : (s.withKeep x).pending = s.pending := rfl

@[simp] theorem withOrder_partTime (x : List Nat) : (s.withOrder x).partTime = s.partTime := rfl
@[simp] theorem withOrder_pins (x : List Nat) : (s.withOrder x).pins = s.pins := rfl
@[simp] theorem withOrder_link (x : List Nat) : (s.withOrder x).link = s.link := rfl
@[simp] theorem withOrder_channels (x : List Nat) : (s.withOrder x).channels = s.channels := rfl
@[simp] theorem withOrder_classifier (x : List Nat) : (s.withOrder x).classifier = s.classifier := rfl
@[simp] theorem withOrder_map (x : List Nat) : (s.withOrder x).map = s.map := rfl
@[simp] theorem withOrder_moves (x : List Nat) : (s.withOrder x).moves = s.moves := rfl
@[simp] theorem withOrder_regulator (x : List Nat) : (s.withOrder x).regulator = s.regulator := rfl
@[simp] theorem withOrder_guards (x : List Nat) : (s.withOrder x).guards = s.guards := rfl
@[simp] theorem withOrder_safe (x : List Nat) : (s.withOrder x).safe = s.safe := rfl
@[simp] theorem withOrder_mgmt (x : List Nat) : (s.withOrder x).mgmt = s.mgmt := rfl
@[simp] theorem withOrder_notices (x : List Nat) : (s.withOrder x).notices = s.notices := rfl
@[simp] theorem withOrder_pictures (x : List Nat) : (s.withOrder x).pictures = s.pictures := rfl
@[simp] theorem withOrder_store (x : List Nat) : (s.withOrder x).store = s.store := rfl
@[simp] theorem withOrder_keep (x : List Nat) : (s.withOrder x).keep = s.keep := rfl
@[simp] theorem withOrder_order (x : List Nat) : (s.withOrder x).order = x := rfl
@[simp] theorem withOrder_pending (x : List Nat) : (s.withOrder x).pending = s.pending := rfl

@[simp] theorem withPending_partTime (x : List Instr) : (s.withPending x).partTime = s.partTime := rfl
@[simp] theorem withPending_pins (x : List Instr) : (s.withPending x).pins = s.pins := rfl
@[simp] theorem withPending_link (x : List Instr) : (s.withPending x).link = s.link := rfl
@[simp] theorem withPending_channels (x : List Instr) : (s.withPending x).channels = s.channels := rfl
@[simp] theorem withPending_classifier (x : List Instr) : (s.withPending x).classifier = s.classifier := rfl
@[simp] theorem withPending_map (x : List Instr) : (s.withPending x).map = s.map := rfl
@[simp] theorem withPending_moves (x : List Instr) : (s.withPending x).moves = s.moves := rfl
@[simp] theorem withPending_regulator (x : List Instr) : (s.withPending x).regulator = s.regulator := rfl
@[simp] theorem withPending_guards (x : List Instr) : (s.withPending x).guards = s.guards := rfl
@[simp] theorem withPending_safe (x : List Instr) : (s.withPending x).safe = s.safe := rfl
@[simp] theorem withPending_mgmt (x : List Instr) : (s.withPending x).mgmt = s.mgmt := rfl
@[simp] theorem withPending_notices (x : List Instr) : (s.withPending x).notices = s.notices := rfl
@[simp] theorem withPending_pictures (x : List Instr) : (s.withPending x).pictures = s.pictures := rfl
@[simp] theorem withPending_store (x : List Instr) : (s.withPending x).store = s.store := rfl
@[simp] theorem withPending_keep (x : List Instr) : (s.withPending x).keep = s.keep := rfl
@[simp] theorem withPending_order (x : List Instr) : (s.withPending x).order = s.order := rfl
@[simp] theorem withPending_pending (x : List Instr) : (s.withPending x).pending = x := rfl

end Sys2Proof.Machine.State

namespace Sys2Proof.Machine

/-- An image written whole is found valid (R202, R203). -/
@[simp] theorem Store.found_written (i : Image) : (Store.written i).found = .valid i := by
  simp [Store.found, Store.written]

/-- The store as delivered is found blank (R202). -/
@[simp] theorem Store.found_delivered : Store.delivered.found = .blank := rfl

end Sys2Proof.Machine
end

