-- ==== Sys2Proof/Laws/Frames.lean ====
section
/-! SUPPORT. What an operation leaves unchanged: the algebra of `OnlyTouches`, and the orders of
handings (`mergeChains`, `interleave`). -/

namespace Sys2Proof.Machine

variable {T U : List Block} {s t u : State}

namespace OnlyTouches

theorem refl (T : List Block) (s : State) : OnlyTouches T s s := by
  constructor <;> intro _ <;> rfl

theorem trans (h : OnlyTouches T s t) (k : OnlyTouches T t u) : OnlyTouches T s u := by
  constructor <;> intro hn
  · exact (k.partTime hn).trans (h.partTime hn)
  · exact (k.pins hn).trans (h.pins hn)
  · exact (k.link hn).trans (h.link hn)
  · exact (k.channels hn).trans (h.channels hn)
  · exact (k.classifier hn).trans (h.classifier hn)
  · exact (k.map hn).trans (h.map hn)
  · exact (k.moves hn).trans (h.moves hn)
  · exact (k.regulator hn).trans (h.regulator hn)
  · exact (k.guards hn).trans (h.guards hn)
  · exact (k.safe hn).trans (h.safe hn)
  · exact (k.mgmt hn).trans (h.mgmt hn)
  · exact (k.notices hn).trans (h.notices hn)
  · exact (k.pictures hn).trans (h.pictures hn)
  · exact (k.store hn).trans (h.store hn)
  · exact (k.keep hn).trans (h.keep hn)
  · exact (k.order hn).trans (h.order hn)
  · exact (k.pending hn).trans (h.pending hn)

theorem mono (h : OnlyTouches T s t) (hs : T ⊆ U) : OnlyTouches U s t := by
  constructor <;> intro hn
  · exact h.partTime (fun hm => hn (hs hm))
  · exact h.pins (fun hm => hn (hs hm))
  · exact h.link (fun hm => hn (hs hm))
  · exact h.channels (fun hm => hn (hs hm))
  · exact h.classifier (fun hm => hn (hs hm))
  · exact h.map (fun hm => hn (hs hm))
  · exact h.moves (fun hm => hn (hs hm))
  · exact h.regulator (fun hm => hn (hs hm))
  · exact h.guards (fun hm => hn (hs hm))
  · exact h.safe (fun hm => hn (hs hm))
  · exact h.mgmt (fun hm => hn (hs hm))
  · exact h.notices (fun hm => hn (hs hm))
  · exact h.pictures (fun hm => hn (hs hm))
  · exact h.store (fun hm => hn (hs hm))
  · exact h.keep (fun hm => hn (hs hm))
  · exact h.order (fun hm => hn (hs hm))
  · exact h.pending (fun hm => hn (hs hm))

end OnlyTouches

/-! ### One field replaced -/

theorem touches_withPartTime (hm : Block.partTime ∈ T) (h : OnlyTouches T s t) (x : Word32) :
    OnlyTouches T s (t.withPartTime x) := by
  refine h.trans ?_
  constructor <;> intro hn
  · exact absurd hm hn
  · rfl
  · rfl
  · rfl
  · rfl
  · rfl
  · rfl
  · rfl
  · rfl
  · rfl
  · rfl
  · rfl
  · rfl
  · rfl
  · rfl
  · rfl
  · rfl

theorem touches_withPins (hm : Block.pins ∈ T) (h : OnlyTouches T s t) (x : Pins) :
    OnlyTouches T s (t.withPins x) := by
  refine h.trans ?_
  constructor <;> intro hn
  · rfl
  · exact absurd hm hn
  · rfl
  · rfl
  · rfl
  · rfl
  · rfl
  · rfl
  · rfl
  · rfl
  · rfl
  · rfl
  · rfl
  · rfl
  · rfl
  · rfl
  · rfl

theorem touches_withLink (hm : Block.link ∈ T) (h : OnlyTouches T s t) (x : Link) :
    OnlyTouches T s (t.withLink x) := by
  refine h.trans ?_
  constructor <;> intro hn
  · rfl
  · rfl
  · exact absurd hm hn
  · rfl
  · rfl
  · rfl
  · rfl
  · rfl
  · rfl
  · rfl
  · rfl
  · rfl
  · rfl
  · rfl
  · rfl
  · rfl
  · rfl

theorem touches_withChannels (hm : Block.channels ∈ T) (h : OnlyTouches T s t) (x : ChannelUnit) :
    OnlyTouches T s (t.withChannels x) := by
  refine h.trans ?_
  constructor <;> intro hn
  · rfl
  · rfl
  · rfl
  · exact absurd hm hn
  · rfl
  · rfl
  · rfl
  · rfl
  · rfl
  · rfl
  · rfl
  · rfl
  · rfl
  · rfl
  · rfl
  · rfl
  · rfl

theorem touches_withClassifier (hm : Block.classifier ∈ T) (h : OnlyTouches T s t) (x : Classifier) :
    OnlyTouches T s (t.withClassifier x) := by
  refine h.trans ?_
  constructor <;> intro hn
  · rfl
  · rfl
  · rfl
  · rfl
  · exact absurd hm hn
  · rfl
  · rfl
  · rfl
  · rfl
  · rfl
  · rfl
  · rfl
  · rfl
  · rfl
  · rfl
  · rfl
  · rfl

theorem touches_withMap (hm : Block.map ∈ T) (h : OnlyTouches T s t) (x : SettingMap) :
    OnlyTouches T s (t.withMap x) := by
  refine h.trans ?_
  constructor <;> intro hn
  · rfl
  · rfl
  · rfl
  · rfl
  · rfl
  · exact absurd hm hn
  · rfl
  · rfl
  · rfl
  · rfl
  · rfl
  · rfl
  · rfl
  · rfl
  · rfl
  · rfl
  · rfl

theorem touches_withMoves (hm : Block.moves ∈ T) (h : OnlyTouches T s t) (x : MoveUnit) :
    OnlyTouches T s (t.withMoves x) := by
  refine h.trans ?_
  constructor <;> intro hn
  · rfl
  · rfl
  · rfl
  · rfl
  · rfl
  · rfl
  · exact absurd hm hn
  · rfl
  · rfl
  · rfl
  · rfl
  · rfl
  · rfl
  · rfl
  · rfl
  · rfl
  · rfl

theorem touches_withRegulator (hm : Block.regulator ∈ T) (h : OnlyTouches T s t) (x : Regulator) :
    OnlyTouches T s (t.withRegulator x) := by
  refine h.trans ?_
  constructor <;> intro hn
  · rfl
  · rfl
  · rfl
  · rfl
  · rfl
  · rfl
  · rfl
  · exact absurd hm hn
  · rfl
  · rfl
  · rfl
  · rfl
  · rfl
  · rfl
  · rfl
  · rfl
  · rfl

theorem touches_withGuards (hm : Block.guards ∈ T) (h : OnlyTouches T s t) (x : Arbiter) :
    OnlyTouches T s (t.withGuards x) := by
  refine h.trans ?_
  constructor <;> intro hn
  · rfl
  · rfl
  · rfl
  · rfl
  · rfl
  · rfl
  · rfl
  · rfl
  · exact absurd hm hn
  · rfl
  · rfl
  · rfl
  · rfl
  · rfl
  · rfl
  · rfl
  · rfl

theorem touches_withSafe (hm : Block.safe ∈ T) (h : OnlyTouches T s t) (x : SafeBlock) :
    OnlyTouches T s (t.withSafe x) := by
  refine h.trans ?_
  constructor <;> intro hn
  · rfl
  · rfl
  · rfl
  · rfl
  · rfl
  · rfl
  · rfl
  · rfl
  · rfl
  · exact absurd hm hn
  · rfl
  · rfl
  · rfl
  · rfl
  · rfl
  · rfl
  · rfl

theorem touches_withMgmt (hm : Block.mgmt ∈ T) (h : OnlyTouches T s t) (x : Mgmt) :
    OnlyTouches T s (t.withMgmt x) := by
  refine h.trans ?_
  constructor <;> intro hn
  · rfl
  · rfl
  · rfl
  · rfl
  · rfl
  · rfl
  · rfl
  · rfl
  · rfl
  · rfl
  · exact absurd hm hn
  · rfl
  · rfl
  · rfl
  · rfl
  · rfl
  · rfl

theorem touches_withNotices (hm : Block.notices ∈ T) (h : OnlyTouches T s t) (x : NoticeUnit) :
    OnlyTouches T s (t.withNotices x) := by
  refine h.trans ?_
  constructor <;> intro hn
  · rfl
  · rfl
  · rfl
  · rfl
  · rfl
  · rfl
  · rfl
  · rfl
  · rfl
  · rfl
  · rfl
  · exact absurd hm hn
  · rfl
  · rfl
  · rfl
  · rfl
  · rfl

theorem touches_withPictures (hm : Block.pictures ∈ T) (h : OnlyTouches T s t) (x : PictureUnit) :
    OnlyTouches T s (t.withPictures x) := by
  refine h.trans ?_
  constructor <;> intro hn
  · rfl
  · rfl
  · rfl
  · rfl
  · rfl
  · rfl
  · rfl
  · rfl
  · rfl
  · rfl
  · rfl
  · rfl
  · exact absurd hm hn
  · rfl
  · rfl
  · rfl
  · rfl

theorem touches_withStore (hm : Block.store ∈ T) (h : OnlyTouches T s t) (x : Store) :
    OnlyTouches T s (t.withStore x) := by
  refine h.trans ?_
  constructor <;> intro hn
  · rfl
  · rfl
  · rfl
  · rfl
  · rfl
  · rfl
  · rfl
  · rfl
  · rfl
  · rfl
  · rfl
  · rfl
  · rfl
  · exact absurd hm hn
  · rfl
  · rfl
  · rfl

theorem touches_withKeep (hm : Block.keep ∈ T) (h : OnlyTouches T s t) (x : Option Keep) :
    OnlyTouches T s (t.withKeep x) := by
  refine h.trans ?_
  constructor <;> intro hn
  · rfl
  · rfl
  · rfl
  · rfl
  · rfl
  · rfl
  · rfl
  · rfl
  · rfl
  · rfl
  · rfl
  · rfl
  · rfl
  · rfl
  · exact absurd hm hn
  · rfl
  · rfl

theorem touches_withOrder (hm : Block.order ∈ T) (h : OnlyTouches T s t) (x : List Nat) :
    OnlyTouches T s (t.withOrder x) := by
  refine h.trans ?_
  constructor <;> intro hn
  · rfl
  · rfl
  · rfl
  · rfl
  · rfl
  · rfl
  · rfl
  · rfl
  · rfl
  · rfl
  · rfl
  · rfl
  · rfl
  · rfl
  · rfl
  · exact absurd hm hn
  · rfl

theorem touches_withPending (hm : Block.pending ∈ T) (h : OnlyTouches T s t) (x : List Instr) :
    OnlyTouches T s (t.withPending x) := by
  refine h.trans ?_
  constructor <;> intro hn
  · rfl
  · rfl
  · rfl
  · rfl
  · rfl
  · rfl
  · rfl
  · rfl
  · rfl
  · rfl
  · rfl
  · rfl
  · rfl
  · rfl
  · rfl
  · rfl
  · exact absurd hm hn

/-! ### Orders of handings -/

/-- Every merged element comes from one of the chains. -/
theorem mem_mergeChains {α : Type} {x : α} : ∀ (n : Nat) (cs : List Nat) (chains : List (List α)),
    x ∈ (mergeChains n cs chains).1 → ∃ c ∈ chains, x ∈ c := by
  intro n
  induction n with
  | zero => intro cs chains h; simp [mergeChains] at h
  | succ n ih =>
    intro cs chains h
    have key : ∀ c ∈ chains.filter (fun c => !c.isEmpty), c ∈ chains := fun c hc => (List.mem_filter.mp hc).1
    unfold mergeChains at h
    split at h
    · simp at h
    · rename_i c hc
      exact ⟨c, key c (by rw [hc]; simp), h⟩
    · rename_i several hne hs
      dsimp only at h
      split at h
      · rename_i y rest hget
        have hk := List.getElem?_eq_some_iff.mp hget
        obtain ⟨hlt, heq⟩ := hk
        have hmem : (y :: rest) ∈ chains := key _ (heq ▸ List.getElem_mem hlt)
        rcases List.mem_cons.mp h with rfl | h
        · exact ⟨_, hmem, by simp⟩
        · obtain ⟨c, hc, hx⟩ := ih _ _ h
          rcases List.mem_or_eq_of_mem_set hc with hc | rfl
          · exact ⟨c, key c hc, hx⟩
          · exact ⟨_, hmem, by simp [hx]⟩
      · simp at h

/-- Dropping empty chains drops no element. -/
theorem flatten_filter_nonempty {α : Type} (l : List (List α)) :
    (l.filter (fun c => !c.isEmpty)).flatten = l.flatten := by
  induction l with
  | nil => rfl
  | cons c cs ih => cases c <;> simp_all [List.filter]

/-- The head of one list moved to the front of the flattened lists. -/
theorem flatten_set_perm {α : Type} {x : α} {rest : List α} : ∀ (l : List (List α)) (k : Nat),
    l[k]? = some (x :: rest) → (x :: (l.set k rest).flatten).Perm l.flatten := by
  intro l
  induction l with
  | nil => intro k h; simp at h
  | cons c cs ih =>
    intro k h
    cases k with
    | zero => simp only [List.getElem?_cons_zero, Option.some.injEq] at h; subst h; simp
    | succ k =>
      have := ih k (by simpa using h)
      simp only [List.set_cons_succ, List.flatten_cons]
      exact (List.perm_middle.symm).trans (List.Perm.append_left c this)

/-- Every handing is done exactly once: a merge holds the chains' elements and no others. -/
theorem mergeChains_perm {α : Type} : ∀ (n : Nat) (cs : List Nat) (chains : List (List α)),
    chains.flatten.length ≤ n → (mergeChains n cs chains).1.Perm chains.flatten := by
  intro n
  induction n with
  | zero =>
    intro cs chains h
    have : chains.flatten = [] := List.eq_nil_of_length_eq_zero (Nat.le_zero.mp h)
    simp [mergeChains, this]
  | succ n ih =>
    intro cs chains h
    rw [← flatten_filter_nonempty chains] at h ⊢
    have hne : ∀ c ∈ chains.filter (fun c => !c.isEmpty), c ≠ [] := by
      intro c hc; have := (List.mem_filter.mp hc).2; intro he; simp [he] at this
    unfold mergeChains
    generalize chains.filter (fun c => !c.isEmpty) = l at h hne
    match l, h, hne with
    | [], _, _ => simp
    | [c], _, _ => simp
    | a :: b :: ds, h, hne =>
      dsimp only
      have hk : cs.headD 0 % (a :: b :: ds).length < (a :: b :: ds).length := Nat.mod_lt _ (by simp)
      generalize cs.headD 0 % (a :: b :: ds).length = k at hk
      have hget : (a :: b :: ds)[k]? = some (a :: b :: ds)[k] := List.getElem?_eq_getElem hk
      cases hx : (a :: b :: ds)[k] with
      | nil => exact absurd hx (hne _ (List.getElem_mem hk))
      | cons x rest =>
        rw [hx] at hget
        rw [hget]
        have hp := flatten_set_perm (a :: b :: ds) k hget
        refine List.Perm.trans (List.Perm.cons x (ih _ _ ?_)) hp
        have := hp.length_eq
        simp only [List.length_cons] at this
        omega
/-- What the handings keep, an interleaving of them keeps. -/
theorem interleave_keeps (P : State → Prop) (chains : List (List Handing)) (s : State)
    (start : ∀ o, P (s.withOrder o)) (keep : ∀ c ∈ chains, ∀ h ∈ c, ∀ t, P t → P (h t)) :
    P (interleave chains s) := by
  unfold interleave
  dsimp only
  have hall : ∀ h ∈ (mergeChains chains.flatten.length s.order chains).1, ∀ t, P t → P (h t) := by
    intro h hm t ht
    obtain ⟨c, hc, hx⟩ := mem_mergeChains _ _ _ hm
    exact keep c hc h hx t ht
  generalize (mergeChains chains.flatten.length s.order chains).1 = l at hall
  have : ∀ (l : List Handing) (t : State), (∀ h ∈ l, ∀ t, P t → P (h t)) → P t →
      P (l.foldl (fun t h => h t) t) := by
    intro l
    induction l with
    | nil => intro t _ ht; exact ht
    | cons h hs ih =>
      intro t hk ht
      exact ih (h t) (fun g hg => hk g (List.mem_cons_of_mem _ hg)) (hk h List.mem_cons_self t ht)
  exact this l _ hall (start _)

/-- An interleaving touches what its handings touch, and the order field. -/
theorem touches_interleave {chains : List (List Handing)} (hm : Block.order ∈ T) (h : OnlyTouches T s t)
    (keep : ∀ c ∈ chains, ∀ g ∈ c, ∀ t, OnlyTouches T s t → OnlyTouches T s (g t)) :
    OnlyTouches T s (interleave chains t) :=
  interleave_keeps (OnlyTouches T s) chains t (fun o => touches_withOrder hm h o) keep

/-- A fold of operations touches what each of them touches. -/
theorem touches_foldl {α : Type} {f : State → α → State} (l : List α) (h : OnlyTouches T s t)
    (keep : ∀ a ∈ l, ∀ t, OnlyTouches T s t → OnlyTouches T s (f t a)) :
    OnlyTouches T s (l.foldl f t) := by
  induction l generalizing t with
  | nil => exact h
  | cons a as ih =>
    exact ih (keep a List.mem_cons_self t h) (fun b hb => keep b (List.mem_cons_of_mem _ hb))

end Sys2Proof.Machine
end

