-- ==== Sys2Proof/Laws/Touches.lean ====
section
/-! SUPPORT. What each shared operation touches: one lemma for each, in the form that chains. -/

namespace Sys2Proof.Machine

variable {T : List Block} {s t : State}

/-- What a change of the classifier touches. -/
abbrev touchClass : List Block := .channels :: .classifier :: touchGuards

/-- What owner loss touches. -/
abbrev touchOwner : List Block := .safe :: .mgmt :: touchCycle

/-- What checking touches. -/
abbrev touchChecking : List Block := [.mgmt, .notices, .pins, .link, .pictures, .order]

/-- What the end of a frame touches. -/
abbrev touchFrame : List Block := .mgmt :: touchClass

/-- Every handing of every chain touches only the blocks listed. -/
abbrev Keeps (T : List Block) (s : State) (chains : List (List Handing)) : Prop :=
  ∀ c ∈ chains, ∀ g ∈ c, ∀ t, OnlyTouches T s t → OnlyTouches T s (g t)

/-- Chains that come from several lists. -/
theorem keeps_flatten {L : List (List (List Handing))} (h : ∀ l ∈ L, Keeps T s l) : Keeps T s L.flatten := by
  intro c hc
  obtain ⟨l, hl, hm⟩ := List.mem_flatten.mp hc
  exact h l hl c hm

/-- A block of a list is in every larger list. -/
theorem sub_mem {A : List Block} {b : Block} (hT : A ⊆ T) (hb : b ∈ A) : b ∈ T := hT hb

/-! ### Link, notices, pictures, replies -/

theorem touches_updPort (hT : [.link] ⊆ T) (h : OnlyTouches T s t) (p : Port) (f : PortState → PortState) :
    OnlyTouches T s (updPort p f t) := by
  dsimp only [updPort]
  repeat' first
    | exact h
    | (with_reducible refine touches_withLink (sub_mem hT (by decide)) ?_ _)

theorem touches_queuePart (hT : [.link] ⊆ T) (h : OnlyTouches T s t) (f : Frame) :
    OnlyTouches T s (queuePart f t) := by
  dsimp only [queuePart]
  repeat' first
    | exact h
    | (with_reducible refine touches_updPort (List.Subset.trans (by decide) hT) ?_ ..)

theorem touches_judgeAttn (hT : [.pins] ⊆ T) (h : OnlyTouches T s t) :
    OnlyTouches T s (judgeAttn t) := by
  dsimp only [judgeAttn]
  repeat' first
    | exact h
    | (with_reducible refine touches_withPins (sub_mem hT (by decide)) ?_ _)

theorem touches_sendAttention (hT : [.link] ⊆ T) (h : OnlyTouches T s t) :
    OnlyTouches T s (sendAttention t) := by
  dsimp only [sendAttention]
  repeat' first
    | exact h
    | (with_reducible refine touches_queuePart (List.Subset.trans (by decide) hT) ?_ ..)
    | split

theorem touches_raiseNotice (hT : touchNotices ⊆ T) (h : OnlyTouches T s t) (kind : NoticeKind) (subject : Nat) (detail : Word16) :
    OnlyTouches T s (raiseNotice kind subject detail t) := by
  dsimp only [raiseNotice]
  repeat' first
    | exact h
    | (with_reducible refine touches_judgeAttn (List.Subset.trans (by decide) hT) ?_ ..)
    | (with_reducible refine touches_sendAttention (List.Subset.trans (by decide) hT) ?_ ..)
    | (with_reducible refine touches_withNotices (sub_mem hT (by decide)) ?_ _)
    | split

theorem touches_publish (hT : [.pictures] ⊆ T) (h : OnlyTouches T s t) :
    OnlyTouches T s (publish t) := by
  dsimp only [publish]
  repeat' first
    | exact h
    | (with_reducible refine touches_withPictures (sub_mem hT (by decide)) ?_ _)

theorem touches_handOver (hT : touchReply ⊆ T) (h : OnlyTouches T s t) (p : Port) :
    OnlyTouches T s (handOver p t) := by
  dsimp only [handOver]
  repeat' first
    | exact h
    | (with_reducible refine touches_queuePart (List.Subset.trans (by decide) hT) ?_ ..)
    | (with_reducible refine touches_withMgmt (sub_mem hT (by decide)) ?_ _)
    | split

theorem touches_readyReply (hT : touchReply ⊆ T) (h : OnlyTouches T s t) (r : Reply) :
    OnlyTouches T s (readyReply r t) := by
  dsimp only [readyReply]
  repeat' first
    | exact h
    | (with_reducible refine touches_handOver (List.Subset.trans (by decide) hT) ?_ ..)
    | (with_reducible refine touches_withMgmt (sub_mem hT (by decide)) ?_ _)

theorem touches_answer (hT : touchReply ⊆ T) (h : OnlyTouches T s t) (r : Sender) (code : Nat) (result : Result) (fields : List Byte) :
    OnlyTouches T s (answer r code result fields t) := by
  dsimp only [answer]
  repeat' first
    | exact h
    | (with_reducible refine touches_readyReply (List.Subset.trans (by decide) hT) ?_ ..)

theorem touches_nextPicturePart (hT : [.mgmt] ⊆ T) (h : OnlyTouches T s t) :
    OnlyTouches T s (nextPicturePart t) := by
  dsimp only [nextPicturePart]
  repeat' first
    | exact h
    | (with_reducible refine touches_withMgmt (sub_mem hT (by decide)) ?_ _)
    | split

theorem touches_replyLeft (hT : [.mgmt] ⊆ T) (h : OnlyTouches T s t) (p : Port) :
    OnlyTouches T s (replyLeft p t) := by
  dsimp only [replyLeft]
  repeat' first
    | exact h
    | (with_reducible refine touches_nextPicturePart (List.Subset.trans (by decide) hT) ?_ ..)
    | (with_reducible refine touches_withMgmt (sub_mem hT (by decide)) ?_ _)
    | split

/-! ### Setting map and move unit -/

theorem touches_takeKeep (hT : [.map] ⊆ T) (h : OnlyTouches T s t) (k : BankId) (n : Nat) (st : Setting) (amount : Int) :
    OnlyTouches T s (takeKeep k n st amount t) := by
  dsimp only [takeKeep]
  repeat' first
    | exact h
    | (with_reducible refine touches_withMap (sub_mem hT (by decide)) ?_ _)

theorem touches_takeWaitingKeep (hT : [.map, .keep] ⊆ T) (h : OnlyTouches T s t) :
    OnlyTouches T s (takeWaitingKeep t) := by
  dsimp only [takeWaitingKeep]
  repeat' first
    | exact h
    | (with_reducible refine touches_takeKeep (List.Subset.trans (by decide) hT) ?_ ..)
    | (with_reducible refine touches_withKeep (sub_mem hT (by decide)) ?_ _)
    | split

theorem touches_postponeKeep (hT : [.map, .keep] ⊆ T) (h : OnlyTouches T s t) (k : Keep) :
    OnlyTouches T s (postponeKeep k t) := by
  dsimp only [postponeKeep]
  repeat' first
    | exact h
    | (with_reducible refine touches_takeWaitingKeep (List.Subset.trans (by decide) hT) ?_ ..)
    | (with_reducible refine touches_withKeep (sub_mem hT (by decide)) ?_ _)

theorem touches_handKeep (hT : [.map, .keep, .order] ⊆ T) (h : OnlyTouches T s t) (k : Keep) :
    OnlyTouches T s (handKeep k t) := by
  dsimp only [handKeep]
  repeat' first
    | exact h
    | (with_reducible refine touches_takeKeep (List.Subset.trans (by decide) hT) ?_ ..)
    | (with_reducible refine touches_takeWaitingKeep (List.Subset.trans (by decide) hT) ?_ ..)
    | (with_reducible refine touches_postponeKeep (List.Subset.trans (by decide) hT) ?_ ..)
    | (with_reducible refine touches_withOrder (sub_mem hT (by decide)) ?_ _)
    | split

theorem touches_setRecord (hT : [.moves] ⊆ T) (h : OnlyTouches T s t) (st : Setting) (r : MoveRecord) :
    OnlyTouches T s (setRecord st r t) := by
  dsimp only [setRecord]
  repeat' first
    | exact h
    | (with_reducible refine touches_withMoves (sub_mem hT (by decide)) ?_ _)

theorem touches_queueSet (hT : [.link] ⊆ T) (h : OnlyTouches T s t) (st : Setting) :
    OnlyTouches T s (queueSet st t) := by
  dsimp only [queueSet]
  repeat' first
    | exact h
    | (with_reducible refine touches_queuePart (List.Subset.trans (by decide) hT) ?_ ..)
    | split

theorem touches_issueSet (hT : touchMoves ⊆ T) (h : OnlyTouches T s t) (st : Setting) :
    OnlyTouches T s (issueSet st t) := by
  dsimp only [issueSet]
  repeat' first
    | exact h
    | (with_reducible refine touches_setRecord (List.Subset.trans (by decide) hT) ?_ ..)
    | (with_reducible refine touches_queueSet (List.Subset.trans (by decide) hT) ?_ ..)
    | split

theorem touches_storeGoal (hT : [.moves] ⊆ T) (h : OnlyTouches T s t) (st : Setting) (g : Goal) :
    OnlyTouches T s (storeGoal st g t) := by
  dsimp only [storeGoal]
  repeat' first
    | exact h
    | (with_reducible refine touches_setRecord (List.Subset.trans (by decide) hT) ?_ ..)

theorem touches_giveGoal (hT : touchMoves ⊆ T) (h : OnlyTouches T s t) (st : Setting) (g : Goal) :
    OnlyTouches T s (giveGoal st g t) := by
  dsimp only [giveGoal]
  repeat' first
    | exact h
    | (with_reducible refine touches_setRecord (List.Subset.trans (by decide) hT) ?_ ..)
    | (with_reducible refine touches_issueSet (List.Subset.trans (by decide) hT) ?_ ..)
    | (with_reducible refine touches_storeGoal (List.Subset.trans (by decide) hT) ?_ ..)
    | split

theorem touches_issueOverHold (hT : touchMoves ⊆ T) (h : OnlyTouches T s t) (st : Setting) (v : Word16) :
    OnlyTouches T s (issueOverHold st v t) := by
  dsimp only [issueOverHold]
  repeat' first
    | exact h
    | (with_reducible refine touches_issueSet (List.Subset.trans (by decide) hT) ?_ ..)
    | (with_reducible refine touches_storeGoal (List.Subset.trans (by decide) hT) ?_ ..)
    | split

theorem touches_resendSet (hT : touchMoves ⊆ T) (h : OnlyTouches T s t) (st : Setting) :
    OnlyTouches T s (resendSet st t) := by
  dsimp only [resendSet]
  repeat' first
    | exact h
    | (with_reducible refine touches_setRecord (List.Subset.trans (by decide) hT) ?_ ..)
    | (with_reducible refine touches_queueSet (List.Subset.trans (by decide) hT) ?_ ..)

theorem touches_giveAgain (hT : touchMoves ⊆ T) (h : OnlyTouches T s t) (st : Setting) :
    OnlyTouches T s (giveAgain st t) := by
  dsimp only [giveAgain]
  repeat' first
    | exact h
    | (with_reducible refine touches_giveGoal (List.Subset.trans (by decide) hT) ?_ ..)
    | split

theorem touches_releaseDeferred (hT : touchMoves ⊆ T) (h : OnlyTouches T s t) (st : Setting) :
    OnlyTouches T s (releaseDeferred st t) := by
  dsimp only [releaseDeferred]
  repeat' first
    | exact h
    | (with_reducible refine touches_setRecord (List.Subset.trans (by decide) hT) ?_ ..)
    | (with_reducible refine touches_giveGoal (List.Subset.trans (by decide) hT) ?_ ..)
    | split

theorem touches_releaseDeferredOnce (hT : touchMoves ⊆ T) (h : OnlyTouches T s t) (st : Setting) :
    OnlyTouches T s (releaseDeferredOnce st t) := by
  dsimp only [releaseDeferredOnce]
  repeat' first
    | exact h
    | (with_reducible refine touches_issueOverHold (List.Subset.trans (by decide) hT) ?_ ..)
    | split

/-! ### Regulator -/

theorem touches_abandonCycle (hT : touchCycle ⊆ T) (h : OnlyTouches T s t) :
    OnlyTouches T s (abandonCycle t) := by
  dsimp only [abandonCycle]
  repeat' first
    | exact h
    | (with_reducible refine touches_withChannels (sub_mem hT (by decide)) ?_ _)
    | (with_reducible refine touches_withRegulator (sub_mem hT (by decide)) ?_ _)

theorem touches_giveTarget (hT : touchCycle ⊆ T) (h : OnlyTouches T s t) (st : Setting) (v : Word16) :
    OnlyTouches T s (giveTarget st v t) := by
  dsimp only [giveTarget]
  repeat' first
    | exact h
    | (with_reducible refine touches_giveGoal (List.Subset.trans (by decide) hT) ?_ ..)
    | (with_reducible refine touches_withRegulator (sub_mem hT (by decide)) ?_ _)

theorem touches_giveTargets (hT : touchCycle ⊆ T) (h : OnlyTouches T s t) :
    OnlyTouches T s (giveTargets t) := by
  dsimp only [giveTargets]
  repeat' first
    | exact h
    | (with_reducible refine touches_giveTarget (List.Subset.trans (by decide) hT) ?_ ..)
    | (with_reducible refine touches_foldl _ ?_ (fun _ _ t h => ?_))
    | split

theorem touches_enterSettle (hT : touchCycle ⊆ T) (h : OnlyTouches T s t) :
    OnlyTouches T s (enterSettle t) := by
  dsimp only [enterSettle]
  repeat' first
    | exact h
    | (with_reducible refine touches_publish (List.Subset.trans (by decide) hT) ?_ ..)
    | (with_reducible refine touches_withRegulator (sub_mem hT (by decide)) ?_ _)

theorem touches_enterTrialSettle (hT : touchCycle ⊆ T) (h : OnlyTouches T s t) :
    OnlyTouches T s (enterTrialSettle t) := by
  dsimp only [enterTrialSettle]
  repeat' first
    | exact h
    | (with_reducible refine touches_publish (List.Subset.trans (by decide) hT) ?_ ..)
    | (with_reducible refine touches_withRegulator (sub_mem hT (by decide)) ?_ _)

theorem touches_enterHold (hT : touchCycle ⊆ T) (h : OnlyTouches T s t) :
    OnlyTouches T s (enterHold t) := by
  dsimp only [enterHold]
  repeat' first
    | exact h
    | (with_reducible refine touches_publish (List.Subset.trans (by decide) hT) ?_ ..)
    | (with_reducible refine touches_withRegulator (sub_mem hT (by decide)) ?_ _)

theorem touches_enterMeasure (hT : touchCycle ⊆ T) (h : OnlyTouches T s t) (state : RegState) :
    OnlyTouches T s (enterMeasure state t) := by
  dsimp only [enterMeasure]
  repeat' first
    | exact h
    | (with_reducible refine touches_publish (List.Subset.trans (by decide) hT) ?_ ..)
    | (with_reducible refine touches_withChannels (sub_mem hT (by decide)) ?_ _)
    | (with_reducible refine touches_withRegulator (sub_mem hT (by decide)) ?_ _)

theorem touches_enterFollow (hT : touchCycle ⊆ T) (h : OnlyTouches T s t) (keepEpisode : Bool) :
    OnlyTouches T s (enterFollow keepEpisode t) := by
  dsimp only [enterFollow]
  repeat' first
    | exact h
    | (with_reducible refine touches_publish (List.Subset.trans (by decide) hT) ?_ ..)
    | (with_reducible refine touches_abandonCycle (List.Subset.trans (by decide) hT) ?_ ..)
    | (with_reducible refine touches_giveTargets (List.Subset.trans (by decide) hT) ?_ ..)
    | (with_reducible refine touches_enterSettle (List.Subset.trans (by decide) hT) ?_ ..)
    | (with_reducible refine touches_withRegulator (sub_mem hT (by decide)) ?_ _)
    | (with_reducible refine touches_interleave (sub_mem hT (by decide)) ?_ ?_)
    | (with_reducible refine ⟨?_, ?_⟩)
    | (with_reducible refine List.forall_mem_append.mpr ⟨?_, ?_⟩)
    | (with_reducible refine List.forall_mem_cons.mpr ⟨?_, ?_⟩)
    | (with_reducible exact List.forall_mem_nil _)
    | split
    | (intro t h)

theorem touches_releaseConcave (hT : touchCycle ⊆ T) (h : OnlyTouches T s t) :
    OnlyTouches T s (releaseConcave t) := by
  dsimp only [releaseConcave]
  repeat' first
    | exact h
    | (with_reducible refine touches_giveGoal (List.Subset.trans (by decide) hT) ?_ ..)

theorem touches_enterPaused (hT : touchCycle ⊆ T) (h : OnlyTouches T s t) :
    OnlyTouches T s (enterPaused t) := by
  dsimp only [enterPaused]
  repeat' first
    | exact h
    | (with_reducible refine touches_publish (List.Subset.trans (by decide) hT) ?_ ..)
    | (with_reducible refine touches_abandonCycle (List.Subset.trans (by decide) hT) ?_ ..)
    | (with_reducible refine touches_withRegulator (sub_mem hT (by decide)) ?_ _)

theorem touches_enterPausedOpen (hT : touchCycle ⊆ T) (h : OnlyTouches T s t) :
    OnlyTouches T s (enterPausedOpen t) := by
  dsimp only [enterPausedOpen]
  repeat' first
    | exact h
    | (with_reducible refine touches_publish (List.Subset.trans (by decide) hT) ?_ ..)
    | (with_reducible refine touches_abandonCycle (List.Subset.trans (by decide) hT) ?_ ..)
    | (with_reducible refine touches_releaseConcave (List.Subset.trans (by decide) hT) ?_ ..)
    | (with_reducible refine touches_withRegulator (sub_mem hT (by decide)) ?_ _)
    | (with_reducible refine touches_interleave (sub_mem hT (by decide)) ?_ ?_)
    | (with_reducible refine ⟨?_, ?_⟩)
    | (with_reducible refine List.forall_mem_append.mpr ⟨?_, ?_⟩)
    | (with_reducible refine List.forall_mem_cons.mpr ⟨?_, ?_⟩)
    | (with_reducible exact List.forall_mem_nil _)
    | split
    | (intro t h)

theorem touches_giveSubstitute (hT : touchCycle ⊆ T) (h : OnlyTouches T s t) (st : Setting) :
    OnlyTouches T s (giveSubstitute st t) := by
  dsimp only [giveSubstitute]
  repeat' first
    | exact h
    | (with_reducible refine touches_giveGoal (List.Subset.trans (by decide) hT) ?_ ..)
    | split

theorem touches_giveSubstitutes (hT : touchCycle ⊆ T) (h : OnlyTouches T s t) :
    OnlyTouches T s (giveSubstitutes t) := by
  dsimp only [giveSubstitutes]
  repeat' first
    | exact h
    | (with_reducible refine touches_giveSubstitute (List.Subset.trans (by decide) hT) ?_ ..)
    | (with_reducible refine touches_foldl _ ?_ (fun _ _ t h => ?_))

theorem touches_driveSafeOut (hT : touchCycle ⊆ T) (h : OnlyTouches T s t) (active : Bool) :
    OnlyTouches T s (driveSafeOut active t) := by
  dsimp only [driveSafeOut]
  repeat' first
    | exact h
    | (with_reducible refine touches_withPins (sub_mem hT (by decide)) ?_ _)

theorem touches_raiseSafeEntered (hT : touchCycle ⊆ T) (h : OnlyTouches T s t) (cause : SafeCause) :
    OnlyTouches T s (raiseSafeEntered cause t) := by
  dsimp only [raiseSafeEntered]
  repeat' first
    | exact h
    | (with_reducible refine touches_raiseNotice (List.Subset.trans (by decide) hT) ?_ ..)

theorem touches_enterSafe (hT : touchCycle ⊆ T) (h : OnlyTouches T s t) (cause : SafeCause) :
    OnlyTouches T s (enterSafe cause t) := by
  dsimp only [enterSafe]
  repeat' first
    | exact h
    | (with_reducible refine touches_publish (List.Subset.trans (by decide) hT) ?_ ..)
    | (with_reducible refine touches_abandonCycle (List.Subset.trans (by decide) hT) ?_ ..)
    | (with_reducible refine touches_giveSubstitutes (List.Subset.trans (by decide) hT) ?_ ..)
    | (with_reducible refine touches_driveSafeOut (List.Subset.trans (by decide) hT) ?_ ..)
    | (with_reducible refine touches_raiseSafeEntered (List.Subset.trans (by decide) hT) ?_ ..)
    | (with_reducible refine touches_withRegulator (sub_mem hT (by decide)) ?_ _)
    | (with_reducible refine touches_interleave (sub_mem hT (by decide)) ?_ ?_)
    | (with_reducible refine ⟨?_, ?_⟩)
    | (with_reducible refine List.forall_mem_append.mpr ⟨?_, ?_⟩)
    | (with_reducible refine List.forall_mem_cons.mpr ⟨?_, ?_⟩)
    | (with_reducible exact List.forall_mem_nil _)
    | split
    | (intro t h)

theorem touches_leaveSafe (hT : touchCycle ⊆ T) (h : OnlyTouches T s t) (next : RegState) :
    OnlyTouches T s (leaveSafe next t) := by
  dsimp only [leaveSafe]
  repeat' first
    | exact h
    | (with_reducible refine touches_raiseNotice (List.Subset.trans (by decide) hT) ?_ ..)
    | (with_reducible refine touches_driveSafeOut (List.Subset.trans (by decide) hT) ?_ ..)
    | (with_reducible refine touches_withRegulator (sub_mem hT (by decide)) ?_ _)
    | split

theorem touches_changeSafeCause (hT : touchCycle ⊆ T) (h : OnlyTouches T s t) (cause : SafeCause) :
    OnlyTouches T s (changeSafeCause cause t) := by
  dsimp only [changeSafeCause]
  repeat' first
    | exact h
    | (with_reducible refine touches_publish (List.Subset.trans (by decide) hT) ?_ ..)
    | (with_reducible refine touches_withRegulator (sub_mem hT (by decide)) ?_ _)

theorem touches_startTrial (hT : touchCycle ⊆ T) (h : OnlyTouches T s t) (k : Nat) (p : PlanStep) :
    OnlyTouches T s (startTrial k p t) := by
  dsimp only [startTrial]
  repeat' first
    | exact h
    | (with_reducible refine touches_publish (List.Subset.trans (by decide) hT) ?_ ..)
    | (with_reducible refine touches_giveTarget (List.Subset.trans (by decide) hT) ?_ ..)
    | (with_reducible refine touches_enterTrialSettle (List.Subset.trans (by decide) hT) ?_ ..)
    | (with_reducible refine touches_withRegulator (sub_mem hT (by decide)) ?_ _)
    | (with_reducible refine touches_interleave (sub_mem hT (by decide)) ?_ ?_)
    | (with_reducible refine ⟨?_, ?_⟩)
    | (with_reducible refine List.forall_mem_append.mpr ⟨?_, ?_⟩)
    | (with_reducible refine List.forall_mem_cons.mpr ⟨?_, ?_⟩)
    | (with_reducible exact List.forall_mem_nil _)
    | split

theorem touches_planExhausted (hT : touchCycle ⊆ T) (h : OnlyTouches T s t) :
    OnlyTouches T s (planExhausted t) := by
  dsimp only [planExhausted]
  repeat' first
    | exact h
    | (with_reducible refine touches_raiseNotice (List.Subset.trans (by decide) hT) ?_ ..)
    | (with_reducible refine touches_enterHold (List.Subset.trans (by decide) hT) ?_ ..)
    | (with_reducible refine touches_withRegulator (sub_mem hT (by decide)) ?_ _)

theorem touches_tryNextStep (hT : touchCycle ⊆ T) (h : OnlyTouches T s t) :
    OnlyTouches T s (tryNextStep t) := by
  dsimp only [tryNextStep]
  repeat' first
    | exact h
    | (with_reducible refine touches_enterHold (List.Subset.trans (by decide) hT) ?_ ..)
    | (with_reducible refine touches_startTrial (List.Subset.trans (by decide) hT) ?_ ..)
    | (with_reducible refine touches_planExhausted (List.Subset.trans (by decide) hT) ?_ ..)
    | split

theorem touches_tryOrHold (hT : touchCycle ⊆ T) (h : OnlyTouches T s t) :
    OnlyTouches T s (tryOrHold t) := by
  dsimp only [tryOrHold]
  repeat' first
    | exact h
    | (with_reducible refine touches_enterHold (List.Subset.trans (by decide) hT) ?_ ..)
    | (with_reducible refine touches_tryNextStep (List.Subset.trans (by decide) hT) ?_ ..)
    | split

theorem touches_decideMeasure (hT : touchCycle ⊆ T) (h : OnlyTouches T s t) (w : WindowResult) :
    OnlyTouches T s (decideMeasure w t) := by
  dsimp only [decideMeasure]
  repeat' first
    | exact h
    | (with_reducible refine touches_enterHold (List.Subset.trans (by decide) hT) ?_ ..)
    | (with_reducible refine touches_tryNextStep (List.Subset.trans (by decide) hT) ?_ ..)
    | (with_reducible refine touches_withRegulator (sub_mem hT (by decide)) ?_ _)
    | split

theorem touches_revertSettled (hT : touchCycle ⊆ T) (h : OnlyTouches T s t) :
    OnlyTouches T s (revertSettled t) := by
  dsimp only [revertSettled]
  repeat' first
    | exact h
    | (with_reducible refine touches_tryOrHold (List.Subset.trans (by decide) hT) ?_ ..)
    | (with_reducible refine touches_withRegulator (sub_mem hT (by decide)) ?_ _)

theorem touches_giveRevertGoal (hT : touchCycle ⊆ T) (h : OnlyTouches T s t) (st : Setting) :
    OnlyTouches T s (giveRevertGoal st t) := by
  dsimp only [giveRevertGoal]
  repeat' first
    | exact h
    | (with_reducible refine touches_giveTarget (List.Subset.trans (by decide) hT) ?_ ..)
    | split

theorem touches_revertTrial (hT : touchCycle ⊆ T) (h : OnlyTouches T s t) (x : Trial) :
    OnlyTouches T s (revertTrial x t) := by
  dsimp only [revertTrial]
  repeat' first
    | exact h
    | (with_reducible refine touches_raiseNotice (List.Subset.trans (by decide) hT) ?_ ..)
    | (with_reducible refine touches_publish (List.Subset.trans (by decide) hT) ?_ ..)
    | (with_reducible refine touches_revertSettled (List.Subset.trans (by decide) hT) ?_ ..)
    | (with_reducible refine touches_giveRevertGoal (List.Subset.trans (by decide) hT) ?_ ..)
    | (with_reducible refine touches_withRegulator (sub_mem hT (by decide)) ?_ _)
    | split

theorem touches_keepTrial (hT : touchWindow ⊆ T) (h : OnlyTouches T s t) (x : Trial) (w : WindowResult) :
    OnlyTouches T s (keepTrial x w t) := by
  dsimp only [keepTrial]
  repeat' first
    | exact h
    | (with_reducible refine touches_raiseNotice (List.Subset.trans (by decide) hT) ?_ ..)
    | (with_reducible refine touches_handKeep (List.Subset.trans (by decide) hT) ?_ ..)
    | (with_reducible refine touches_enterHold (List.Subset.trans (by decide) hT) ?_ ..)
    | (with_reducible refine touches_tryOrHold (List.Subset.trans (by decide) hT) ?_ ..)
    | (with_reducible refine touches_withRegulator (sub_mem hT (by decide)) ?_ _)
    | split

theorem touches_judgeTrial (hT : touchWindow ⊆ T) (h : OnlyTouches T s t) (w : WindowResult) :
    OnlyTouches T s (judgeTrial w t) := by
  dsimp only [judgeTrial]
  repeat' first
    | exact h
    | (with_reducible refine touches_enterHold (List.Subset.trans (by decide) hT) ?_ ..)
    | (with_reducible refine touches_revertTrial (List.Subset.trans (by decide) hT) ?_ ..)
    | (with_reducible refine touches_keepTrial (List.Subset.trans (by decide) hT) ?_ ..)
    | split

theorem touches_takeSettled (hT : touchCycle ⊆ T) (h : OnlyTouches T s t) (st : Setting) :
    OnlyTouches T s (takeSettled st t) := by
  dsimp only [takeSettled]
  repeat' first
    | exact h
    | (with_reducible refine touches_enterSettle (List.Subset.trans (by decide) hT) ?_ ..)
    | (with_reducible refine touches_enterTrialSettle (List.Subset.trans (by decide) hT) ?_ ..)
    | (with_reducible refine touches_revertSettled (List.Subset.trans (by decide) hT) ?_ ..)
    | split

theorem touches_takeExclusion (hT : touchCycle ⊆ T) (h : OnlyTouches T s t) (st : Setting) :
    OnlyTouches T s (takeExclusion st t) := by
  dsimp only [takeExclusion]
  repeat' first
    | exact h
    | (with_reducible refine touches_enterFollow (List.Subset.trans (by decide) hT) ?_ ..)
    | (with_reducible refine touches_withRegulator (sub_mem hT (by decide)) ?_ _)
    | split

theorem touches_takeRetarget (hT : touchCycle ⊆ T) (h : OnlyTouches T s t) :
    OnlyTouches T s (takeRetarget t) := by
  dsimp only [takeRetarget]
  repeat' first
    | exact h
    | (with_reducible refine touches_enterFollow (List.Subset.trans (by decide) hT) ?_ ..)
    | split

theorem touches_leaveSafeFor (hT : touchCycle ⊆ T) (h : OnlyTouches T s t) (a : Action) :
    OnlyTouches T s (leaveSafeFor a t) := by
  dsimp only [leaveSafeFor]
  repeat' first
    | exact h
    | (with_reducible refine touches_enterFollow (List.Subset.trans (by decide) hT) ?_ ..)
    | (with_reducible refine touches_enterPaused (List.Subset.trans (by decide) hT) ?_ ..)
    | (with_reducible refine touches_enterPausedOpen (List.Subset.trans (by decide) hT) ?_ ..)
    | (with_reducible refine touches_leaveSafe (List.Subset.trans (by decide) hT) ?_ ..)
    | split

theorem touches_takeAction (hT : touchCycle ⊆ T) (h : OnlyTouches T s t) (a : Action) :
    OnlyTouches T s (takeAction a t) := by
  dsimp only [takeAction]
  repeat' first
    | exact h
    | (with_reducible refine touches_enterFollow (List.Subset.trans (by decide) hT) ?_ ..)
    | (with_reducible refine touches_releaseConcave (List.Subset.trans (by decide) hT) ?_ ..)
    | (with_reducible refine touches_enterPaused (List.Subset.trans (by decide) hT) ?_ ..)
    | (with_reducible refine touches_enterPausedOpen (List.Subset.trans (by decide) hT) ?_ ..)
    | (with_reducible refine touches_enterSafe (List.Subset.trans (by decide) hT) ?_ ..)
    | (with_reducible refine touches_leaveSafeFor (List.Subset.trans (by decide) hT) ?_ ..)
    | split

theorem touches_takeStart (hT : touchCycle ⊆ T) (h : OnlyTouches T s t) :
    OnlyTouches T s (takeStart t) := by
  dsimp only [takeStart]
  repeat' first
    | exact h
    | (with_reducible refine touches_enterSafe (List.Subset.trans (by decide) hT) ?_ ..)
    | (with_reducible refine touches_changeSafeCause (List.Subset.trans (by decide) hT) ?_ ..)
    | (with_reducible refine touches_leaveSafeFor (List.Subset.trans (by decide) hT) ?_ ..)
    | split

theorem touches_windowAEnds (hT : touchCycle ⊆ T) (h : OnlyTouches T s t) :
    OnlyTouches T s (windowAEnds t) := by
  dsimp only [windowAEnds]
  repeat' first
    | exact h
    | (with_reducible refine touches_enterHold (List.Subset.trans (by decide) hT) ?_ ..)
    | (with_reducible refine touches_enterMeasure (List.Subset.trans (by decide) hT) ?_ ..)
    | (with_reducible refine touches_withRegulator (sub_mem hT (by decide)) ?_ _)
    | split

theorem keeps_settledHandings (hT : touchCycle ⊆ T) (st : Setting) : Keeps T s (settledHandings st) :=
  List.forall_mem_cons.mpr ⟨List.forall_mem_cons.mpr ⟨fun _ h => touches_takeSettled hT h st, List.forall_mem_nil _⟩,
    List.forall_mem_cons.mpr ⟨List.forall_mem_cons.mpr
      ⟨fun _ h => touches_publish (List.Subset.trans (by decide) hT) h, List.forall_mem_nil _⟩, List.forall_mem_nil _⟩⟩

theorem keeps_newlySettled (hT : touchCycle ⊆ T) (was : Bool) (st : Setting) : Keeps T s (newlySettled was st) := by
  unfold newlySettled
  split
  · exact List.forall_mem_nil _
  · exact keeps_settledHandings hT st

theorem touches_discardDeferred (hT : touchCycle ⊆ T) (h : OnlyTouches T s t) :
    OnlyTouches T s (discardDeferred t) := by
  dsimp only [discardDeferred]
  refine touches_interleave (sub_mem hT (by decide)) ?_ ?_
  · exact touches_withMoves (sub_mem hT (by decide)) h _
  · refine keeps_flatten fun l hl => ?_
    obtain ⟨st, -, rfl⟩ := List.mem_map.mp hl
    exact keeps_settledHandings hT st

theorem touches_moveOwnerLoss (hT : touchCycle ⊆ T) (h : OnlyTouches T s t) :
    OnlyTouches T s (moveOwnerLoss t) := by
  dsimp only [moveOwnerLoss]
  repeat' first
    | exact h
    | (with_reducible refine touches_discardDeferred (List.Subset.trans (by decide) hT) ?_ ..)
    | (with_reducible refine touches_withMoves (sub_mem hT (by decide)) ?_ _)

theorem touches_takeStop (hT : touchCycle ⊆ T) (h : OnlyTouches T s t) :
    OnlyTouches T s (takeStop t) := by
  dsimp only [takeStop]
  repeat' first
    | exact h
    | (with_reducible refine touches_publish (List.Subset.trans (by decide) hT) ?_ ..)
    | (with_reducible refine touches_abandonCycle (List.Subset.trans (by decide) hT) ?_ ..)
    | (with_reducible refine touches_leaveSafe (List.Subset.trans (by decide) hT) ?_ ..)
    | (with_reducible refine touches_discardDeferred (List.Subset.trans (by decide) hT) ?_ ..)
    | (with_reducible refine touches_withRegulator (sub_mem hT (by decide)) ?_ _)
    | (with_reducible refine touches_interleave (sub_mem hT (by decide)) ?_ ?_)
    | (with_reducible refine ⟨?_, ?_⟩)
    | (with_reducible refine List.forall_mem_append.mpr ⟨?_, ?_⟩)
    | (with_reducible refine List.forall_mem_cons.mpr ⟨?_, ?_⟩)
    | (with_reducible exact List.forall_mem_nil _)
    | split
    | (intro t h)

theorem touches_regOwnerLoss (hT : touchCycle ⊆ T) (h : OnlyTouches T s t) (was : PartState) :
    OnlyTouches T s (regOwnerLoss was t) := by
  dsimp only [regOwnerLoss]
  repeat' first
    | exact h
    | (with_reducible refine touches_enterSafe (List.Subset.trans (by decide) hT) ?_ ..)
    | (with_reducible refine touches_changeSafeCause (List.Subset.trans (by decide) hT) ?_ ..)
    | split

/-! ### Guard arbiter -/

theorem touches_updGuard (hT : touchGuards ⊆ T) (h : OnlyTouches T s t) (n : Fin 12) (f : Guard → Guard) :
    OnlyTouches T s (updGuard n f t) := by
  dsimp only [updGuard]
  repeat' first
    | exact h
    | (with_reducible refine touches_withGuards (sub_mem hT (by decide)) ?_ _)

theorem touches_actGuard (hT : touchGuards ⊆ T) (h : OnlyTouches T s t) (n : Fin 12) :
    OnlyTouches T s (actGuard n t) := by
  dsimp only [actGuard]
  repeat' first
    | exact h
    | (with_reducible refine touches_raiseNotice (List.Subset.trans (by decide) hT) ?_ ..)
    | (with_reducible refine touches_withGuards (sub_mem hT (by decide)) ?_ _)

theorem touches_examineGuards (hT : touchGuards ⊆ T) (h : OnlyTouches T s t) :
    OnlyTouches T s (examineGuards t) := by
  dsimp only [examineGuards]
  repeat' first
    | exact h
    | (with_reducible refine touches_actGuard (List.Subset.trans (by decide) hT) ?_ ..)
    | split

theorem touches_judgeAction (hT : touchGuards ⊆ T) (h : OnlyTouches T s t) :
    OnlyTouches T s (judgeAction t) := by
  dsimp only [judgeAction]
  repeat' first
    | exact h
    | (with_reducible refine touches_publish (List.Subset.trans (by decide) hT) ?_ ..)
    | (with_reducible refine touches_takeAction (List.Subset.trans (by decide) hT) ?_ ..)
    | (with_reducible refine touches_withGuards (sub_mem hT (by decide)) ?_ _)
    | (with_reducible refine touches_interleave (sub_mem hT (by decide)) ?_ ?_)
    | (with_reducible refine ⟨?_, ?_⟩)
    | (with_reducible refine List.forall_mem_append.mpr ⟨?_, ?_⟩)
    | (with_reducible refine List.forall_mem_cons.mpr ⟨?_, ?_⟩)
    | (with_reducible exact List.forall_mem_nil _)
    | split
    | (intro t h)

theorem touches_endWait (hT : touchGuards ⊆ T) (h : OnlyTouches T s t) : OnlyTouches T s (endWait t) :=
  touches_withGuards (sub_mem hT (by decide)) h _

theorem touches_settleGuards (hT : touchGuards ⊆ T) (h : OnlyTouches T s t) :
    OnlyTouches T s (settleGuards t) := by
  dsimp only [settleGuards]
  repeat' first
    | exact h
    | (with_reducible refine touches_examineGuards (List.Subset.trans (by decide) hT) ?_ ..)
    | (with_reducible refine touches_judgeAction (List.Subset.trans (by decide) hT) ?_ ..)
    | (with_reducible refine touches_endWait (List.Subset.trans (by decide) hT) ?_ ..)

theorem touches_settleRaised (hT : touchGuards ⊆ T) (h : OnlyTouches T s t) (due : ExamineDue) (n : Fin 12) :
    OnlyTouches T s (settleRaised due n t) := by
  dsimp only [settleRaised]
  repeat' first
    | exact h
    | (with_reducible refine touches_settleGuards (List.Subset.trans (by decide) hT) ?_ ..)
    | (with_reducible refine touches_withGuards (sub_mem hT (by decide)) ?_ _)
    | (with_reducible refine touches_withOrder (sub_mem hT (by decide)) ?_ _)
    | split

theorem touches_settleWaiting (hT : touchGuards ⊆ T) (h : OnlyTouches T s t) :
    OnlyTouches T s (settleWaiting t) := by
  dsimp only [settleWaiting]
  repeat' first
    | exact h
    | (with_reducible refine touches_settleGuards (List.Subset.trans (by decide) hT) ?_ ..)
    | split

theorem touches_setCondition (hT : touchGuards ⊆ T) (h : OnlyTouches T s t) (n : Fin 12) (active : Bool) :
    OnlyTouches T s (setCondition n active t) := by
  dsimp only [setCondition]
  repeat' first
    | exact h
    | (with_reducible refine touches_updGuard (List.Subset.trans (by decide) hT) ?_ ..)
    | (with_reducible refine touches_settleRaised (List.Subset.trans (by decide) hT) ?_ ..)
    | (with_reducible refine touches_settleGuards (List.Subset.trans (by decide) hT) ?_ ..)
    | split

theorem touches_raiseEvent (hT : touchGuards ⊆ T) (h : OnlyTouches T s t) (n : Fin 12) :
    OnlyTouches T s (raiseEvent n t) := touches_updGuard hT h _ _

theorem touches_takeEvent (hT : touchGuards ⊆ T) (h : OnlyTouches T s t) (n : Fin 12) :
    OnlyTouches T s (takeEvent n t) := by
  dsimp only [takeEvent]
  repeat' first
    | exact h
    | (with_reducible refine touches_raiseEvent (List.Subset.trans (by decide) hT) ?_ ..)
    | (with_reducible refine touches_settleRaised (List.Subset.trans (by decide) hT) ?_ ..)

theorem touches_removeGuard (hT : touchGuards ⊆ T) (h : OnlyTouches T s t) (n : Fin 12) (cause : Nat) :
    OnlyTouches T s (removeGuard n cause t) := by
  dsimp only [removeGuard]
  repeat' first
    | exact h
    | (with_reducible refine touches_raiseNotice (List.Subset.trans (by decide) hT) ?_ ..)
    | (with_reducible refine touches_withGuards (sub_mem hT (by decide)) ?_ _)

theorem touches_releaseGuard (hT : touchGuards ⊆ T) (h : OnlyTouches T s t) (n : Fin 12) (cause : Nat) :
    OnlyTouches T s (releaseGuard n cause t) := by
  dsimp only [releaseGuard]
  repeat' first
    | exact h
    | (with_reducible refine touches_settleGuards (List.Subset.trans (by decide) hT) ?_ ..)
    | (with_reducible refine touches_removeGuard (List.Subset.trans (by decide) hT) ?_ ..)

theorem touches_releaseNamed (hT : touchGuards ⊆ T) (h : OnlyTouches T s t) (n : Fin 12) :
    OnlyTouches T s (releaseNamed n t) := by
  dsimp only [releaseNamed]
  repeat' first
    | exact h
    | (with_reducible refine touches_settleRaised (List.Subset.trans (by decide) hT) ?_ ..)
    | (with_reducible refine touches_removeGuard (List.Subset.trans (by decide) hT) ?_ ..)

theorem touches_setSlipTimer (hT : touchGuards ⊆ T) (h : OnlyTouches T s t) (w : Rotor) (x : Option Timer) :
    OnlyTouches T s (setSlipTimer w x t) := by
  dsimp only [setSlipTimer]
  repeat' first
    | exact h
    | (with_reducible refine touches_withGuards (sub_mem hT (by decide)) ?_ _)
    | split

theorem touches_judgeSlip (hT : touchGuards ⊆ T) (h : OnlyTouches T s t) (w : Rotor) :
    OnlyTouches T s (judgeSlip w t) := by
  dsimp only [judgeSlip]
  repeat' first
    | exact h
    | (with_reducible refine touches_setCondition (List.Subset.trans (by decide) hT) ?_ ..)
    | (with_reducible refine touches_setSlipTimer (List.Subset.trans (by decide) hT) ?_ ..)
    | split

theorem touches_judgeRole (hT : touchGuards ⊆ T) (h : OnlyTouches T s t) (r : Role) :
    OnlyTouches T s (judgeRole r t) := by
  dsimp only [judgeRole]
  repeat' first
    | exact h
    | (with_reducible refine touches_setCondition (List.Subset.trans (by decide) hT) ?_ ..)
    | (with_reducible refine touches_judgeSlip (List.Subset.trans (by decide) hT) ?_ ..)
    | split

theorem touches_takeKept (hT : touchGuards ⊆ T) (h : OnlyTouches T s t) (r : Role) (v : Option Word16) :
    OnlyTouches T s (takeKept r v t) := by
  dsimp only [takeKept]
  repeat' first
    | exact h
    | (with_reducible refine touches_judgeRole (List.Subset.trans (by decide) hT) ?_ ..)
    | (with_reducible refine touches_withGuards (sub_mem hT (by decide)) ?_ _)

theorem touches_handLossAlarm (hT : touchGuards ⊆ T) (h : OnlyTouches T s t) (alarm : Bool) :
    OnlyTouches T s (handLossAlarm alarm t) := by
  dsimp only [handLossAlarm]
  repeat' first
    | exact h
    | (with_reducible refine touches_takeEvent (List.Subset.trans (by decide) hT) ?_ ..)
    | split

theorem touches_afterResult (hT : touchWindow ⊆ T) (h : OnlyTouches T s t) (w : WindowResult) :
    OnlyTouches T s (afterResult w t) := by
  dsimp only [afterResult]
  repeat' first
    | exact h
    | (with_reducible refine touches_decideMeasure (List.Subset.trans (by decide) hT) ?_ ..)
    | (with_reducible refine touches_judgeTrial (List.Subset.trans (by decide) hT) ?_ ..)
    | split

theorem touches_windowBEnds (hT : touchWindow ⊆ T) (h : OnlyTouches T s t) :
    OnlyTouches T s (windowBEnds t) := by
  dsimp only [windowBEnds]
  repeat' first
    | exact h
    | (with_reducible refine touches_publish (List.Subset.trans (by decide) hT) ?_ ..)
    | (with_reducible refine touches_handLossAlarm (List.Subset.trans (by decide) hT) ?_ ..)
    | (with_reducible refine touches_afterResult (List.Subset.trans (by decide) hT) ?_ ..)
    | (with_reducible refine touches_withChannels (sub_mem hT (by decide)) ?_ _)
    | (with_reducible refine touches_withRegulator (sub_mem hT (by decide)) ?_ _)
    | (with_reducible refine touches_interleave (sub_mem hT (by decide)) ?_ ?_)
    | (with_reducible refine ⟨?_, ?_⟩)
    | (with_reducible refine List.forall_mem_append.mpr ⟨?_, ?_⟩)
    | (with_reducible refine List.forall_mem_cons.mpr ⟨?_, ?_⟩)
    | (with_reducible exact List.forall_mem_nil _)
    | split
    | (intro t h)

theorem touches_windowEnds (hT : touchWindow ⊆ T) (h : OnlyTouches T s t) :
    OnlyTouches T s (windowEnds t) := by
  dsimp only [windowEnds]
  repeat' first
    | exact h
    | (with_reducible refine touches_windowAEnds (List.Subset.trans (by decide) hT) ?_ ..)
    | (with_reducible refine touches_windowBEnds (List.Subset.trans (by decide) hT) ?_ ..)
    | split

/-! ### Drive exchange -/

theorem touches_judgeDriveFault (hT : touchGuards ⊆ T) (h : OnlyTouches T s t) :
    OnlyTouches T s (judgeDriveFault t) := by
  dsimp only [judgeDriveFault]
  repeat' first
    | exact h
    | (with_reducible refine touches_setCondition (List.Subset.trans (by decide) hT) ?_ ..)
    | (with_reducible refine touches_withMoves (sub_mem hT (by decide)) ?_ _)
    | split

theorem touches_enterFault (hT : touchGuards ⊆ T) (h : OnlyTouches T s t) (st : Setting) (cause : FaultCause) :
    OnlyTouches T s (enterFault st cause t) := by
  dsimp only [enterFault]
  repeat' first
    | exact h
    | (with_reducible refine touches_raiseNotice (List.Subset.trans (by decide) hT) ?_ ..)
    | (with_reducible refine touches_setRecord (List.Subset.trans (by decide) hT) ?_ ..)
    | (with_reducible refine touches_takeExclusion (List.Subset.trans (by decide) hT) ?_ ..)
    | (with_reducible refine touches_judgeDriveFault (List.Subset.trans (by decide) hT) ?_ ..)
    | (with_reducible refine touches_takeSettled (List.Subset.trans (by decide) hT) ?_ ..)
    | (with_reducible refine touches_publish (List.Subset.trans (by decide) hT) ?_ ..)
    | (with_reducible refine touches_interleave (sub_mem hT (by decide)) ?_ ?_)
    | (with_reducible exact keeps_newlySettled (List.Subset.trans (by decide) hT) _ _)
    | (with_reducible exact keeps_settledHandings (List.Subset.trans (by decide) hT) _)
    | (with_reducible refine ⟨?_, ?_⟩)
    | (with_reducible refine List.forall_mem_append.mpr ⟨?_, ?_⟩)
    | (with_reducible refine List.forall_mem_cons.mpr ⟨?_, ?_⟩)
    | (with_reducible exact List.forall_mem_nil _)
    | split
    | (intro t h)

theorem touches_countStale (hT : touchGuards ⊆ T) (h : OnlyTouches T s t) (st : Setting) :
    OnlyTouches T s (countStale st t) := by
  dsimp only [countStale]
  repeat' first
    | exact h
    | (with_reducible refine touches_withMoves (sub_mem hT (by decide)) ?_ _)

theorem touches_countUnmatched (hT : touchGuards ⊆ T) (h : OnlyTouches T s t) :
    OnlyTouches T s (countUnmatched t) := by
  dsimp only [countUnmatched]
  repeat' first
    | exact h
    | (with_reducible refine touches_withMoves (sub_mem hT (by decide)) ?_ _)

theorem touches_takeAccept (hT : touchGuards ⊆ T) (h : OnlyTouches T s t) (st : Setting) (tag : Tag) :
    OnlyTouches T s (takeAccept st tag t) := by
  dsimp only [takeAccept]
  repeat' first
    | exact h
    | (with_reducible refine touches_setRecord (List.Subset.trans (by decide) hT) ?_ ..)
    | (with_reducible refine touches_countStale (List.Subset.trans (by decide) hT) ?_ ..)
    | split

theorem touches_endMove (hT : touchGuards ⊆ T) (h : OnlyTouches T s t) (st : Setting) (limited : Bool)
    {extra : List (List Handing)} (hx : Keeps T s extra) : OnlyTouches T s (endMove st limited extra t) := by
  dsimp only [endMove]
  refine touches_interleave (sub_mem hT (by decide)) (touches_setRecord (List.Subset.trans (by decide) hT) h ..) ?_
  refine List.forall_mem_append.mpr ⟨hx, ?_⟩
  split
  · exact keeps_newlySettled (List.Subset.trans (by decide) hT) _ _
  · exact List.forall_mem_nil _

theorem touches_finishLeg (hT : touchGuards ⊆ T) (h : OnlyTouches T s t) (st : Setting) (outcome : Nat) (actual : Word16) :
    OnlyTouches T s (finishLeg st outcome actual t) := by
  dsimp only [finishLeg]
  repeat' first
    | exact h
    | (with_reducible refine touches_raiseNotice (List.Subset.trans (by decide) hT) ?_ ..)
    | (with_reducible refine touches_setRecord (List.Subset.trans (by decide) hT) ?_ ..)
    | (with_reducible refine touches_issueSet (List.Subset.trans (by decide) hT) ?_ ..)
    | (with_reducible refine touches_enterFault (List.Subset.trans (by decide) hT) ?_ ..)
    | (with_reducible refine touches_endMove (List.Subset.trans (by decide) hT) ?_ _ _ ?_)
    | (with_reducible refine ⟨?_, ?_⟩)
    | (with_reducible refine List.forall_mem_append.mpr ⟨?_, ?_⟩)
    | (with_reducible refine List.forall_mem_cons.mpr ⟨?_, ?_⟩)
    | (with_reducible exact List.forall_mem_nil _)
    | split
    | (intro t h)

theorem touches_takeDone (hT : touchGuards ⊆ T) (h : OnlyTouches T s t) (st : Setting) (tag : Tag) (outcome : Nat) (actual : Word16) :
    OnlyTouches T s (takeDone st tag outcome actual t) := by
  dsimp only [takeDone]
  repeat' first
    | exact h
    | (with_reducible refine touches_countStale (List.Subset.trans (by decide) hT) ?_ ..)
    | (with_reducible refine touches_finishLeg (List.Subset.trans (by decide) hT) ?_ ..)
    | split

theorem touches_judgeManual (hT : touchGuards ⊆ T) (h : OnlyTouches T s t) (st : Setting) (bit : Bool) (actual : Word16) :
    OnlyTouches T s (judgeManual st bit actual t) := by
  dsimp only [judgeManual]
  repeat' first
    | exact h
    | (with_reducible refine touches_raiseNotice (List.Subset.trans (by decide) hT) ?_ ..)
    | (with_reducible refine touches_setRecord (List.Subset.trans (by decide) hT) ?_ ..)
    | (with_reducible refine touches_giveGoal (List.Subset.trans (by decide) hT) ?_ ..)
    | (with_reducible refine touches_takeExclusion (List.Subset.trans (by decide) hT) ?_ ..)
    | (with_reducible refine touches_takeSettled (List.Subset.trans (by decide) hT) ?_ ..)
    | (with_reducible refine touches_publish (List.Subset.trans (by decide) hT) ?_ ..)
    | (with_reducible refine touches_interleave (sub_mem hT (by decide)) ?_ ?_)
    | (with_reducible exact keeps_newlySettled (List.Subset.trans (by decide) hT) _ _)
    | (with_reducible exact keeps_settledHandings (List.Subset.trans (by decide) hT) _)
    | (with_reducible refine ⟨?_, ?_⟩)
    | (with_reducible refine List.forall_mem_append.mpr ⟨?_, ?_⟩)
    | (with_reducible refine List.forall_mem_cons.mpr ⟨?_, ?_⟩)
    | (with_reducible exact List.forall_mem_nil _)
    | split
    | (intro t h)

theorem touches_takeReport (hT : touchGuards ⊆ T) (h : OnlyTouches T s t) (st : Setting) (actual : Word16) (status : Byte) :
    OnlyTouches T s (takeReport st actual status t) := by
  dsimp only [takeReport]
  repeat' first
    | exact h
    | (with_reducible refine touches_setRecord (List.Subset.trans (by decide) hT) ?_ ..)
    | (with_reducible refine touches_enterFault (List.Subset.trans (by decide) hT) ?_ ..)
    | (with_reducible refine touches_judgeManual (List.Subset.trans (by decide) hT) ?_ ..)
    | split

theorem touches_takeDriveFrame (hT : touchGuards ⊆ T) (h : OnlyTouches T s t) (f : Frame) :
    OnlyTouches T s (takeDriveFrame f t) := by
  dsimp only [takeDriveFrame]
  repeat' first
    | exact h
    | (with_reducible refine touches_countUnmatched (List.Subset.trans (by decide) hT) ?_ ..)
    | (with_reducible refine touches_takeAccept (List.Subset.trans (by decide) hT) ?_ ..)
    | (with_reducible refine touches_takeDone (List.Subset.trans (by decide) hT) ?_ ..)
    | (with_reducible refine touches_takeReport (List.Subset.trans (by decide) hT) ?_ ..)
    | split

theorem touches_acceptExpires (hT : touchGuards ⊆ T) (h : OnlyTouches T s t) (st : Setting) :
    OnlyTouches T s (acceptExpires st t) := by
  dsimp only [acceptExpires]
  repeat' first
    | exact h
    | (with_reducible refine touches_resendSet (List.Subset.trans (by decide) hT) ?_ ..)
    | (with_reducible refine touches_enterFault (List.Subset.trans (by decide) hT) ?_ ..)
    | split

theorem touches_trackingExpires (hT : touchGuards ⊆ T) (h : OnlyTouches T s t) (st : Setting) :
    OnlyTouches T s (trackingExpires st t) := by
  dsimp only [trackingExpires]
  repeat' first
    | exact h
    | (with_reducible refine touches_setRecord (List.Subset.trans (by decide) hT) ?_ ..)
    | (with_reducible refine touches_enterFault (List.Subset.trans (by decide) hT) ?_ ..)
    | split

theorem touches_repairMoves (hT : touchGuards ⊆ T) (h : OnlyTouches T s t) :
    OnlyTouches T s (repairMoves t) := by
  dsimp only [repairMoves]
  repeat' first
    | exact h
    | (with_reducible refine touches_giveAgain (List.Subset.trans (by decide) hT) ?_ ..)
    | (with_reducible refine touches_judgeDriveFault (List.Subset.trans (by decide) hT) ?_ ..)
    | (with_reducible refine touches_withMoves (sub_mem hT (by decide)) ?_ _)
    | (with_reducible refine touches_foldl _ ?_ (fun _ _ t h => ?_))

theorem touches_relayoutMoves (hT : touchGuards ⊆ T) (h : OnlyTouches T s t) (roster : PerSetting RosterEntry) :
    OnlyTouches T s (relayoutMoves roster t) := by
  dsimp only [relayoutMoves]
  refine touches_interleave (sub_mem hT (by decide)) (touches_withMoves (sub_mem hT (by decide)) h _) ?_
  refine List.forall_mem_append.mpr ⟨?_, keeps_flatten fun l hl => ?_⟩
  · exact List.forall_mem_cons.mpr ⟨List.forall_mem_cons.mpr ⟨fun t h => touches_judgeDriveFault hT h,
      List.forall_mem_nil _⟩, List.forall_mem_nil _⟩
  · obtain ⟨st, -, rfl⟩ := List.mem_map.mp hl
    exact keeps_settledHandings (List.Subset.trans (by decide) hT) st

/-! ### Classifier and channel unit -/

theorem touches_changeAxis (hT : [.classifier] ⊆ T) (h : OnlyTouches T s t) (a : Axis) (x : AxisState) :
    OnlyTouches T s (changeAxis a x t) := by
  dsimp only [changeAxis]
  repeat' first
    | exact h
    | (with_reducible refine touches_withClassifier (sub_mem hT (by decide)) ?_ _)

theorem touches_takeAxisValue (hT : [.classifier] ⊆ T) (h : OnlyTouches T s t) (a : Axis) (v : Word16) :
    OnlyTouches T s (takeAxisValue a v t) := by
  dsimp only [takeAxisValue]
  repeat' first
    | exact h
    | (with_reducible refine touches_changeAxis (List.Subset.trans (by decide) hT) ?_ ..)

theorem touches_freezeAxis (hT : [.classifier] ⊆ T) (h : OnlyTouches T s t) (a : Axis) :
    OnlyTouches T s (freezeAxis a t) := by
  dsimp only [freezeAxis]
  repeat' first
    | exact h
    | (with_reducible refine touches_changeAxis (List.Subset.trans (by decide) hT) ?_ ..)
    | split

theorem touches_handAdoption (hT : touchCycle ⊆ T) (h : OnlyTouches T s t) :
    OnlyTouches T s (handAdoption t) := by
  dsimp only [handAdoption]
  repeat' first
    | exact h
    | (with_reducible refine touches_raiseNotice (List.Subset.trans (by decide) hT) ?_ ..)
    | (with_reducible refine touches_publish (List.Subset.trans (by decide) hT) ?_ ..)
    | (with_reducible refine touches_takeRetarget (List.Subset.trans (by decide) hT) ?_ ..)
    | (with_reducible refine touches_interleave (sub_mem hT (by decide)) ?_ ?_)
    | (with_reducible refine ⟨?_, ?_⟩)
    | (with_reducible refine List.forall_mem_append.mpr ⟨?_, ?_⟩)
    | (with_reducible refine List.forall_mem_cons.mpr ⟨?_, ?_⟩)
    | (with_reducible exact List.forall_mem_nil _)
    | split
    | (intro t h)

theorem keeps_valueHandings (hT : touchClass ⊆ T) (r : Role) (v : Word16) : Keeps T s (valueHandings r v) := by
  unfold valueHandings
  refine List.forall_mem_append.mpr ⟨?_, ?_⟩ <;> split <;> first
    | exact List.forall_mem_nil _
    | exact List.forall_mem_cons.mpr ⟨List.forall_mem_cons.mpr
        ⟨fun _ h => touches_takeAxisValue (List.Subset.trans (by decide) hT) h .., List.forall_mem_nil _⟩, List.forall_mem_nil _⟩
    | exact List.forall_mem_cons.mpr ⟨List.forall_mem_cons.mpr
        ⟨fun _ h => touches_takeKept (List.Subset.trans (by decide) hT) h .., List.forall_mem_nil _⟩, List.forall_mem_nil _⟩

theorem keeps_unusableHandings (hT : touchClass ⊆ T) (r : Role) : Keeps T s (unusableHandings r) := by
  unfold unusableHandings
  refine List.forall_mem_append.mpr ⟨?_, ?_⟩ <;> split <;> first
    | exact List.forall_mem_nil _
    | exact List.forall_mem_cons.mpr ⟨List.forall_mem_cons.mpr
        ⟨fun _ h => touches_freezeAxis (List.Subset.trans (by decide) hT) h .., List.forall_mem_nil _⟩, List.forall_mem_nil _⟩
    | exact List.forall_mem_cons.mpr ⟨List.forall_mem_cons.mpr
        ⟨fun _ h => touches_takeKept (List.Subset.trans (by decide) hT) h .., List.forall_mem_nil _⟩, List.forall_mem_nil _⟩

theorem touches_adoptCandidate (hT : touchClass ⊆ T) (h : OnlyTouches T s t) :
    OnlyTouches T s (adoptCandidate t) := by
  dsimp only [adoptCandidate]
  repeat' first
    | exact h
    | (with_reducible refine touches_handAdoption (List.Subset.trans (by decide) hT) ?_ ..)
    | (with_reducible refine touches_withClassifier (sub_mem hT (by decide)) ?_ _)

theorem touches_rewriteAxis (hT : touchClass ⊆ T) (h : OnlyTouches T s t) (a : Axis) (d : AxisDef) (v : Word16) :
    OnlyTouches T s (rewriteAxis a d v t) := by
  dsimp only [rewriteAxis]
  repeat' first
    | exact h
    | (with_reducible refine touches_changeAxis (List.Subset.trans (by decide) hT) ?_ ..)

theorem touches_rewriteFrozenAxis (hT : touchClass ⊆ T) (h : OnlyTouches T s t) (a : Axis) (d : AxisDef) :
    OnlyTouches T s (rewriteFrozenAxis a d t) := by
  dsimp only [rewriteFrozenAxis]
  repeat' first
    | exact h
    | (with_reducible refine touches_handAdoption (List.Subset.trans (by decide) hT) ?_ ..)
    | (with_reducible refine touches_withClassifier (sub_mem hT (by decide)) ?_ _)
    | split

theorem touches_writeAxis (hT : touchClass ⊆ T) (h : OnlyTouches T s t) (a : Axis) (d : AxisDef) :
    OnlyTouches T s (writeAxis a d t) := by
  dsimp only [writeAxis]
  repeat' first
    | exact h
    | (with_reducible refine touches_rewriteAxis (List.Subset.trans (by decide) hT) ?_ ..)
    | (with_reducible refine touches_rewriteFrozenAxis (List.Subset.trans (by decide) hT) ?_ ..)
    | split

theorem touches_setChannel (hT : touchClass ⊆ T) (h : OnlyTouches T s t) (i : Fin 24) (c : Channel) :
    OnlyTouches T s (setChannel i c t) := by
  dsimp only [setChannel]
  repeat' first
    | exact h
    | (with_reducible refine touches_withChannels (sub_mem hT (by decide)) ?_ _)

theorem touches_updRuntime (hT : touchClass ⊆ T) (h : OnlyTouches T s t) (i : Fin 24) (f : ChannelRt → ChannelRt) :
    OnlyTouches T s (updRuntime i f t) := by
  dsimp only [updRuntime]
  repeat' first
    | exact h
    | (with_reducible refine touches_setChannel (List.Subset.trans (by decide) hT) ?_ ..)

theorem touches_judgeLost (hT : touchClass ⊆ T) (h : OnlyTouches T s t) :
    OnlyTouches T s (judgeLost t) := by
  dsimp only [judgeLost]
  repeat' first
    | exact h
    | (with_reducible refine touches_setCondition (List.Subset.trans (by decide) hT) ?_ ..)
    | (with_reducible refine touches_withChannels (sub_mem hT (by decide)) ?_ _)
    | split

theorem touches_countArrival (hT : touchClass ⊆ T) (h : OnlyTouches T s t) (i : Fin 24) :
    OnlyTouches T s (countArrival i t) := by
  dsimp only [countArrival]
  repeat' first
    | exact h
    | (with_reducible refine touches_raiseNotice (List.Subset.trans (by decide) hT) ?_ ..)
    | (with_reducible refine touches_updRuntime (List.Subset.trans (by decide) hT) ?_ ..)
    | (with_reducible refine touches_judgeLost (List.Subset.trans (by decide) hT) ?_ ..)
    | (with_reducible refine touches_interleave (sub_mem hT (by decide)) ?_ ?_)
    | (with_reducible refine ⟨?_, ?_⟩)
    | (with_reducible refine List.forall_mem_append.mpr ⟨?_, ?_⟩)
    | (with_reducible refine List.forall_mem_cons.mpr ⟨?_, ?_⟩)
    | (with_reducible exact List.forall_mem_nil _)
    | split
    | (intro t h)

theorem touches_takeFaulted (hT : touchClass ⊆ T) (h : OnlyTouches T s t) (i : Fin 24) (raw : Word16) :
    OnlyTouches T s (takeFaulted i raw t) := by
  dsimp only [takeFaulted]
  repeat' first
    | exact h
    | (with_reducible refine touches_raiseNotice (List.Subset.trans (by decide) hT) ?_ ..)
    | (with_reducible refine touches_updRuntime (List.Subset.trans (by decide) hT) ?_ ..)
    | split

theorem touches_rejectValue (hT : touchClass ⊆ T) (h : OnlyTouches T s t) (i : Fin 24) (scaled : Word16) :
    OnlyTouches T s (rejectValue i scaled t) := by
  dsimp only [rejectValue]
  repeat' first
    | exact h
    | (with_reducible refine touches_raiseNotice (List.Subset.trans (by decide) hT) ?_ ..)
    | (with_reducible refine touches_updRuntime (List.Subset.trans (by decide) hT) ?_ ..)
    | split

theorem touches_takeValue (hT : touchClass ⊆ T) (h : OnlyTouches T s t) (i : Fin 24) (v : Word16) :
    OnlyTouches T s (takeValue i v t) := by
  dsimp only [takeValue]
  repeat' first
    | exact h
    | (with_reducible refine touches_updRuntime (List.Subset.trans (by decide) hT) ?_ ..)
    | (with_reducible refine touches_takeAxisValue (List.Subset.trans (by decide) hT) ?_ ..)
    | (with_reducible refine touches_takeKept (List.Subset.trans (by decide) hT) ?_ ..)
    | (with_reducible refine touches_interleave (sub_mem hT (by decide)) ?_ ?_)
    | (with_reducible exact keeps_valueHandings (List.Subset.trans (by decide) hT) _ _)
    | (with_reducible refine ⟨?_, ?_⟩)
    | (with_reducible refine List.forall_mem_append.mpr ⟨?_, ?_⟩)
    | (with_reducible refine List.forall_mem_cons.mpr ⟨?_, ?_⟩)
    | (with_reducible exact List.forall_mem_nil _)
    | split

theorem touches_takeArrival (hT : touchClass ⊆ T) (h : OnlyTouches T s t) (i : Fin 24) (fault : Bool) (raw : Word16) :
    OnlyTouches T s (takeArrival i fault raw t) := by
  dsimp only [takeArrival]
  repeat' first
    | exact h
    | (with_reducible refine touches_countArrival (List.Subset.trans (by decide) hT) ?_ ..)
    | (with_reducible refine touches_takeFaulted (List.Subset.trans (by decide) hT) ?_ ..)
    | (with_reducible refine touches_rejectValue (List.Subset.trans (by decide) hT) ?_ ..)
    | (with_reducible refine touches_takeValue (List.Subset.trans (by decide) hT) ?_ ..)
    | split

theorem touches_takeSample (hT : touchClass ⊆ T) (h : OnlyTouches T s t) (f : Frame) :
    OnlyTouches T s (takeSample f t) := by
  dsimp only [takeSample]
  repeat' first
    | exact h
    | (with_reducible refine touches_takeArrival (List.Subset.trans (by decide) hT) ?_ ..)
    | split

theorem touches_enterLost (hT : touchClass ⊆ T) (h : OnlyTouches T s t) (i : Fin 24) :
    OnlyTouches T s (enterLost i t) := by
  dsimp only [enterLost]
  repeat' first
    | exact h
    | (with_reducible refine touches_raiseNotice (List.Subset.trans (by decide) hT) ?_ ..)
    | (with_reducible refine touches_updRuntime (List.Subset.trans (by decide) hT) ?_ ..)
    | (with_reducible refine touches_judgeLost (List.Subset.trans (by decide) hT) ?_ ..)
    | (with_reducible refine touches_freezeAxis (List.Subset.trans (by decide) hT) ?_ ..)
    | (with_reducible refine touches_takeKept (List.Subset.trans (by decide) hT) ?_ ..)
    | (with_reducible refine touches_interleave (sub_mem hT (by decide)) ?_ ?_)
    | (with_reducible exact keeps_unusableHandings (List.Subset.trans (by decide) hT) _)
    | (with_reducible refine ⟨?_, ?_⟩)
    | (with_reducible refine List.forall_mem_append.mpr ⟨?_, ?_⟩)
    | (with_reducible refine List.forall_mem_cons.mpr ⟨?_, ?_⟩)
    | (with_reducible exact List.forall_mem_nil _)
    | split
    | (intro t h)

theorem touches_channelExpires (hT : touchClass ⊆ T) (h : OnlyTouches T s t) (i : Fin 24) :
    OnlyTouches T s (channelExpires i t) := by
  dsimp only [channelExpires]
  repeat' first
    | exact h
    | (with_reducible refine touches_updRuntime (List.Subset.trans (by decide) hT) ?_ ..)
    | (with_reducible refine touches_enterLost (List.Subset.trans (by decide) hT) ?_ ..)
    | split

theorem touches_writeChannel (hT : touchClass ⊆ T) (h : OnlyTouches T s t) (i : Fin 24) (d : ChannelDef) :
    OnlyTouches T s (writeChannel i d t) := by
  dsimp only [writeChannel]
  repeat' first
    | exact h
    | (with_reducible refine touches_settleWaiting (List.Subset.trans (by decide) hT) ?_ ..)
    | (with_reducible refine touches_setChannel (List.Subset.trans (by decide) hT) ?_ ..)
    | (with_reducible refine touches_judgeLost (List.Subset.trans (by decide) hT) ?_ ..)
    | (with_reducible refine touches_freezeAxis (List.Subset.trans (by decide) hT) ?_ ..)
    | (with_reducible refine touches_takeKept (List.Subset.trans (by decide) hT) ?_ ..)
    | (with_reducible refine touches_interleave (sub_mem hT (by decide)) ?_ ?_)
    | (with_reducible exact keeps_unusableHandings (List.Subset.trans (by decide) hT) _)
    | (with_reducible refine ⟨?_, ?_⟩)
    | (with_reducible refine List.forall_mem_append.mpr ⟨?_, ?_⟩)
    | (with_reducible refine List.forall_mem_cons.mpr ⟨?_, ?_⟩)
    | (with_reducible exact List.forall_mem_nil _)
    | split
    | (intro t h)

theorem touches_restartChannels (hT : touchClass ⊆ T) (h : OnlyTouches T s t) (which : Option Nat) :
    OnlyTouches T s (restartChannels which t) := by
  dsimp only [restartChannels]
  refine touches_settleWaiting (List.Subset.trans (by decide) hT) (touches_interleave (sub_mem hT (by decide)) (touches_withChannels (sub_mem hT (by decide)) h _) ?_)
  refine List.forall_mem_append.mpr ⟨?_, keeps_flatten fun l hl => ?_⟩
  · exact List.forall_mem_cons.mpr ⟨List.forall_mem_cons.mpr ⟨fun t h => touches_judgeLost hT h,
      List.forall_mem_nil _⟩, List.forall_mem_nil _⟩
  · obtain ⟨i, -, rfl⟩ := List.mem_map.mp hl
    exact keeps_unusableHandings hT _

/-! ### Owner loss and checking -/

theorem touches_stopBeat (hT : [.safe] ⊆ T) (h : OnlyTouches T s t) :
    OnlyTouches T s (stopBeat t) := by
  dsimp only [stopBeat]
  repeat' first
    | exact h
    | (with_reducible refine touches_withSafe (sub_mem hT (by decide)) ?_ _)

theorem touches_enterPart (hT : [.mgmt, .pictures] ⊆ T) (h : OnlyTouches T s t) (p : PartState) :
    OnlyTouches T s (enterPart p t) := by
  dsimp only [enterPart]
  repeat' first
    | exact h
    | (with_reducible refine touches_publish (List.Subset.trans (by decide) hT) ?_ ..)
    | (with_reducible refine touches_withMgmt (sub_mem hT (by decide)) ?_ _)

theorem touches_loseOwner (hT : touchOwner ⊆ T) (h : OnlyTouches T s t) :
    OnlyTouches T s (loseOwner t) := by
  dsimp only [loseOwner]
  repeat' first
    | exact h
    | (with_reducible refine touches_publish (List.Subset.trans (by decide) hT) ?_ ..)
    | (with_reducible refine touches_moveOwnerLoss (List.Subset.trans (by decide) hT) ?_ ..)
    | (with_reducible refine touches_regOwnerLoss (List.Subset.trans (by decide) hT) ?_ ..)
    | (with_reducible refine touches_stopBeat (List.Subset.trans (by decide) hT) ?_ ..)
    | (with_reducible refine touches_withMgmt (sub_mem hT (by decide)) ?_ _)
    | (with_reducible refine touches_interleave (sub_mem hT (by decide)) ?_ ?_)
    | (with_reducible refine ⟨?_, ?_⟩)
    | (with_reducible refine List.forall_mem_append.mpr ⟨?_, ?_⟩)
    | (with_reducible refine List.forall_mem_cons.mpr ⟨?_, ?_⟩)
    | (with_reducible exact List.forall_mem_nil _)
    | split
    | (intro t h)

theorem touches_beatExpires (hT : touchOwner ⊆ T) (h : OnlyTouches T s t) :
    OnlyTouches T s (beatExpires t) := by
  dsimp only [beatExpires]
  repeat' first
    | exact h
    | (with_reducible refine touches_raiseNotice (List.Subset.trans (by decide) hT) ?_ ..)
    | (with_reducible refine touches_stopBeat (List.Subset.trans (by decide) hT) ?_ ..)
    | (with_reducible refine touches_loseOwner (List.Subset.trans (by decide) hT) ?_ ..)
    | (with_reducible refine touches_interleave (sub_mem hT (by decide)) ?_ ?_)
    | (with_reducible refine ⟨?_, ?_⟩)
    | (with_reducible refine List.forall_mem_append.mpr ⟨?_, ?_⟩)
    | (with_reducible refine List.forall_mem_cons.mpr ⟨?_, ?_⟩)
    | (with_reducible exact List.forall_mem_nil _)
    | split
    | (intro t h)

theorem touches_askIdent (hT : touchChecking ⊆ T) (h : OnlyTouches T s t) (st : Setting) :
    OnlyTouches T s (askIdent st t) := by
  dsimp only [askIdent]
  repeat' first
    | exact h
    | (with_reducible refine touches_queuePart (List.Subset.trans (by decide) hT) ?_ ..)
    | split

theorem touches_askSetting (hT : touchChecking ⊆ T) (h : OnlyTouches T s t) (st : Setting) (asks : Nat) :
    OnlyTouches T s (askSetting st asks t) := by
  dsimp only [askSetting]
  repeat' first
    | exact h
    | (with_reducible refine touches_askIdent (List.Subset.trans (by decide) hT) ?_ ..)
    | (with_reducible refine touches_withMgmt (sub_mem hT (by decide)) ?_ _)

theorem touches_startChecking (hT : touchChecking ⊆ T) (h : OnlyTouches T s t) :
    OnlyTouches T s (startChecking t) := by
  dsimp only [startChecking]
  repeat' first
    | exact h
    | (with_reducible refine touches_enterPart (List.Subset.trans (by decide) hT) ?_ ..)
    | (with_reducible refine touches_askSetting (List.Subset.trans (by decide) hT) ?_ ..)

theorem touches_endChecking (hT : touchChecking ⊆ T) (h : OnlyTouches T s t) (next : PartState) (kind : NoticeKind) (subject detail : Nat) :
    OnlyTouches T s (endChecking next kind subject detail t) := by
  dsimp only [endChecking]
  repeat' first
    | exact h
    | (with_reducible refine touches_raiseNotice (List.Subset.trans (by decide) hT) ?_ ..)
    | (with_reducible refine touches_publish (List.Subset.trans (by decide) hT) ?_ ..)
    | (with_reducible refine touches_withMgmt (sub_mem hT (by decide)) ?_ _)
    | (with_reducible refine touches_interleave (sub_mem hT (by decide)) ?_ ?_)
    | (with_reducible refine ⟨?_, ?_⟩)
    | (with_reducible refine List.forall_mem_append.mpr ⟨?_, ?_⟩)
    | (with_reducible refine List.forall_mem_cons.mpr ⟨?_, ?_⟩)
    | (with_reducible exact List.forall_mem_nil _)
    | split
    | (intro t h)

theorem touches_failDrive (hT : touchChecking ⊆ T) (h : OnlyTouches T s t) (st : Setting) (cause : Nat) :
    OnlyTouches T s (failDrive st cause t) := by
  dsimp only [failDrive]
  repeat' first
    | exact h
    | (with_reducible refine touches_endChecking (List.Subset.trans (by decide) hT) ?_ ..)

theorem touches_passDrive (hT : touchChecking ⊆ T) (h : OnlyTouches T s t) (st : Setting) :
    OnlyTouches T s (passDrive st t) := by
  dsimp only [passDrive]
  repeat' first
    | exact h
    | (with_reducible refine touches_askSetting (List.Subset.trans (by decide) hT) ?_ ..)
    | (with_reducible refine touches_endChecking (List.Subset.trans (by decide) hT) ?_ ..)
    | split

theorem touches_takeIdent (hT : touchChecking ⊆ T) (h : OnlyTouches T s t) (f : Frame) :
    OnlyTouches T s (takeIdent f t) := by
  dsimp only [takeIdent]
  repeat' first
    | exact h
    | (with_reducible refine touches_failDrive (List.Subset.trans (by decide) hT) ?_ ..)
    | (with_reducible refine touches_passDrive (List.Subset.trans (by decide) hT) ?_ ..)
    | split

theorem touches_answerExpires (hT : touchChecking ⊆ T) (h : OnlyTouches T s t) (c : Checking) :
    OnlyTouches T s (answerExpires c t) := by
  dsimp only [answerExpires]
  repeat' first
    | exact h
    | (with_reducible refine touches_askSetting (List.Subset.trans (by decide) hT) ?_ ..)
    | (with_reducible refine touches_failDrive (List.Subset.trans (by decide) hT) ?_ ..)
    | split

theorem touches_startRegulating (hT : touchOwner ⊆ T) (h : OnlyTouches T s t) :
    OnlyTouches T s (startRegulating t) := by
  dsimp only [startRegulating]
  repeat' first
    | exact h
    | (with_reducible refine touches_publish (List.Subset.trans (by decide) hT) ?_ ..)
    | (with_reducible refine touches_takeStart (List.Subset.trans (by decide) hT) ?_ ..)
    | (with_reducible refine touches_withMgmt (sub_mem hT (by decide)) ?_ _)
    | (with_reducible refine touches_interleave (sub_mem hT (by decide)) ?_ ?_)
    | (with_reducible refine ⟨?_, ?_⟩)
    | (with_reducible refine List.forall_mem_append.mpr ⟨?_, ?_⟩)
    | (with_reducible refine List.forall_mem_cons.mpr ⟨?_, ?_⟩)
    | (with_reducible exact List.forall_mem_nil _)
    | split
    | (intro t h)

theorem touches_stopRegulating (hT : touchOwner ⊆ T) (h : OnlyTouches T s t) :
    OnlyTouches T s (stopRegulating t) := by
  dsimp only [stopRegulating]
  repeat' first
    | exact h
    | (with_reducible refine touches_publish (List.Subset.trans (by decide) hT) ?_ ..)
    | (with_reducible refine touches_takeStop (List.Subset.trans (by decide) hT) ?_ ..)
    | (with_reducible refine touches_withMgmt (sub_mem hT (by decide)) ?_ _)
    | (with_reducible refine touches_interleave (sub_mem hT (by decide)) ?_ ?_)
    | (with_reducible refine ⟨?_, ?_⟩)
    | (with_reducible refine List.forall_mem_append.mpr ⟨?_, ?_⟩)
    | (with_reducible refine List.forall_mem_cons.mpr ⟨?_, ?_⟩)
    | (with_reducible exact List.forall_mem_nil _)
    | split
    | (intro t h)

/-! ### Frames and requests -/

theorem touches_stationClash (hT : touchGuards ⊆ T) (h : OnlyTouches T s t) (p : Port) :
    OnlyTouches T s (stationClash p t) := by
  dsimp only [stationClash]
  repeat' first
    | exact h
    | (with_reducible refine touches_raiseNotice (List.Subset.trans (by decide) hT) ?_ ..)
    | (with_reducible refine touches_takeEvent (List.Subset.trans (by decide) hT) ?_ ..)
    | (with_reducible refine touches_interleave (sub_mem hT (by decide)) ?_ ?_)
    | (with_reducible refine ⟨?_, ?_⟩)
    | (with_reducible refine List.forall_mem_append.mpr ⟨?_, ?_⟩)
    | (with_reducible refine List.forall_mem_cons.mpr ⟨?_, ?_⟩)
    | (with_reducible exact List.forall_mem_nil _)
    | split
    | (intro t h)

theorem touches_learnSide (hT : [.link] ⊆ T) (h : OnlyTouches T s t) (source : Byte) (p : Port) :
    OnlyTouches T s (learnSide source p t) := by
  dsimp only [learnSide]
  repeat' first
    | exact h
    | (with_reducible refine touches_withLink (sub_mem hT (by decide)) ?_ _)

theorem touches_forwardFrame (hT : [.link] ⊆ T) (h : OnlyTouches T s t) (p : Port) (f : Frame) :
    OnlyTouches T s (forwardFrame p f t) := by
  dsimp only [forwardFrame]
  repeat' first
    | exact h
    | (with_reducible refine touches_updPort (List.Subset.trans (by decide) hT) ?_ ..)

theorem touches_routeBroadcast (hT : touchFrame ⊆ T) (h : OnlyTouches T s t) (p : Port) (f : Frame) :
    OnlyTouches T s (routeBroadcast p f t) := by
  dsimp only [routeBroadcast]
  repeat' first
    | exact h
    | (with_reducible refine touches_updPort (List.Subset.trans (by decide) hT) ?_ ..)
    | (with_reducible refine touches_takeSample (List.Subset.trans (by decide) hT) ?_ ..)
    | (with_reducible refine touches_forwardFrame (List.Subset.trans (by decide) hT) ?_ ..)
    | (with_reducible refine touches_interleave (sub_mem hT (by decide)) ?_ ?_)
    | (with_reducible refine ⟨?_, ?_⟩)
    | (with_reducible refine List.forall_mem_append.mpr ⟨?_, ?_⟩)
    | (with_reducible refine List.forall_mem_cons.mpr ⟨?_, ?_⟩)
    | (with_reducible exact List.forall_mem_nil _)
    | split
    | (intro t h)

theorem touches_routeOther (hT : touchFrame ⊆ T) (h : OnlyTouches T s t) (p : Port) (f : Frame) :
    OnlyTouches T s (routeOther p f t) := by
  dsimp only [routeOther]
  repeat' first
    | exact h
    | (with_reducible refine touches_updPort (List.Subset.trans (by decide) hT) ?_ ..)
    | (with_reducible refine touches_forwardFrame (List.Subset.trans (by decide) hT) ?_ ..)
    | split

theorem touches_handRequest (hT : [.mgmt] ⊆ T) (h : OnlyTouches T s t) (p : Port) (f : Frame) :
    OnlyTouches T s (handRequest p f t) := by
  dsimp only [handRequest]
  repeat' first
    | exact h
    | (with_reducible refine touches_withMgmt (sub_mem hT (by decide)) ?_ _)
    | split

theorem touches_consumeFrame (hT : touchFrame ⊆ T) (h : OnlyTouches T s t) (p : Port) (f : Frame) :
    OnlyTouches T s (consumeFrame p f t) := by
  dsimp only [consumeFrame]
  repeat' first
    | exact h
    | (with_reducible refine touches_takeDriveFrame (List.Subset.trans (by decide) hT) ?_ ..)
    | (with_reducible refine touches_takeSample (List.Subset.trans (by decide) hT) ?_ ..)
    | (with_reducible refine touches_takeIdent (List.Subset.trans (by decide) hT) ?_ ..)
    | (with_reducible refine touches_handRequest (List.Subset.trans (by decide) hT) ?_ ..)
    | split

theorem touches_routeFrame (hT : touchFrame ⊆ T) (h : OnlyTouches T s t) (p : Port) (f : Frame) :
    OnlyTouches T s (routeFrame p f t) := by
  dsimp only [routeFrame]
  repeat' first
    | exact h
    | (with_reducible refine touches_routeBroadcast (List.Subset.trans (by decide) hT) ?_ ..)
    | (with_reducible refine touches_routeOther (List.Subset.trans (by decide) hT) ?_ ..)
    | (with_reducible refine touches_consumeFrame (List.Subset.trans (by decide) hT) ?_ ..)
    | split

theorem touches_takeGoodFrame (hT : touchFrame ⊆ T) (h : OnlyTouches T s t) (p : Port) (f : Frame) :
    OnlyTouches T s (takeGoodFrame p f t) := by
  dsimp only [takeGoodFrame]
  repeat' first
    | exact h
    | (with_reducible refine touches_stationClash (List.Subset.trans (by decide) hT) ?_ ..)
    | (with_reducible refine touches_learnSide (List.Subset.trans (by decide) hT) ?_ ..)
    | (with_reducible refine touches_routeFrame (List.Subset.trans (by decide) hT) ?_ ..)
    | split

theorem touches_receiveFrame (hT : touchFrame ⊆ T) (h : OnlyTouches T s t) (p : Port) (bytes : List Byte) (framingError : Bool) :
    OnlyTouches T s (receiveFrame p bytes framingError t) := by
  dsimp only [receiveFrame]
  repeat' first
    | exact h
    | (with_reducible refine touches_updPort (List.Subset.trans (by decide) hT) ?_ ..)
    | (with_reducible refine touches_takeGoodFrame (List.Subset.trans (by decide) hT) ?_ ..)
    | split

theorem touches_reportLeft (hT : [.mgmt] ⊆ T) (h : OnlyTouches T s t) (p : Port) (e : Entry) :
    OnlyTouches T s (reportLeft p e t) := by
  dsimp only [reportLeft]
  repeat' first
    | exact h
    | (with_reducible refine touches_replyLeft (List.Subset.trans (by decide) hT) ?_ ..)
    | split

theorem touches_sentFrame (hT : touchReply ⊆ T) (h : OnlyTouches T s t) (p : Port) (i : Nat) (e : Entry) :
    OnlyTouches T s (sentFrame p i e t) := by
  dsimp only [sentFrame]
  repeat' first
    | exact h
    | (with_reducible refine touches_updPort (List.Subset.trans (by decide) hT) ?_ ..)
    | (with_reducible refine touches_reportLeft (List.Subset.trans (by decide) hT) ?_ ..)
    | split

theorem touches_dropInProgress (hT : touchFrame ⊆ T) (h : OnlyTouches T s t) (p : Port) (i : Nat) (e : Entry) :
    OnlyTouches T s (dropInProgress p i e t) := by
  dsimp only [dropInProgress]
  repeat' first
    | exact h
    | (with_reducible refine touches_updPort (List.Subset.trans (by decide) hT) ?_ ..)
    | (with_reducible refine touches_raiseNotice (List.Subset.trans (by decide) hT) ?_ ..)
    | (with_reducible refine touches_takeEvent (List.Subset.trans (by decide) hT) ?_ ..)
    | (with_reducible refine touches_reportLeft (List.Subset.trans (by decide) hT) ?_ ..)
    | (with_reducible refine touches_interleave (sub_mem hT (by decide)) ?_ ?_)
    | (with_reducible refine ⟨?_, ?_⟩)
    | (with_reducible refine List.forall_mem_append.mpr ⟨?_, ?_⟩)
    | (with_reducible refine List.forall_mem_cons.mpr ⟨?_, ?_⟩)
    | (with_reducible exact List.forall_mem_nil _)
    | split
    | (intro t h)

theorem touches_collideFrame (hT : touchFrame ⊆ T) (h : OnlyTouches T s t) (p : Port) (i : Nat) (e : Entry) (attempts : Nat) :
    OnlyTouches T s (collideFrame p i e attempts t) := by
  dsimp only [collideFrame]
  repeat' first
    | exact h
    | (with_reducible refine touches_updPort (List.Subset.trans (by decide) hT) ?_ ..)
    | (with_reducible refine touches_dropInProgress (List.Subset.trans (by decide) hT) ?_ ..)
    | split

theorem touches_raiseOperator (hT : touchGuards ⊆ T) (h : OnlyTouches T s t) : OnlyTouches T s (raiseOperator t) :=
  touches_settleGuards hT (touches_raiseEvent hT h 11)

theorem touches_settleBefore (hT : touchGuards ⊆ T) (h : OnlyTouches T s t) (c : Instr) :
    OnlyTouches T s (settleBefore c t) := by
  unfold settleBefore
  split
  · exact h
  · exact touches_settleWaiting hT h

theorem touches_takeRequest (hT : .mgmt :: touchGuards ⊆ T) (h : OnlyTouches T s t) (c : Instr) :
    OnlyTouches T s (takeRequest c t) := by
  dsimp only [takeRequest]
  repeat' first
    | exact h
    | (with_reducible refine touches_settleBefore (List.Subset.trans (by decide) hT) ?_ ..)
    | (with_reducible refine touches_withMgmt (sub_mem hT (by decide)) ?_ _)

end Sys2Proof.Machine
end

