-- ==== Sys2Proof/Laws/Moves.lean ====
section
/-! SUPPORT. What giving a goal does to the move records, the two outcomes of an interleaved pair of handings, what
a search of the plan finds, and the ways the arbiter ends the handling of a raise. -/

namespace Sys2Proof.Machine

/-- Two handings not ordered between them: either goes first. -/
theorem interleave_pair (a b : Handing) (s : State) :
    interleave [[a], [b]] s = b (a (s.withOrder s.order.tail)) ∨
    interleave [[a], [b]] s = a (b (s.withOrder s.order.tail)) := by
  unfold interleave
  have h2 : s.order.head?.getD 0 % 2 = 0 ∨ s.order.head?.getD 0 % 2 = 1 := by omega
  rcases h2 with h | h
  · left
    simp [mergeChains, h]
  · right
    simp [mergeChains, h]

/-- A record just written is read back. -/
theorem records_set_get (m : PerSetting MoveRecord) (st) (r) : (m.set st r).get st = r := by cases st <;> rfl

/-- A goal given to one setting leaves the records of the others. -/
theorem giveGoal_other (st o : Setting) (g : Goal) (s : State) (h : o ≠ st) :
    (giveGoal st g s).record o = s.record o := by
  have hs : ∀ (m : PerSetting MoveRecord) r, (m.set st r).get o = m.get o := by
    intro m r; cases st <;> cases o <;> first | rfl | exact absurd rfl h
  unfold giveGoal issueSet queueSet storeGoal setRecord State.record
  split
  · simp [hs]
  · split
    · simp [hs]
    · split
      · simp [hs]
      · split <;> simp [hs, queuePart, updPort]

/-- The record a goal leaves depends on the record, the roster, the holds, the parameters and the time alone. -/
theorem giveGoal_record (st : Setting) (g : Goal) (s t : State) (hm : t.moves.roster = s.moves.roster)
   (h1 : t.moves.heldThresh = s.moves.heldThresh) (h2 : t.moves.heldClean = s.moves.heldClean)
   (hr : t.record st = s.record st) (hp : t.mgmt.params = s.mgmt.params) (ht : t.partTime = s.partTime) :
   (giveGoal st g t).record st = (giveGoal st g s).record st := by
  have e1 : t.goalKept st = s.goalKept st := by simp [State.goalKept, hr, State.driveStation, hm]
  have e2 : t.groupHeld st = s.groupHeld st := by simp [State.groupHeld, h1, h2]
  unfold giveGoal
  rw [e1, e2]
  split
  · simp [storeGoal, setRecord, State.record] at *; simp [records_set_get, hr]
  · split
    · simp [setRecord, State.record] at *; simp [records_set_get, hr]
    · have : ∀ u : State, (issueSet st (storeGoal st g u)).record st =
          ({ u.record st with goal := some g, deferred := none } : MoveRecord).issue
            u.mgmt.params st u.partTime g.value := by
        intro u
        unfold issueSet storeGoal queueSet setRecord State.record
        simp [records_set_get]
        split <;> simp [records_set_get, queuePart, updPort]
      rw [this, this, hr, hp, ht]

/-- A goal changes nothing of the move unit but its setting's record. -/
theorem giveGoal_moves (st : Setting) (g : Goal) (s : State) :
   (giveGoal st g s).moves = { s.moves with records := s.moves.records.set st ((giveGoal st g s).record st) } := by
  unfold giveGoal issueSet queueSet storeGoal setRecord State.record
  have : ∀ (m : PerSetting MoveRecord) a b, (m.set st a).set st b = m.set st b := by intro m a b; cases st <;> rfl
  split
  · simp [records_set_get]
  · split
    · simp [records_set_get]
    · split
      · rename_i h; simp [records_set_get] at h
      · split <;> simp [records_set_get, queuePart, updPort, this]

/-- The search finds the first position at or after the cursor whose step passes the test, or none (R128). -/
theorem searchSteps_spec (ok : PlanStep → Bool) (c : Nat) : ∀ (l : List PlanStep) (b : Nat),
    (∀ k p, b ≤ k → l[k - b]? = some p → c ≤ k → ok p = true →
      (∀ j q, b ≤ j → l[j - b]? = some q → c ≤ j → ok q = true → k ≤ j) → searchSteps ok c b l = some (k, p)) ∧
    ((∀ k p, b ≤ k → l[k - b]? = some p → c ≤ k → ok p = false) → searchSteps ok c b l = none) := by
  intro l
  induction l with
  | nil => intro b; refine ⟨?_, fun _ => rfl⟩; intro k p _ h; simp at h
  | cons a as ih =>
    intro b
    obtain ⟨i1, i2⟩ := ih (b+1)
    have sh : ∀ k (q : PlanStep), b + 1 ≤ k → (as[k - (b+1)]? = some q ↔ (a :: as)[k-b]? = some q) := by
      intro k q hk
      rw [show k - b = (k - (b+1)) + 1 by omega]; simp
    refine ⟨?_, ?_⟩
    · intro k p hb hk hc ho hmin
      unfold searchSteps
      split
      · rename_i h
        have hkb : k ≤ b := hmin b a (by omega) (by simp) h.1 h.2
        have : k = b := by omega
        subst this; simp at hk; rw [hk]
      · rename_i h
        have : k ≠ b := by
          rintro rfl; simp at hk; subst hk; exact h ⟨hc, ho⟩
        apply i1 k p (by omega) ((sh k p (by omega)).mpr hk) hc ho
        intro j q hj hq hcj hoj
        exact hmin j q (by omega) ((sh j q hj).mp hq) hcj hoj
    · intro h
      unfold searchSteps
      split
      · rename_i h'
        have := h b a (by omega) (by simp) h'.1
        simp [this] at h'
      · apply i2
        intro k p hk hp hc
        exact h k p (by omega) ((sh k p hk).mp hp) hc

/-- The handling of a raise ends in the examination and the judgement at once, or puts them off, once only. -/
theorem settleRaised_spec (due : ExamineDue) (n : Fin 12) (s : State) :
    settleRaised due n s = settleGuards s ∨ settleRaised due n s = settleGuards (s.withOrder s.order.tail) ∨
    (s.guards.nextActing = some n ∧ s.settled ∧
      settleRaised due n s = (s.withOrder s.order.tail).withGuards { s.guards with examineDue := due }) := by
  unfold settleRaised
  split
  · rename_i h
    dsimp only
    split
    · exact .inr (.inl rfl)
    · exact .inr (.inr ⟨h.1, h.2, rfl⟩)
  · exact .inl rfl

/-- Nothing is made up when nothing was put off. -/
theorem settleWaiting_of_settled {s : State} (h : s.settled) : settleWaiting s = s := if_pos h

/-- The examination and the judgement leave none put off. -/
theorem settleGuards_settled (s : State) : (settleGuards s).settled := by
  have he : (examineGuards (endWait s)).settled := by
    unfold examineGuards
    split
    · rw [State.settled, actGuard, (touches_raiseNotice (List.Subset.refl _) (.refl _ _) _ _ _).guards (by decide)]
      rfl
    · rfl
  unfold settleGuards judgeAction
  dsimp only
  split
  · exact he
  · rw [State.settled, (touches_interleave (T := touchCycle) (by decide) (.refl _ _) (by
      refine List.forall_mem_cons.mpr ⟨List.forall_mem_cons.mpr ⟨fun t h => ?_, List.forall_mem_nil _⟩,
        List.forall_mem_cons.mpr ⟨List.forall_mem_cons.mpr ⟨fun t h => ?_, List.forall_mem_nil _⟩, List.forall_mem_nil _⟩⟩
      · exact touches_takeAction (List.Subset.refl _) h _
      · exact touches_publish (by decide) h)).guards (by decide)]
    exact he

/-- Before a request is taken, nothing is made up when nothing was put off. -/
theorem settleBefore_of_settled {s : State} (h : s.settled) (c : Instr) : settleBefore c s = s := by
  unfold settleBefore
  split
  · rfl
  · exact settleWaiting_of_settled h

/-- While an examination is put off, no reply is handed to a port. -/
theorem handOver_of_examineDue {s : State} (h : ¬ s.settled) (p : Port) : handOver p s = s := by
  simp [handOver, h]

end Sys2Proof.Machine
end

