-- ==== Sys2Proof/Laws/PerInstr.lean ====
section
/-! SUPPORT. The family `Shape`: what every command's syntax has in common. A well-formed request comes
from a station 0 to 62 (R3, R7 check 5), carries a code of one byte (R5), and its fields are bytes of a
REQUEST payload; the other commands carry no sender. -/

namespace Sys2Proof.Laws.Shape

/-- A well-formed command that is a request has a sender 0 to 62 and a code of one byte. -/
def Statement (i : Instr) : Prop :=
  i.wellFormed = true → ∀ r code, i.request = some (r, code) → r.station.toNat ≤ 62 ∧ code < 256

/-- A command that is no request. -/
theorem of_none {i : Instr} (h : i.request = none) : Statement i := fun _ r code hr => by simp [h] at hr

/-- A request with its sender and its code. -/
theorem of_some {i : Instr} {r : Sender} {code : Nat} (h : i.request = some (r, code)) (hc : code < 256) :
    Statement i := fun hw r' code' hr => by
  rw [h] at hr
  obtain ⟨rfl, rfl⟩ := Prod.mk.inj (Option.some.inj hr)
  simp only [Instr.wellFormed, h, Sender.wellFormed, Bool.and_eq_true, decide_eq_true_eq] at hw
  exact ⟨hw.1, hc⟩

theorem frameEnd (port : Port) (bytes : List Byte) (framingError : Bool) : Statement (.frameEnd port bytes framingError) := of_none rfl

theorem txChoose (port : Port) (idleBits : Nat) : Statement (.txChoose port idleBits) := of_none rfl

theorem txSuccess (port : Port) : Statement (.txSuccess port) := of_none rfl

theorem txCollision (port : Port) : Statement (.txCollision port) := of_none rfl

theorem backoffEnd (port : Port) (idleMs : Nat) : Statement (.backoffEnd port idleMs) := of_none rfl

theorem replyHandover (port : Port) : Statement (.replyHandover port) := of_none rfl

theorem channelWindowExpiry (entry : Fin 24) : Statement (.channelWindowExpiry entry) := of_none rfl

theorem dwellExpiry : Statement .dwellExpiry := of_none rfl

theorem acceptTimerExpiry (setting : Setting) : Statement (.acceptTimerExpiry setting) := of_none rfl

theorem moveTimerExpiry (setting : Setting) : Statement (.moveTimerExpiry setting) := of_none rfl

theorem driveTrackingExpiry (setting : Setting) : Statement (.driveTrackingExpiry setting) := of_none rfl

theorem windowAExpiry : Statement .windowAExpiry := of_none rfl

theorem windowBExpiry : Statement .windowBExpiry := of_none rfl

theorem slipDwellExpiry (rotor : Rotor) : Statement (.slipDwellExpiry rotor) := of_none rfl

theorem clearDwellExpiry (source : Fin 12) : Statement (.clearDwellExpiry source) := of_none rfl

theorem lineLevelSettled (line : MachineLine) (high : Bool) : Statement (.lineLevelSettled line high) := of_none rfl

theorem heartbeatExpiry : Statement .heartbeatExpiry := of_none rfl

theorem answerTimerExpiry : Statement .answerTimerExpiry := of_none rfl

theorem saveWriteEnd : Statement .saveWriteEnd := of_none rfl

theorem powerOnReset (straps : BitVec 3) : Statement (.powerOnReset straps) := of_none rfl

theorem restartAct (straps : BitVec 3) : Statement (.restartAct straps) := of_none rfl

theorem unknownRequest (r : Sender) (code : Byte) (fields : List Byte) : Statement (.unknownRequest r code fields) := of_some rfl code.isLt

theorem channelRead (r : Sender) (index view : Byte) : Statement (.channelRead r index view) := of_some rfl (by decide)

theorem channelWrite (r : Sender) (index : Byte) (f : ChannelFields) : Statement (.channelWrite r index f) := of_some rfl (by decide)

theorem errorReset (r : Sender) : Statement (.errorReset r) := of_some rfl (by decide)

theorem channelRestart (r : Sender) (index : Byte) : Statement (.channelRestart r index) := of_some rfl (by decide)

theorem axisWrite (r : Sender) (axis : Byte) (hysteresis : Word16) (defaultBand : Byte) (thresholds : List Word16) : Statement (.axisWrite r axis hysteresis defaultBand thresholds) := of_some rfl (by decide)

theorem classRead (r : Sender) (view axis : Byte) : Statement (.classRead r view axis) := of_some rfl (by decide)

theorem cellWrite (r : Sender) (bank cell : Byte) (f : CellFields) : Statement (.cellWrite r bank cell f) := of_some rfl (by decide)

theorem cellFill (r : Sender) (bank : Byte) (block : BandBlock) (f : CellFields) : Statement (.cellFill r bank block f) := of_some rfl (by decide)

theorem planWrite (r : Sender) (bank count : Byte) (steps : List Word16) : Statement (.planWrite r bank count steps) := of_some rfl (by decide)

theorem sidetrimWrite (r : Sender) (bank : Byte) (offsets : PerSide (Word16 × Word16)) : Statement (.sidetrimWrite r bank offsets) := of_some rfl (by decide)

theorem headerWrite (r : Sender) (bank : Byte) (label llim tlim : Word16) : Statement (.headerWrite r bank label llim tlim) := of_some rfl (by decide)

theorem cellRead (r : Sender) (bank cell view side : Byte) : Statement (.cellRead r bank cell view side) := of_some rfl (by decide)

theorem bankRead (r : Sender) (bank view : Byte) : Statement (.bankRead r bank view) := of_some rfl (by decide)

theorem bankClear (r : Sender) (bank : Byte) : Statement (.bankClear r bank) := of_some rfl (by decide)

theorem bankCopy (r : Sender) : Statement (.bankCopy r) := of_some rfl (by decide)

theorem switchBank (r : Sender) : Statement (.switchBank r) := of_some rfl (by decide)

theorem clearTrims (r : Sender) (bank cell : Byte) : Statement (.clearTrims r bank cell) := of_some rfl (by decide)

theorem holdAdjust (r : Sender) (mask : Byte) : Statement (.holdAdjust r mask) := of_some rfl (by decide)

theorem releaseAdjust (r : Sender) (mask : Byte) : Statement (.releaseAdjust r mask) := of_some rfl (by decide)

theorem releaseOnce (r : Sender) (mask : Byte) : Statement (.releaseOnce r mask) := of_some rfl (by decide)

theorem moveRead (r : Sender) (setting : Byte) : Statement (.moveRead r setting) := of_some rfl (by decide)

theorem tuneWindows (r : Sender) (settle measure recheck : Word16) : Statement (.tuneWindows r settle measure recheck) := of_some rfl (by decide)

theorem regulatorRead (r : Sender) : Statement (.regulatorRead r) := of_some rfl (by decide)

theorem guardConfig (r : Sender) (source : Byte) (f : GuardFields) : Statement (.guardConfig r source f) := of_some rfl (by decide)

theorem guardMask (r : Sender) (mask : Word16) : Statement (.guardMask r mask) := of_some rfl (by decide)

theorem guardFloor (r : Sender) (floor : Byte) : Statement (.guardFloor r floor) := of_some rfl (by decide)

theorem guardRelease (r : Sender) (source : Byte) : Statement (.guardRelease r source) := of_some rfl (by decide)

theorem guardRaise (r : Sender) : Statement (.guardRaise r) := of_some rfl (by decide)

theorem guardPeek (r : Sender) (view source : Byte) : Statement (.guardPeek r view source) := of_some rfl (by decide)

theorem substituteWrite (r : Sender) (presentMask : Byte) (values : PerSetting Word16) : Statement (.substituteWrite r presentMask values) := of_some rfl (by decide)

theorem beatEnable (r : Sender) : Statement (.beatEnable r) := of_some rfl (by decide)

theorem beatDisable (r : Sender) : Statement (.beatDisable r) := of_some rfl (by decide)

theorem beat (r : Sender) : Statement (.beat r) := of_some rfl (by decide)

theorem substituteRead (r : Sender) : Statement (.substituteRead r) := of_some rfl (by decide)

theorem paramWrite (r : Sender) (item : Byte) (value : Word16) : Statement (.paramWrite r item value) := of_some rfl (by decide)

theorem paramClose (r : Sender) : Statement (.paramClose r) := of_some rfl (by decide)

theorem paramOpen (r : Sender) : Statement (.paramOpen r) := of_some rfl (by decide)

theorem paramRead (r : Sender) (view item : Byte) : Statement (.paramRead r view item) := of_some rfl (by decide)

theorem layoutWrite (r : Sender) (pairs : PerSetting (Byte × Byte)) : Statement (.layoutWrite r pairs) := of_some rfl (by decide)

theorem layoutClose (r : Sender) : Statement (.layoutClose r) := of_some rfl (by decide)

theorem start (r : Sender) : Statement (.start r) := of_some rfl (by decide)

theorem stop (r : Sender) : Statement (.stop r) := of_some rfl (by decide)

theorem releaseOwner (r : Sender) : Statement (.releaseOwner r) := of_some rfl (by decide)

theorem fetchNotices (r : Sender) : Statement (.fetchNotices r) := of_some rfl (by decide)

theorem pictureRead (r : Sender) : Statement (.pictureRead r) := of_some rfl (by decide)

theorem countersRead (r : Sender) : Statement (.countersRead r) := of_some rfl (by decide)

theorem save (r : Sender) : Statement (.save r) := of_some rfl (by decide)

theorem restart (r : Sender) : Statement (.restart r) := of_some rfl (by decide)

theorem resume (r : Sender) : Statement (.resume r) := of_some rfl (by decide)

theorem resetDrivenActive : Statement .resetDrivenActive := of_none rfl

end Sys2Proof.Laws.Shape
end

