-- ==== Sys2Proof/Laws/Requests.lean ====
section
/-! SUPPORT. What a served request can come to: its body, or the answer of the first of R181's tests that fails. -/

namespace Sys2Proof.Machine

variable {s : State} {r : Sender} {code : Nat} {mode : RequestMode} {column : PartState → Bool}
  {body : State → State} {c : Instr}

/-- While the part works, a command has its effect. -/
theorem live_of_works {f : State → State} (h : s.works) : live f s = .next (f s) := by
  simp [live, State.works] at *; simp [h]

/-- While RESET is driven active, a command has none. -/
theorem live_of_inReset {f : State → State} (h : s.pins.inReset = true) : live f s = .next s := by
  simp [live, h]

/-- Taking a request changes the list of requests alone, when no examination is put off. -/
theorem taken_eq (h : s.settled) : s.taken c = s.withMgmt { s.mgmt with inbox := s.mgmt.inbox.erase c } := by
  simp only [State.taken, takeRequest, settleBefore_of_settled h]

/-- Taking a request changes nothing else of the management unit, whatever the arbiter owes. -/
theorem taken_mgmt : (s.taken c).mgmt = { s.mgmt with inbox := s.mgmt.inbox.erase c } := by
  have h : (settleBefore c s).mgmt = s.mgmt :=
    (touches_settleBefore (List.Subset.refl _) (.refl _ s) c).mgmt (by decide)
  simp [State.taken, takeRequest, h]

/-- Taking a request leaves the part as busy as it was. -/
theorem taken_busy : (s.taken c).mgmt.busy = s.mgmt.busy := by rw [taken_mgmt]; rfl

/-- The owner test sees the owner the part has. -/
theorem ownerTest_taken_of_passes (hm : mode = .read ∨ s.mgmt.owner = some r.station) :
    ownerTest mode r (s.taken c) = some (s.taken c) := by
  rcases hm with rfl | hm
  · rfl
  · have : (s.taken c).mgmt.owner = some r.station := by rw [taken_mgmt]; exact hm
    cases mode <;> simp [ownerTest, this]

/-- An admitted request runs its body on the state with the request taken. -/
theorem serve_of_admits (h : s.admits r mode column) :
    serve c r code mode column body s = body (s.taken c) := by
  obtain ⟨⟨_, hb⟩, _, hm, hc⟩ := h
  have hc' : column (s.taken c).mgmt.partState = true := by rw [taken_mgmt]; exact hc
  simp only [serve, judgeRequest]
  rw [show (takeRequest c s).mgmt.busy = false from taken_busy.trans hb,
    show ownerTest mode r (takeRequest c s) = _ from ownerTest_taken_of_passes hm]
  simp [hc']

/-- Words beyond those asked for are ignored. -/
theorem wordsAsked_of_le {n : Nat} {words : List Word16} (h : n ≤ words.length) :
    wordsAsked n words = some (words.take n) := if_neg (Nat.not_lt.mpr h)

/-- Too few words. -/
theorem wordsAsked_of_lt {n : Nat} {words : List Word16} (h : words.length < n) : wordsAsked n words = none := if_pos h

/-- The words asked for, and more. -/
theorem wordsAsked_append {words extra : List Word16} :
    wordsAsked words.length (words ++ extra) = some words := by
  rw [wordsAsked_of_le (by simp)]; simp

/-- An Axis above 3 asks for no thresholds. -/
theorem axisWords_of_none {axis : Byte} (h : Axis.ofNum axis.toNat = none) : axisWords axis = 0 := by
  simp [axisWords, h]

/-- An Axis in range asks for as many thresholds as it has. -/
theorem axisWords_of_some {axis : Byte} {a : Axis} (h : Axis.ofNum axis.toNat = some a) : axisWords axis = a.highest := by
  simp [axisWords, h]

/-- A request that meets a busy part is answered BUSY. -/
theorem serve_of_busy (h : s.mgmt.busy = true) :
    serve c r code mode column body s = answer r code .busy [] (s.taken c) := by
  simp only [serve]
  rw [show (takeRequest c s).mgmt.busy = true from taken_busy.trans h]
  simp

/-- A request that is not BEAT nor a read, from a station that is not the owner and may not claim. -/
theorem ownerTest_none (hm : mode ≠ .read) (ho : s.mgmt.owner ≠ some r.station)
    (hn : s.mgmt.owner ≠ none ∨ s.mgmt.partState ≠ .awaitParam ∨ mode = .noClaim) : ownerTest mode r s = none := by
  cases mode <;> cases hO : s.mgmt.owner <;> simp_all [ownerTest]

/-- It is answered NOT_OWNER. -/
theorem serve_of_notOwner (hb : s.mgmt.busy = false) (hm : mode ≠ .read) (ho : s.mgmt.owner ≠ some r.station)
    (hn : s.mgmt.owner ≠ none ∨ s.mgmt.partState ≠ .awaitParam ∨ mode = .noClaim) :
    serve c r code mode column body s = answer r code .notOwner [] (s.taken c) := by
  simp only [serve, judgeRequest]
  rw [show (takeRequest c s).mgmt.busy = false from taken_busy.trans hb,
    show ownerTest mode r (takeRequest c s) = none from
      ownerTest_none (s := s.taken c) hm (by rw [taken_mgmt]; exact ho) (by rw [taken_mgmt]; exact hn)]
  simp

/-- A request outside its columns of 9.7 is answered WRONG_STATE. -/
theorem serve_of_wrongState (hb : s.mgmt.busy = false) (hm : mode = .read ∨ s.mgmt.owner = some r.station)
    (hc : column s.mgmt.partState = false) :
    serve c r code mode column body s = answer r code .wrongState [] (s.taken c) := by
  have hc' : column (s.taken c).mgmt.partState = false := by rw [taken_mgmt]; exact hc
  simp only [serve, judgeRequest]
  rw [show (takeRequest c s).mgmt.busy = false from taken_busy.trans hb,
    show ownerTest mode r (takeRequest c s) = _ from ownerTest_taken_of_passes hm]
  simp [hc']

/-- A request that claims (R182) runs its body with its sender as owner, where its column admits it. -/
theorem serve_of_claims (hb : s.mgmt.busy = false) (hm : mode = .modifying) (ho : s.mgmt.owner = none)
    (hp : s.mgmt.partState = .awaitParam) :
    serve c r code mode column body s =
      (if column .awaitParam
       then body ((s.taken c).withMgmt { (s.taken c).mgmt with owner := some r.station })
       else answer r code .wrongState [] ((s.taken c).withMgmt { (s.taken c).mgmt with owner := some r.station })) := by
  subst hm
  have h1 : ownerTest .modifying r (takeRequest c s) =
      some ((s.taken c).withMgmt { (s.taken c).mgmt with owner := some r.station }) := by
    have h2 : (takeRequest c s).mgmt = _ := taken_mgmt
    simp [ownerTest, h2, ho, hp]
  simp only [serve, judgeRequest]
  rw [show (takeRequest c s).mgmt.busy = false from taken_busy.trans hb, h1]
  simp [show (takeRequest c s).mgmt = _ from taken_mgmt, hp]

/-- A request the part does not know is answered BUSY or UNKNOWN. -/
theorem serveUnknown_eq :
    serveUnknown c r code s = answer r code (if s.mgmt.busy then .busy else .unknown) [] (s.taken c) := by
  simp only [serveUnknown, show (takeRequest c s).mgmt.busy = s.mgmt.busy from taken_busy]

end Sys2Proof.Machine
end

