-- ==== Sys2Proof/Tests/Slice0.lean ====
section
/-! SUPPORT. The model's own tests: ill-formed commands the check refuses, one small step from the manual's
rules and worked sequences for each family, and for every statement of the certificates a concrete state and
operands that meet its hypotheses, clause by clause (`test_witness_<statement>`). -/

namespace Sys2Proof.Tests

open Machine

set_option Elab.async false

/-! ### Small states -/

/-- A request of station 2 with tag 3. -/
def rq : Sender := ⟨2#8, 3#4⟩

/-- After a reset with the straps at 3: the own station number is 51. -/
def base : State := resetBlocks 3#3 State.reset

/-- Station 2 is the owner, in a part state. -/
def owned (p : PartState) : State := base.withMgmt { base.mgmt with owner := some 2#8, partState := p }

/-- A written cell that permits trials. -/
def cellA : CellRecord := ⟨⟨1050#16, 140#16, 160#16, 90#16, 1100#16⟩, true, none, none, none⟩

/-- A valid bank with a plan of one step. -/
def bankA : Bank := { blankBank with cells := Table.fill 120 (some cellA), plan := [⟨.fan, 50#10, .any⟩] }

/-- Both banks valid. -/
def mapped (s : State) : State := s.withMap ⟨bankA, bankA, .a⟩

/-- Five drives, DRUM to FAN on stations 21, 30, 41, 42 and 43. -/
def drives : PerSetting RosterEntry := ⟨⟨some 21#8, 20#8⟩, ⟨some 30#8, 20#8⟩, ⟨some 41#8, 20#8⟩, ⟨some 42#8, 30#8⟩, ⟨some 43#8, 10#8⟩⟩

/-- The layout written. -/
def laid (s : State) : State := s.withMoves { s.moves with roster := drives }

/-- READY with both banks valid, the layout written and the substitute set loaded. -/
def ready : State :=
  let s := laid (mapped (owned .ready))
  s.withSafe { s.safe with substitute := ⟨⟨some 800#16, none, some 100#16, some 80#16, some 900#16⟩, true⟩ }

/-- REGULATING in a cycle state, with the window timer of that state started at 0 with a length. -/
def cycling (state : RegState) (length : Nat) : State :=
  let s := ready.withMgmt { ready.mgmt with partState := .regulating }
  (s.withChannels { s.channels with gate := decide (state.runs = some .b) }).withRegulator
    { s.regulator with state := state, window := state.runs.map (fun w => (w, ⟨0#32, length⟩)) }

/-- The same state at a part time. -/
def at' (now : Word32) (s : State) : State := s.withPartTime now

/-- One record of the move unit changed. -/
def withRecord (st : Setting) (f : MoveRecord → MoveRecord) (s : State) : State := setRecord st (f (s.record st)) s

/-- DRUM has a SET out since part time 0 with tag 4, goal and leg target 1050. -/
def issued : State := withRecord .drum (fun r => { r with
  state := .issued, tag := 4#4, goal := some ⟨1050#16, .regulator⟩, leg := some 1050#16,
  acceptTimer := some ⟨0#32, 20⟩ }) ready

/-- DRUM moves since part time 0. -/
def moving : State := withRecord .drum (fun r => { r with
  state := .moving, tag := 4#4, goal := some ⟨1050#16, .regulator⟩, leg := some 1050#16,
  moveTimer := some ⟨0#32, 1500⟩ }) ready

/-- An enabled channel for a role from station 10, sub-channel 1, period 20. -/
def chan (role : Role) : ChannelDef := { defaultChannel with enabled := true, station := 10#8, sub := 1#2, role := role, period := 20#8 }

/-- Entry 0 holds a channel with a lock state, its window started at part time 0. -/
def heard (role : Role) (lock : Lock) (s : State) : State :=
  setChannel 0 ⟨chan role, { freshRuntime false with lock := lock, window := some ⟨0#32, 30⟩ }⟩ s

/-- A frame to the regulator. -/
def toOwn (source : Byte) (kind : FrameKind) (payload : List Byte) : Frame := Frame.make 51#8 source kind 4#4 payload

/-- The S port sends, or waits in BACKOFF with, its only entry after `n` failed attempts. -/
def sendingOf (phase : TxPhase) (n : Nat) (e : Entry) (s : State) : State :=
  updPort .s (fun q => { q with queue := [e], tx := .active phase 0 n }) s

/-- A forwarded frame. -/
def forwarded : Entry := ⟨.forward, Frame.make 30#8 40#8 .set 9#4 [0#8, 0#8, 0#8], none⟩

/-- A REPLY of the part. -/
def reply : Entry := ⟨.part, Frame.make 2#8 51#8 .reply 3#4 [46#8, 0#8, 0#8], none⟩

/-- A SET of the part for DRUM. -/
def setDrum (tag : Tag) : Frame := Frame.make 21#8 51#8 .set tag [0#8, 26#8, 4#8]

/-- A guard with its configuration and state changed. -/
def withGuard (n : Fin 12) (f : Guard → Guard) (s : State) : State := updGuard n f s

/-- A notice waits. -/
def noticed (s : State) : State :=
  (s.withNotices (s.notices.join ⟨.beatExpired, 7#32, 2#8, 200#16⟩)).withPins { s.pins with attn := true }

/-! ### Well-formedness -/

theorem test_wf_good : (Instr.axisWrite rq 0#8 5#16 1#8 [150#16, 190#16, 240#16]).wellFormed = true := by decide
theorem test_wf_sender : (Instr.errorReset ⟨63#8, 0#4⟩).wellFormed = false := by decide
theorem test_wf_sender_62 : (Instr.errorReset ⟨62#8, 0#4⟩).wellFormed = true := by decide
theorem test_wf_unknown_is_known : (Instr.unknownRequest rq 46#8 []).wellFormed = false := by decide
theorem test_wf_unknown_too_short : (Instr.unknownRequest rq 1#8 [0#8]).wellFormed = true := by decide
theorem test_wf_axis_words : (Instr.axisWrite rq 1#8 5#16 1#8 [150#16]).wellFormed = false := by decide
theorem test_wf_axis_range : (Instr.axisWrite rq 4#8 0#16 0#8 [1#16]).wellFormed = false := by decide
theorem test_wf_axis_fields : (Instr.axisWrite rq 4#8 1#16 0#8 []).wellFormed = false := by decide
theorem test_wf_plan_words : (Instr.planWrite rq 0#8 2#8 [1#16]).wellFormed = false := by decide
theorem test_wf_plan_count : (Instr.planWrite rq 0#8 9#8 [1#16]).wellFormed = false := by decide
theorem test_wf_plan_good : (Instr.planWrite rq 0#8 9#8 []).wellFormed = true := by decide

/-! ### One step at a time -/

/-- The state a command leaves. -/
def after (c : Instr) (s : State) : State :=
  match exec c s with
  | .next t => t
  | _ => s

theorem test_check_of_nine_digits :
    crc16 [0x31#8, 0x32#8, 0x33#8, 0x34#8, 0x35#8, 0x36#8, 0x37#8, 0x38#8, 0x39#8] = 0x29B1#16 := by decide +kernel
theorem test_frame_bytes : (setDrum 4#4).bytes.take 7 = [21#8, 51#8, 0x24#8, 3#8, 0#8, 26#8, 4#8] := by decide
theorem test_frame_read_back : receiveChecks (setDrum 4#4).bytes false = some (setDrum 4#4) := by decide +kernel
theorem test_wrong_length_is_an_error : receiveChecks (Frame.make 30#8 40#8 .set 9#4 [0#8]).bytes false = none := by decide +kernel
theorem test_request_decoded :
    decodeRequest rq 35#8 [10#8, 50#8, 0#8] = .paramWrite rq 10#8 50#16 := by decide
theorem test_short_request_unknown :
    decodeRequest rq 35#8 [10#8, 50#8] = .unknownRequest rq 35#8 [10#8, 50#8] := by decide

theorem test_frame_end_forwards :
    let t := after (.frameEnd .s (Frame.make 30#8 40#8 .set 9#4 [0#8, 0#8, 0#8]).bytes false) base
    (t.port .m).queue = [forwarded] ∧ t.sideOf 40#8 = .s ∧ (t.port .s).good = 1#16 := by decide +kernel
theorem test_frame_end_hands_a_request :
    (after (.frameEnd .m (toOwn 2#8 .request [46#8]).bytes false) base).mgmt.inbox = [.countersRead ⟨2#8, 4#4⟩] := by
  decide +kernel
theorem test_tx_choose_prefers_a_part_frame :
    ((after (.txChoose .s 12) (updPort .s (fun q => { q with queue := [forwarded, reply] }) base)).port .s).tx =
      .active .sending 1 0 := by decide
theorem test_tx_success_takes_the_pending_content :
    ((after (.txSuccess .s) (sendingOf .sending 0 ⟨.part, setDrum 3#4, some (setDrum 4#4)⟩ base)).port .s).queue =
      [⟨.part, setDrum 4#4, none⟩] := by decide +kernel
theorem test_eighth_collision_drops :
    let t := after (.txCollision .s) (sendingOf .sending 7 forwarded base)
    (t.port .s).queue = [] ∧ (t.port .s).collisionDrops = 1#16 ∧ t.notices.held = 2 := by decide
theorem test_backoff_end :
    ((after (.backoffEnd .s 4) (sendingOf .backoff 1 forwarded base)).port .s).tx = .active .sending 0 1 := by decide
theorem test_backoff_too_short :
    ((after (.backoffEnd .s 3) (sendingOf .backoff 1 forwarded base)).port .s).tx = .active .backoff 0 1 := by decide
theorem test_reply_handover :
    let s := base.withMgmt { base.mgmt with waiting := [⟨rq, 46#8, .done, 0, false, [], .plain⟩] }
    ((after (.replyHandover .m) s).port .m).queue = [reply] := by decide +kernel

theorem test_scaling_truncates : scaleSample 128#16 10#16 (BitVec.ofInt 16 (-3)) = 9#16 := by decide
theorem test_scaling_saturates : scaleSample 32767#16 0#16 (BitVec.ofInt 16 (-32768)) = BitVec.ofInt 16 (-32768) := by decide
theorem test_sample_locks_and_counts :
    let s := heard .shoeLoss .search (cycling .measure 80)
    let c := ((takeSample (Frame.make 51#8 10#8 .sample 0#4 [1#8, 12#8, 0#8]) s).channel 0).rt
    c.lock = .locked ∧ c.sum = 12#32 ∧ c.count = 1#16 ∧ c.lastValue = some 12#16 := by decide
theorem test_second_miss_is_lost :
    let t := after (.channelWindowExpiry 0) (at' 30#32 (heard .shoeLoss .oneMissed (cycling .measure 80)))
    (t.channel 0).rt.lock = .lost ∧ (t.channel 0).rt.interrupted = true := by decide

theorem test_plain_band : plainBand [150#16, 190#16, 240#16] 190 = 2 := by decide
theorem test_band_falls_with_hysteresis :
    hysteresisBand [150#16, 190#16, 240#16] 5 2 185 = 2 ∧ hysteresisBand [150#16, 190#16, 240#16] 5 2 184 = 1 := by
  decide
theorem test_dwell_expiry_adopts :
    let s := takeAxisValue .moisture 200#16 base
    s.classifier.dwell = some ⟨0#32, 200⟩ ∧ (after .dwellExpiry (at' 200#32 s)).classifier.adopted.moisture = 2 := by
  decide
theorem test_axis_write_of_a_frozen_axis :
    (after (.axisWrite rq 0#8 5#16 3#8 [150#16, 190#16, 240#16]) (owned .awaitParam)).classifier.adopted.moisture = 3 := by
  decide

/-- Cell 77 of 4.7 with its trim record. -/
def cell77 : CellRecord := { cellA with
  trim := some ⟨⟨0#16, BitVec.ofInt 16 (-20), 10#16, 0#16, 60#16⟩, 3⟩ }

/-- The bank of 4.7. -/
def bank47 : Bank := { bankA with
  sideTrims := ⟨⟨120#16, BitVec.ofInt 16 (-15)⟩, zeroSideTrim, zeroSideTrim, zeroSideTrim, zeroSideTrim⟩ }

theorem test_effective_targets_of_4_7 :
    Setting.all.map (effectiveTarget (defaultParams.write 9 1250#16) bank47 cell77 0) =
      [1050#16, 120#16, 155#16, 90#16, 1250#16] ∧
    Setting.all.map (targetClamped (defaultParams.write 9 1250#16) bank47 cell77 0) = [false, false, false, false, true] := by
  decide
theorem test_keep_counts :
    (((bankA.keep 150 77 .fan 50).cell 77).bind CellRecord.trim) = some ⟨⟨0#16, 0#16, 0#16, 0#16, 50#16⟩, 1⟩ := by decide
theorem test_cell_fill_counts :
    ((after (.cellFill rq 0#8 ⟨0#8, 0#8, 0#8, 0#8, 3#8, 4#8⟩ ⟨cellA.targets, 1#8, 0#16, 0#16⟩) (owned .awaitParam)).map.bankA).writtenCount
      = 2 := by decide
theorem test_step_word : stepOfWord 0x5032#16 = some ⟨.fan, 50#10, .any⟩ := by decide
theorem test_bank_copy : (after (.bankCopy rq) ((owned .ready).withMap ⟨bankA, blankBank, .a⟩)).map.bankB = bankA := by decide
theorem test_switch_bank : (after (.switchBank rq) ready).map.active = .b := by decide

theorem test_first_leg_of_5_12 : legTarget defaultParams .drum 1300 (some 900) = 1050#16 := by decide
theorem test_leg_overtaken_of_5_12 : legTarget defaultParams .drum 1200 (some 980) = 1130#16 := by decide
theorem test_accept_moves :
    let t := takeDriveFrame (toOwn 21#8 .accept [0#8]) issued
    (t.record .drum).state = .moving ∧ (t.record .drum).moveTimer = some ⟨0#32, 1500⟩ := by decide
theorem test_done_of_the_last_leg :
    ((takeDriveFrame (toOwn 21#8 .done [0#8, 0#8, 26#8, 4#8]) moving).record .drum).state = .idle := by decide
theorem test_accept_timer_resends :
    let t := after (.acceptTimerExpiry .drum) (at' 20#32 issued)
    (t.record .drum).resendUsed = true ∧ (t.port .m).queue = [⟨.part, setDrum 4#4, none⟩] := by decide +kernel
theorem test_move_timer_fails :
    let t := after (.moveTimerExpiry .drum) (at' 1500#32 moving)
    (t.record .drum).cause = .moveTimeout ∧ t.moves.driveFault = true := by decide
theorem test_hold_defers :
    let s := after (.holdAdjust rq 1#8) (cycling .hold 3000)
    ((giveGoal .drum ⟨900#16, .regulator⟩ s).record .drum).deferred = some 900#16 := by decide

/-- A measured entry of 6.14: its sum over 80 values. -/
def measured (role : Role) (sum : Word32) : Channel :=
  ⟨chan role, { freshRuntime false with lock := .locked, sum := sum, count := 80#16 }⟩

/-- The five entries of 6.14 as the window closing at 17.2 s holds them, in cell 77. -/
def episode : State :=
  let s := cycling .measure 8
  let c := (([measured .shoeLoss 2400#32, measured .shoeLoss 2240#32, measured .sepLoss 640#32,
    measured .grainFlow 240000#32, measured .tailings 19200#32] : List Channel).zipIdx).foldl
      (fun t x => t.put x.2 x.1) s.channels.entries
  (s.withChannels { s.channels with entries := c }).withClassifier { s.classifier with adopted := ⟨2, 3, 2, 2⟩ }

theorem test_window_result_of_6_14 :
    episode.windowResult .measure = ⟨.measure, 77, .highLoss, 0, 220#16, 240#16, 2266#16, 0#32⟩ := by decide +kernel
theorem test_decision_of_6_14 :
    let t := after .windowBExpiry (at' 80#32 episode)
    t.regulator.state = .trialMove ∧ t.regulator.cursor = 0 ∧ t.regulator.targets.fan = some 1150#16 := by decide
theorem test_settle_leads_to_measure :
    let t := after .windowAExpiry (at' 400#32 (cycling .settle 400))
    t.regulator.state = .measure ∧ t.channels.gate = true := by decide
theorem test_tune_windows :
    (after (.tuneWindows rq 50#16 80#16 300#16) (cycling .settle 400)).regulator.window = some (.a, ⟨0#32, 500⟩) := by
  decide

theorem test_guard_raise_acts :
    let t := after (.guardRaise rq) (owned .ready)
    t.guards.stack = [11] ∧ (t.guards.guard 11).state = .acting := by decide
theorem test_header_up :
    let t := after (.lineLevelSettled .hdrDown false) base
    (t.guards.guard 8).condition = true ∧ t.pins.hdrDown = some false := by decide
theorem test_guard_release :
    (after (.guardRelease rq 255#8) (after (.guardRaise rq) (owned .ready))).guards.stack = [] := by decide
theorem test_slip_dwell :
    ((after (.slipDwellExpiry .drum) (at' 100#32 (base.withGuards { base.guards with slipDrum := some ⟨0#32, 100⟩ }))).guards.guard
      0).condition = true := by decide

theorem test_owner_loss_is_safe :
    let t := loseOwner (cycling .hold 3000)
    t.regulator.state = .safe ∧ t.pins.safeOut = true ∧ t.mgmt.owner = none ∧ (t.record .drum).goal = some ⟨800#16, .guard⟩ := by
  decide
theorem test_beat_enable : (after (.beatEnable rq) (owned .ready)).safe = ⟨emptySubstitute, true, 200#16⟩ := by decide
theorem test_heartbeat_expiry :
    (after .heartbeatExpiry ((owned .ready).withSafe ⟨emptySubstitute, true, 0#16⟩)).mgmt.owner = none := by decide

theorem test_first_request_claims : (after (.paramWrite rq 31#8 0#16) base).mgmt.owner = some 2#8 := by decide
theorem test_param_close : (after (.paramClose rq) (owned .awaitParam)).mgmt.partState = .awaitLayout := by decide
theorem test_layout_close_asks :
    (after (.layoutClose rq) (laid (owned .awaitLayout))).mgmt.checking = some ⟨.drum, 1, ⟨0#32, 10⟩⟩ := by decide
theorem test_last_ident_passes :
    let s := (laid (owned .checking)).withMgmt { (owned .checking).mgmt with checking := some ⟨.fan, 1, ⟨0#32, 10⟩⟩ }
    (takeIdent (toOwn 43#8 .ident [4#8, 44#8, 1#8, 220#8, 5#8]) s).mgmt.partState = .ready := by decide
theorem test_start_follows :
    let t := after (.start rq) ready
    t.mgmt.partState = .regulating ∧ t.regulator.state = .follow ∧ (t.record .fan).state = .issued := by decide
theorem test_stop : (after (.stop rq) (cycling .hold 3000)).regulator.state = .idle := by decide

theorem test_save_write_end :
    let t := after .saveWriteEnd (after (.save rq) ready)
    t.store = .written ready.snapshot ∧ t.mgmt.imageHeld = true := ⟨rfl, by decide⟩
theorem test_reset_cuts_a_save_short :
    let t := after (.powerOnReset 3#3) (after (.save rq) ready)
    t.store.found = .failed ∧ t.notices.held = 1 ∧ t.pins.attn = true := by decide
theorem test_reset_loads_what_was_written : (Store.written ready.snapshot).found = .valid ready.snapshot := by
  simp [Store.found, Store.written]
theorem test_erased_store_is_blank : (Store.delivered).found = .blank := by decide
theorem test_restart_acts_once_it_has_left :
    let s := (after (.restart rq) (owned .ready)).withLink (sendingOf .sending 0 reply base).link
    let t := after (.txSuccess .s) (s.withMgmt { s.mgmt with outstanding := ⟨some .restart, none⟩ })
    t.mgmt.restartDue = true ∧ (after (.restartAct 3#3) t).mgmt.partState = .awaitParam := by decide

theorem test_fetch_notices : (after (.fetchNotices rq) (noticed (owned .ready))).notices.held = 0 := by decide
theorem test_picture_read :
    let t := after (.pictureRead rq) (publish (owned .ready))
    t.mgmt.reading = some ⟨rq, 0⟩ ∧ (t.pictures.buffers.get 1).role = .u := by decide
theorem test_idle_step_ticks : step base = .next (base.withPartTime 1#32) := rfl
theorem test_idle_step_takes_up_a_request :
    let s := base.withMgmt { base.mgmt with inbox := [.save rq] }
    ∃ t, step s = .next t ∧ t.pending = [.save rq] ∧ t.mgmt.inbox = [] := ⟨_, rfl, by decide, by decide⟩

/-! ### The hypotheses of the statements are met

For each statement with hypotheses, a state and operands that meet them, clause by clause; where a
hypothesis bounds a number, at the bound. -/

/-- RESET is driven active. -/
def stopped : State := base.withPins { base.pins with inReset := true }

/-- A SAVE is being written. -/
def saving : State := after (.save rq) ready

/-- A guard waits, and one is acting. -/
def guarded : State := withGuard 1 (fun g => { g with state := .pending, condition := true, armed := false }) (after (.guardRaise rq) ready)

theorem test_witness_StepRunsTheFrontCommand :
    (base.withPending [.dwellExpiry, .saveWriteEnd]).pending = [.dwellExpiry, .saveWriteEnd] := rfl

theorem test_witness_AnEmptyQueueTakesUpWhatIsDue :
    (let s := base.withSafe { base.safe with beatRunning := true, beatCount := 1#16 }
     s.pending = [] ∧ s.works ∧ s.agendaChains.flatten = []) ∧
    (let s := base.withSafe { base.safe with beatRunning := true, beatCount := 0#16 }
     s.pending = [] ∧ s.works ∧ s.agendaChains.flatten ≠ []) := by decide

theorem test_witness_ResetDrivenActiveStopsThePart :
    (stopped.pins.inReset = true ∧ ∀ x, Instr.saveWriteEnd ≠ .powerOnReset x) ∧ base.works ∧
    saving.works ∧ saving.mgmt.saving.isSome = true := by
  refine ⟨⟨by decide, fun x => by simp⟩, by decide, by decide, by decide⟩

theorem test_witness_StepsKeepThePicturesAndNoticesInOrder :
    (publish (cycling .hold 3000)).pictures.sound = true ∧ (∃ t, step (publish (cycling .hold 3000)) = .next t) ∧
    (noticed ready).noticesSound = true ∧ ∃ t, step (noticed ready) = .next t :=
  ⟨by decide, ⟨_, rfl⟩, by decide, ⟨_, rfl⟩⟩

theorem test_witness_StepsKeepAnOwnerOutsideAwaitParam :
    ready.ownerSound = true ∧ ∃ t, step (ready.withPending [.releaseOwner rq]) = .next t := ⟨by decide, ⟨_, rfl⟩⟩

theorem test_witness_StepsKeepTheCycleInOrder :
    ((cycling .measure 800).withPending [.stop rq]).cycleSound = true ∧
    ∃ t, step ((cycling .measure 800).withPending [.stop rq]) = .next t := ⟨by decide, ⟨_, rfl⟩⟩

theorem test_witness_StepsKeepTheGuardsNested :
    (guarded.withPending [.guardRelease rq 11#8]).guardsSound = true ∧ guarded.guards.stack ≠ [] ∧
    ∃ t, step (guarded.withPending [.guardRelease rq 11#8]) = .next t := ⟨by decide +kernel, by decide, ⟨_, rfl⟩⟩

theorem test_witness_StepsKeepTheClassesInRange :
    ((takeAxisValue .moisture 240#16 base).withPending [.dwellExpiry]).classSound = true ∧
    ∃ t, step ((takeAxisValue .moisture 240#16 base).withPending [.dwellExpiry]) = .next t := ⟨by decide, ⟨_, rfl⟩⟩

theorem test_witness_StepsKeepTheTargetsInsideTheLimits :
    (saving.withPending [.saveWriteEnd]).limitsSound = true ∧ ∃ t, step (saving.withPending [.saveWriteEnd]) = .next t :=
  ⟨by decide +kernel, ⟨_, rfl⟩⟩

theorem test_witness_StepsKeepOneRoleOneKey :
    ((heard .grainFlow .locked ready).withPending [.channelRestart rq 0#8]).channelsSound = true ∧
    ∃ t, step ((heard .grainFlow .locked ready).withPending [.channelRestart rq 0#8]) = .next t :=
  ⟨by decide +kernel, ⟨_, rfl⟩⟩

theorem test_witness_StepsKeepTheMoveRecordsInOrder :
    issued.movesSound = true ∧ moving.movesSound = true ∧ ∃ t, step (moving.withPending [.moveTimerExpiry .drum]) = .next t :=
  ⟨by decide, by decide, ⟨_, rfl⟩⟩

/-- Sixteen forwarded frames and a REPLY. -/
def crowded : State := updPort .s (fun q => { q with queue := List.replicate 16 forwarded ++ [reply], tx := .active .sending 16 0 }) base

theorem test_witness_StepsKeepTheQueuesBounded :
    crowded.queuesSound = true ∧ (crowded.port .s).sound = true ∧
    ∃ t, step (crowded.withPending [.txSuccess .s]) = .next t := ⟨by decide +kernel, by decide +kernel, ⟨_, rfl⟩⟩

theorem test_witness_FramesHaveTheEnvelope :
    receiveChecks (toOwn 2#8 .request (List.replicate 24 46#8)).bytes false = some (toOwn 2#8 .request (List.replicate 24 46#8)) ∧
    receiveChecks (toOwn 62#8 .identAsk []).bytes false = some (toOwn 62#8 .identAsk []) := by decide +kernel

theorem test_witness_TheReceiveChecksDecide :
    (base.works ∧ (base.port .s).tx.isSending = false ∧ receiveChecks [1#8, 2#8, 3#8, 4#8, 5#8] false = none ∧
      receiveChecks (setDrum 4#4).bytes true = none) ∧
    base.hears .s (setDrum 4#4).bytes (setDrum 4#4) := by decide +kernel

theorem test_witness_FramesReadBackAsSent :
    (63#8).toNat ≤ 63 ∧ (62#8).toNat ≤ 62 ∧ (List.replicate 24 (0#8 : Byte)).length ≤ 24 ∧
    FrameKind.lengthOk .request (List.replicate 24 (0#8 : Byte)).length = true := by decide

theorem test_witness_RequestsReadBackAsSpelled :
    ((Instr.paramWrite rq 42#8 31#16).request = some (rq, 35) ∧ (Instr.paramWrite rq 42#8 31#16).wellFormed = true) ∧
    (Instr.unknownRequest rq 50#8 [1#8]).request = some (rq, 50) ∧
    (Instr.unknownRequest rq 50#8 [1#8]).wellFormed = true := by decide

theorem test_witness_AStationClashIsReported :
    base.hears .m (Frame.make 63#8 51#8 .set 0#4 [0#8, 0#8, 0#8]).bytes (Frame.make 63#8 51#8 .set 0#4 [0#8, 0#8, 0#8]) ∧
    (Frame.make 63#8 51#8 .set 0#4 [0#8, 0#8, 0#8]).source = base.ownStation := by decide +kernel

/-- A SAMPLE to every station from station 10, sub-channel 1. -/
def sample : Frame := Frame.make 63#8 10#8 .sample 0#4 [1#8, 12#8, 0#8]

theorem test_witness_FramesAreForwardedOrFiltered :
    (base.hears .s forwarded.frame.bytes forwarded.frame ∧ forwarded.frame.source ≠ base.ownStation ∧
      forwarded.frame.dest ≠ base.ownStation ∧ forwarded.frame.dest.toNat ≤ 62 ∧
      (base.heard .s forwarded.frame).sideOf forwarded.frame.dest ≠ Side.ofPort .s ∧
      ((learnSide 30#8 .s base).heard .s forwarded.frame).sideOf forwarded.frame.dest = Side.ofPort .s ∧
      (learnSide 30#8 .s base).hears .s forwarded.frame.bytes forwarded.frame) ∧
    (base.hears .s sample.bytes sample ∧ sample.source ≠ base.ownStation ∧ sample.dest = 63#8 ∧
      base.mirrorOff sample = false ∧
      (setChannel 0 ⟨{ chan .pitch with mirror := false }, freshRuntime false⟩ base).mirrorOff sample = true) := by
  decide +kernel

theorem test_witness_FramesToTheOwnStationAreHandedOn :
    let f := toOwn 2#8 .request [46#8]
    base.hears .s f.bytes f ∧ f.source ≠ base.ownStation ∧ f.dest = base.ownStation := by decide +kernel

theorem test_witness_TheOldestPartFrameIsSentFirst :
    (let s := updPort .s (fun q => { q with queue := [forwarded, reply] }) base
     s.works ∧ 12 ≤ 12 ∧ (s.port .s).tx = .idle ∧ (s.port .s).queue ≠ []) ∧
    (let s := sendingOf .sending 0 ⟨.part, setDrum 3#4, some (setDrum 4#4)⟩ base
     s.works ∧ (s.port .s).tx = .active .sending 0 0 ∧
       (s.port .s).queue[0]? = some ⟨.part, setDrum 3#4, some (setDrum 4#4)⟩) ∧
    (let s := sendingOf .sending 0 reply base
     s.works ∧ (s.port .s).tx = .active .sending 0 0 ∧ (s.port .s).queue[0]? = some reply ∧ reply.held = none ∧
       reply.cls = .part ∧ reply.frame.kind = .reply ∧
       (s.withMgmt { s.mgmt with outstanding := ⟨some .restart, none⟩ }).mgmt.outstanding.get .s = some .restart) ∧
    forwarded.held = none ∧ forwarded.cls = .forward := by decide +kernel

theorem test_witness_TheEighthCollisionDropsTheFrame :
    (let s := sendingOf .sending 6 forwarded base
     s.works ∧ (s.port .s).tx = .active .sending 0 6 ∧ (s.port .s).queue[0]? = some forwarded ∧ 6 + 1 < 8 ∧
       forwarded.held = none) ∧
    (let e : Entry := ⟨.part, setDrum 3#4, some (setDrum 4#4)⟩
     let s := sendingOf .sending 7 e base
     s.works ∧ (s.port .s).tx = .active .sending 0 7 ∧ (s.port .s).queue[0]? = some e ∧ 8 ≤ 7 + 1 ∧
       e.held = some (setDrum 4#4)) ∧
    (let s := sendingOf .backoff 1 forwarded base
     s.works ∧ (s.port .s).tx = .active .backoff 0 1 ∧ 1 + s.pins.straps.toNat ≤ 4) := by decide +kernel

theorem test_witness_APartFrameReplacesItsSort :
    (∀ e ∈ [forwarded, reply], e.cls = .part → replaces (setDrum 4#4) e.frame = false) ∧
    ([(⟨.part, setDrum 3#4, none⟩ : Entry)][0]? = some ⟨.part, setDrum 3#4, none⟩ ∧
      replaces (setDrum 4#4) (setDrum 3#4) = true ∧
      ∀ j d, j < 0 → [(⟨.part, setDrum 3#4, none⟩ : Entry)][j]? = some d →
        ¬ (d.cls = .part ∧ replaces (setDrum 4#4) d.frame = true)) := by
  refine ⟨by decide +kernel, by decide +kernel, by decide +kernel, fun j d h => by omega⟩

/-- A reply that waits for the M port. -/
def waits : Reply := ⟨rq, 46#8, .done, 0, false, [], .plain⟩

theorem test_witness_RepliesAreQueuedInTurn :
    (let s := base.withMgmt { base.mgmt with waiting := [waits] }
     s.works ∧ (∀ e ∈ (s.port .m).queue, ¬ (e.cls = .part ∧ e.frame.kind = .reply)) ∧
       s.mgmt.waiting = [] ++ waits :: [] ∧ (∀ b ∈ ([] : List Reply), b ≠ waits ∧ s.portFor b.asker.station ≠ .m) ∧
       s.portFor waits.asker.station = .m) ∧
    (let s := updPort .m (fun q => { q with queue := [reply] }) base
     ∃ e ∈ (s.port (s.portFor rq.station)).queue, e.cls = .part ∧ e.frame.kind = .reply) ∧
    ((∀ e ∈ (base.port (base.portFor rq.station)).queue, ¬ (e.cls = .part ∧ e.frame.kind = .reply)) ∧
      ∀ b ∈ base.mgmt.waiting, base.portFor b.asker.station ≠ base.portFor rq.station) := by decide +kernel

theorem test_witness_ASampleIsTracked :
    (heard .shoeLoss .search base).matchSample 10#8 1#2 = some 0 ∧ base.matchSample 10#8 1#2 = none ∧
    ((heard .shoeLoss .search base).channel 0).rt.lock ≠ .lost ∧ sample.payload = [1#8, 12#8, 0#8] ∧
    (1#8).getLsbD 7 = false ∧ (129#8).getLsbD 7 = true ∧
    (let s := setChannel 0 ⟨{ chan .shoeLoss with plausibleMin := 12#16, plausibleMax := 13#16 }, freshRuntime false⟩ base
     s.matchSample 10#8 1#2 = some 0 ∧ (s.channel 0).defn.plausibleMin.toInt ≤ (scaleSample 256#16 0#16 12#16).toInt ∧
     (scaleSample 256#16 0#16 11#16).toInt < (s.channel 0).defn.plausibleMin.toInt ∧
     (s.channel 0).defn.plausibleMax.toInt < (scaleSample 256#16 0#16 14#16).toInt) := by decide +kernel

theorem test_witness_AMissedSampleIsTracked :
    (let s := at' 30#32 (heard .shoeLoss .locked base)
     s.works ∧ s.channelDue 0 = true ∧ (s.channel 0).rt.lock = .locked) ∧
    (let s := at' 30#32 (heard .shoeLoss .oneMissed base)
     s.works ∧ s.channelDue 0 = true ∧ (s.channel 0).rt.lock = .oneMissed) := by decide +kernel

/-- The fields of a CHANNEL WRITE at the bounds: station 62, role 10, Flags 7. -/
def channelFields : ChannelFields := ⟨7#8, 62#8, 3#8, 10#8, 256#16, 0#16, 0#16, 1#16, 0#8⟩

theorem test_witness_ChannelRequestsTakeEffect :
    ((owned .ready).admits rq .modifying inSetup ∧ ∃ d, channelOfFields (owned .ready).ownStation channelFields = some d ∧
      (owned .ready).channels.breaksLimit 23 d = false) ∧
    ((owned .ready).admits rq .modifying anyState ∧ ((23#8).toNat ≤ 23 ∨ (23#8 : Byte) = 255#8) ∧
      ((255#8).toNat ≤ 23 ∨ (255#8 : Byte) = 255#8)) ∧
    ((owned .ready).anyFault = false ∧ (owned .ready).moves.driveFault = false) :=
  ⟨⟨by decide, _, rfl, by decide +kernel⟩, by decide, by decide⟩

theorem test_witness_BandsFollowTheThresholdsAndValues :
    (let ts : List Word16 := [150#16, 190#16, 240#16]
     strictlyAscending ts = true ∧ 3 ≤ ts.length ∧
     ((0 : Nat) < 2 ∧ 2 ≤ ts.length ∧ (ts.getD (2 - 1) 0#16).toInt + 5 ≤ 195 ∧
       (∀ j, 2 < j → j ≤ ts.length → (195 : Int) < (ts.getD (j - 1) 0#16).toInt + 5)) ∧
     (1 ≤ 1 ∧ 1 ≤ 2 ∧ (144 : Int) < (ts.getD (1 - 1) 0#16).toInt - 5 ∧
       ∀ j, 1 ≤ j → j < 1 → (ts.getD (j - 1) 0#16).toInt - 5 ≤ 144) ∧
     ((∀ k, 1 < k → k ≤ ts.length → (194 : Int) < (ts.getD (k - 1) 0#16).toInt + 5) ∧
       ∀ k, 1 ≤ k → k ≤ 1 → (ts.getD (k - 1) 0#16).toInt - 5 ≤ 194)) ∧
    (∃ v, takeAxisValue .moisture 200#16 base = takeAxisValue .moisture v base) ∧
    (takeAxisValue .moisture 200#16 base).classifier.candidate ≠ base.classifier.candidate ∧
    (takeAxisValue .moisture 160#16 base).classifier.candidate = base.classifier.candidate ∧
    ((takeAxisValue .moisture 200#16 base).classifier.axes.get .moisture).frozen = false := by
  refine ⟨⟨by decide, by decide, ⟨by decide, by decide, by decide, fun j h k => ?_⟩,
    ⟨by decide, by decide, by decide, fun j h k => by omega⟩, fun k h l => ?_, fun k h l => ?_⟩,
    ⟨_, rfl⟩, by decide, by decide, by decide⟩
  · have : j = 3 := by simp at k; omega
    subst this; decide
  · have : k = 2 ∨ k = 3 := by simp at l; omega
    rcases this with rfl | rfl <;> decide
  · have : k = 1 := by omega
    subst this; decide

theorem test_witness_ClassesAreAdopted :
    ((at' 200#32 (takeAxisValue .moisture 200#16 base)).works ∧
      (at' 200#32 (takeAxisValue .moisture 200#16 base)).dwellDue = true) ∧
    (let s := takeAxisValue .moisture 200#16 (owned .ready)
     s.admits rq .modifying inSetup ∧ Axis.ofNum (0#8).toNat = some .moisture ∧
       ([150#16, 190#16, 240#16] : List Word16).length = Axis.highest .moisture ∧ (1000#16).toNat ≤ 1000 ∧
       (3#8).toNat ≤ Axis.highest .moisture ∧ strictlyAscending [150#16, 190#16, 240#16] = true ∧
       (s.classifier.axes.get .moisture).frozen = false ∧ (s.classifier.axes.get .moisture).value = some 200#16) ∧
    ((owned .ready).admits rq .modifying inSetup ∧ ((owned .ready).classifier.axes.get .moisture).frozen = true) := by
  decide

theorem test_witness_TargetsAreTrimmedAndClamped :
    (1100 + 60 + 120 : Int) > defaultParams.item (5 + Setting.fan.num) - 300 ∧
    effectiveTarget defaultParams bankA ⟨⟨249#16, 20#16, 250#16, 201#16, 1500#16⟩, false, none, none, none⟩ 0 .drum = 250#16 ∧
    effectiveTarget defaultParams bankA ⟨⟨249#16, 20#16, 250#16, 201#16, 1500#16⟩, false, none, none, none⟩ 0 .lower = 200#16 ∧
    effectiveTarget defaultParams bankA ⟨⟨249#16, 20#16, 250#16, 201#16, 1500#16⟩, false, none, none, none⟩ 0 .upper = 250#16 ∧
    blankBank.cell 119 = none ∧ bankA.cell 119 = some cellA ∧ 500 ≤ 32767 := by decide +kernel

theorem test_witness_HeadersAndSideTrimsAreWritten :
    (owned .ready).admits rq .modifying anyState ∧ 2 ≤ (2#8).toNat ∧ BankId.ofNum (1#8).toNat = some .b ∧
    ¬ (BankId.b = ready.map.active ∧ ready.mgmt.partState = .regulating) ∧
    ((cycling .hold 3000).admits rq .modifying anyState ∧ BankId.ofNum (0#8).toNat = some .a ∧
      BankId.a = (cycling .hold 3000).map.active ∧ (cycling .hold 3000).mgmt.partState = .regulating) ∧
    (1 ≤ (1#16).toNat ∧ (2000#16).toNat ≤ 2000 ∧ ¬ (1 ≤ (0#16).toNat) ∧ ¬ ((2001#16).toNat ≤ 2000)) ∧
    (-500 ≤ (BitVec.ofInt 16 (-500)).toInt ∧ (500#16).toInt ≤ 500 ∧ -100 ≤ (BitVec.ofInt 16 (-100)).toInt ∧
      (100#16).toInt ≤ 100 ∧ ¬ ((501#16).toInt ≤ 500)) := by decide

theorem test_witness_CellsAndPlansAreWritten :
    (ready.admits rq .modifying anyState ∧ BankId.ofNum (1#8).toNat = some .b ∧
      ¬ (BankId.b = ready.map.active ∧ ready.mgmt.partState = .regulating)) ∧
    (∀ st : Setting, ready.mgmt.params.inLimits st ((⟨250#16, 500#16, 0#16, 200#16, 1500#16⟩ : PerSetting Word16).get st).toNat = true) ∧
    ((7#8).toNat < 8 ∧ (7#8).getLsbD 1 = true ∧ (7#8).getLsbD 2 = true ∧ 1 ≤ (2000#16).toNat ∧ (2000#16).toNat ≤ 2000 ∧
      (119#8).toNat ≤ 119) ∧
    (0 ≤ (3#8).toNat ∧ (3#8).toNat ≤ 3 ∧ (5#8).toNat ≤ 5 ∧ (4#8).toNat ≤ 4) ∧
    (∀ p ∈ ([⟨.fan, 500#10, .any⟩, ⟨.drum, BitVec.ofInt 10 (-500), .loss⟩] : List PlanStep),
      p.amount.toInt ≠ 0 ∧ p.amount.toInt.natAbs ≤ 500) := by
  refine ⟨by decide, fun st => ?_, by decide, by decide, by decide⟩
  cases st <;> decide

theorem test_witness_TheShadowIsClearedAndCopied :
    ready.admits rq .modifying anyState ∧ 2 ≤ (2#8).toNat ∧ BankId.ofNum (0#8).toNat = some ready.map.active ∧
    BankId.ofNum (1#8).toNat = some ready.map.active.other := by decide

theorem test_witness_BanksSwitchAndTrimsAreCleared :
    (ready.admits rq .modifying inReadyOrRegulating ∧ (ready.map.bank ready.map.active.other).valid = true ∧
      (owned .ready).admits rq .modifying inReadyOrRegulating ∧
      ((owned .ready).map.bank (owned .ready).map.active.other).valid = false) ∧
    ((2#8).toNat ≤ 2 ∧ (119#8).toNat ≤ 119 ∧ bankA.cell 119 = some cellA ∧ cellA.trim = none ∧
      (ready.withMap ⟨{ bankA with cells := Table.fill 120 (some cell77) }, bankA, .a⟩).activeBank.cell 77 = some cell77 ∧
      cell77.trim ≠ none) := by decide +kernel

theorem test_witness_AGoalIsKeptDeferredOrIssued :
    defaultParams.item Setting.drum.num ≤ defaultParams.item (5 + Setting.drum.num) ∧
    ((withRecord .drum (fun r => { r with manual := true }) ready).record .drum).manual = true ∧
    (ready.record .drum).manual = false ∧ (ready.record .drum).state ≠ .fault ∧ ready.driveStation .drum = some 21#8 ∧
    ready.groupHeld .drum = false ∧ (setHeld 1#8 true ready).groupHeld .drum = true ∧
    (1050 ≤ 900 + defaultParams.item 10 ∧ 900 + defaultParams.item 10 < 1051) := by decide

theorem test_witness_DriveAnswersMoveTheExchange :
    (let f := toOwn 21#8 .accept [0#8]
     f.kind = .accept ∧ f.payload = [0#8] ∧ (0#8).toNat = Setting.drum.num ∧ issued.driveStation .drum = some f.source ∧
       (issued.record .drum).state = .issued ∧ f.tag = (issued.record .drum).tag ∧ (moving.record .drum).state ≠ .issued) ∧
    (let f := toOwn 21#8 .done [0#8, 2#8, 26#8, 4#8]
     f.kind = .done ∧ f.payload = [0#8, 2#8, 26#8, 4#8] ∧ moving.driveStation .drum = some f.source ∧ (2#8).toNat ≤ 2 ∧
       2 < (3#8).toNat ∧ (moving.record .drum).state = .moving ∧ f.tag = (moving.record .drum).tag ∧
       (moving.record .drum).goal = some ⟨1050#16, .regulator⟩ ∧ (moving.record .drum).leg = some 1050#16 ∧
       ((1050#16).toNat : Int) = moving.mgmt.params.clamp .drum (1050#16).toNat ∧ moving.regulator.state = .idle) ∧
    (let s := withRecord .drum (fun r => { r with leg := some 900#16 }) moving
     ((900#16).toNat : Int) ≠ s.mgmt.params.clamp .drum (1050#16).toNat) := by decide +kernel

theorem test_witness_ExpiredMovesAreResentOrFail :
    (let s := at' 20#32 issued
     s.works ∧ s.acceptDue .drum = true ∧ (s.record .drum).resendUsed = false ∧ s.driveStation .drum = some 21#8 ∧
       (s.record .drum).leg = some 1050#16) ∧
    (let s := at' 20#32 (withRecord .drum (fun r => { r with resendUsed := true }) issued)
     s.acceptDue .drum = true ∧ (s.record .drum).resendUsed = true) ∧
    ((at' 1500#32 moving).works ∧ (at' 1500#32 moving).moveDue .drum = true) ∧
    (let s := at' 30#32 (withRecord .drum (fun r => { r with tracking := .locked, trackWindow := some ⟨0#32, 30⟩ }) moving)
     s.trackingDue .drum = true ∧ (s.record .drum).tracking = .locked) ∧
    (let s := at' 30#32 (withRecord .drum (fun r => { r with tracking := .oneMissed, trackWindow := some ⟨0#32, 30⟩ }) moving)
     s.trackingDue .drum = true ∧ (s.record .drum).tracking = .oneMissed ∧ (s.record .drum).state ≠ .fault) := by decide

theorem test_witness_HoldsAreSetAndReleased :
    (cycling .hold 3000).admits rq .modifying inReadyOrRegulating ∧ (3#8).toNat < 4 ∧ (0#8).toNat < 4 ∧
    (let s := withRecord .drum (fun r => { r with deferred := some 900#16 }) (setHeld 0#8 true (cycling .hold 3000))
     Setting.isThresh .drum = true ∧ (s.record .drum).deferred = some 900#16 ∧ s.goalKept .drum = false ∧
       (s.record .concave).deferred = none) ∧
    ((withRecord .drum (fun r => { r with deferred := some 900#16, manual := true }) ready).goalKept .drum = true) := by decide

theorem test_witness_SettlingLeadsToMeasuring :
    (let s := at' 400#32 (cycling .settle 400)
     s.works ∧ s.windowDue .a = true ∧ s.regulator.state = .settle ∧ s.classifier.adopted.feed ≠ 0) ∧
    (let s := (at' 400#32 (cycling .settle 400)).withClassifier { base.classifier with adopted := ⟨1, 0, 2, 2⟩ }
     s.works ∧ s.windowDue .a = true ∧ s.classifier.adopted.feed = 0) ∧
    ((at' 400#32 (cycling .trialSettle 400)).windowDue .a = true ∧ (cycling .trialSettle 400).regulator.state = .trialSettle) ∧
    (let s := (at' 3000#32 (cycling .hold 3000)).withClassifier { base.classifier with adopted := ⟨1, 0, 2, 2⟩ }
     s.windowDue .a = true ∧ s.regulator.state = .hold ∧ s.classifier.adopted.feed = 0) := by decide

/-- `episode` with other sums and counts in entries 0, 2 and 3. -/
def episodeWith (shoe sep flow : Channel) : State :=
  setChannel 3 flow (setChannel 2 sep (setChannel 0 shoe episode))

theorem test_witness_AWindowEndsInItsResult :
    (cycling .measure 80).windowResult .measure = ⟨.measure, 42, .void, 1, 0#16, 0#16, 0#16, 0#32⟩ ∧
    ((episodeWith (measured .shoeLoss 0#32) (measured .sepLoss 0#32) (measured .grainFlow 15999#32)).windowResult .trial).voidCause = 2 ∧
    ((episodeWith (measured .shoeLoss 0#32) (measured .sepLoss 0#32) (measured .grainFlow 16000#32)).windowResult .trial).voidCause = 0 ∧
    ((episodeWith ⟨chan .shoeLoss, freshRuntime false⟩ (measured .sepLoss 0#32) (measured .grainFlow 16000#32)).windowResult .trial).voidCause = 3 ∧
    ((episodeWith ⟨chan .shoeLoss, { freshRuntime true with count := 1#16 }⟩ (measured .sepLoss 0#32)
      (measured .grainFlow 16000#32)).windowResult .trial).voidCause = 4 ∧
    ((at' 80#32 (cycling .measure 80)).works ∧ (at' 80#32 (cycling .measure 80)).windowDue .b = true ∧
      (cycling .measure 80).regulator.state = .measure) := by decide +kernel

theorem test_witness_WindowsAreTuned :
    (cycling .settle 400).admits rq .modifying inReadyOrRegulating ∧ 5 ≤ (5#16).toNat ∧ (600#16).toNat ≤ 600 ∧
    10 ≤ (10#16).toNat ∧ (3000#16).toNat ≤ 3000 ∧ ready.regulator.window = none ∧
    (cycling .settle 400).regulator.window = some (.a, ⟨0#32, 400⟩) ∧
    (((at' 49#32 (cycling .settle 400)).partTime - 0#32).toNat < 10 * (5#16).toNat) ∧
    (10 * (5#16).toNat ≤ ((at' 50#32 (cycling .settle 400)).partTime - 0#32).toNat) := by decide

/-- A trial of FAN +50 on the baseline 2266 of 6.14. -/
def trialState : State :=
  let s := cycling .trialMeasure 800
  s.withRegulator { s.regulator with
    trial := some ⟨.a, 77, 0, .fan, 50#10, 1150#16⟩
    baseline := some ⟨.measure, 77, .highLoss, 0, 220#16, 240#16, 2266#16, 0#32⟩ }

theorem test_witness_ATrialIsKeptOrReverted :
    trialState.regulator.trial = some ⟨.a, 77, 0, .fan, 50#10, 1150#16⟩ ∧
    trialState.regulator.baseline = some ⟨.measure, 77, .highLoss, 0, 220#16, 240#16, 2266#16, 0#32⟩ ∧
    ((2216#16).toNat + trialState.mgmt.params.item 31 ≤ (2266#16).toNat) ∧
    ¬ ((2217#16).toNat + trialState.mgmt.params.item 31 ≤ (2266#16).toNat) ∧ 0 < trialState.activeBank.plan.length ∧
    trialState.cellInUse = some cellA ∧ trialState.driveStation .fan = some 43#8 ∧
    (trialState.record .fan).manual = false ∧ (trialState.record .fan).state ≠ .fault := by decide +kernel

theorem test_witness_GuardsFollowTheirConditions :
    ((base.guards.guard 1).config.edge = false ∧ (base.guards.guard 1).condition = false) ∧
    ((guarded.guards.guard 1).config.edge = false ∧ (guarded.guards.guard 1).condition = true) ∧
    ((base.guards.guard 5).config.edge = true ∧ (base.guards.guard 5).condition = false ∧ (base.guards.guard 5).armed = true) ∧
    (let s := withGuard 5 (fun g => { g with armed := false }) base
     (s.guards.guard 5).config.edge = true ∧ (s.guards.guard 5).condition = false ∧ (s.guards.guard 5).armed = false) ∧
    (let s := withGuard 5 (fun g => { g with condition := true, armed := false }) base
     (s.guards.guard 5).config.edge = true ∧ (s.guards.guard 5).condition = true) := by decide

theorem test_witness_TheMostUrgentGuardActs :
    (∀ n, (base.guards.guard n).state ≠ .pending) ∧
    ((guarded.guards.guard 1).state = .pending ∧ (guarded.guards.guard 1).config.masked = false ∧
      (guarded.guards.guard 1).config.priority < guarded.guards.floor ∧
      (∀ k ∈ guarded.guards.stack, (guarded.guards.guard 1).config.priority < (guarded.guards.guard k).config.priority) ∧
      ∀ m, m ≠ 1 → (guarded.guards.guard m).state ≠ .pending) ∧
    (∀ n ∈ guarded.guards.stack, (guarded.guards.guard n).config.action.code ≤ Action.code .noticeOnly) := by decide

theorem test_witness_TheArbiterTakesRequestsTimersAndLines :
    (ready.admits rq .modifying notRegulating ∧ (7#8).toNat ≤ 7 ∧ (1#8 : Byte) ≠ 0#8 ∧ (7#8).toNat < 8 ∧
      Action.ofCode (3#8).toNat = some .safeSet ∧ (isEventSource 11 = true → (7#8).getLsbD 1 = true) ∧
      (ready.guards.guard 11).state ≠ .acting ∧ (guarded.guards.guard 11).state = .acting) ∧
    ((4095#16).toNat < 4096 ∧ 1 ≤ (1#8).toNat ∧ (8#8).toNat ≤ 8) ∧
    ((guarded.admits rq .modifying anyState ∧ (11#8).toNat = (11 : Fin 12).val ∧ (guarded.guards.guard 11).state = .acting) ∧
      guarded.guards.stack.getLast? = some 11) ∧
    (at' 100#32 (base.withGuards { base.guards with slipDrum := some ⟨0#32, 100⟩ })).slipDue .drum = true ∧
    (at' 100#32 (base.withGuards { base.guards with slipFan := some ⟨0#32, 100⟩ })).slipDue .fan = true ∧
    (at' 200#32 (withGuard 11 (fun g => { g with clearTimer := some ⟨0#32, 200⟩ }) guarded)).clearDue 11 = true := by decide

theorem test_witness_TheHeartbeatIsLoadedByTheOwner :
    (ready.admits rq .modifying anyState ∧ ready.regulator.state ≠ .safe ∧ (31#8).toNat < 32) ∧
    (∀ st : Setting, (31#8).getLsbD st.num = true →
      ready.mgmt.params.inLimits st ((⟨250#16, 500#16, 0#16, 200#16, 1500#16⟩ : PerSetting Word16).get st).toNat = true) ∧
    ready.admits rq .modifying inReadyOrRegulating ∧
    (ready.works ∧ ready.mgmt.owner = some rq.station ∧ (after (.beatEnable rq) ready).safe.beatRunning = true ∧
      ready.safe.beatRunning = false ∧ base.mgmt.owner ≠ some rq.station) := by
  refine ⟨by decide, fun st _ => ?_, by decide, by decide⟩
  cases st <;> decide

theorem test_witness_TheOwnerIsLost :
    ((cycling .hold 3000).ownerSound = true ∧ (cycling .hold 3000).cycleSound = true ∧ (cycling .hold 3000).works ∧
      (cycling .hold 3000).mgmt.partState = .regulating ∧ ready.ownerSound = true ∧ ready.cycleSound = true ∧
      ready.mgmt.partState ≠ .regulating) ∧
    (let s := ready.withSafe { ready.safe with beatRunning := true, beatCount := 0#16 }
     s.works ∧ s.safe.beatRunning = true ∧ s.safe.beatCount = 0#16) ∧
    (ready.free ∧ ready.mgmt.owner = some rq.station ∧ base.free ∧ base.mgmt.owner = none) := by decide

theorem test_witness_RequestsAreTurnedAwayInOrder :
    ((Instr.start rq).request = some (rq, 41) ∧ (Instr.start rq).wellFormed = true ∧ saving.works ∧ saving.mgmt.busy = true) ∧
    (ready.free ∧ (Instr.unknownRequest rq 50#8 []).request = some (rq, 50) ∧ (Instr.unknownRequest rq 50#8 []).wellFormed = true) ∧
    (requestMode (.start rq) ≠ .read ∧ (ready.withMgmt { ready.mgmt with owner := some 3#8 }).mgmt.owner ≠ some rq.station ∧
      (ready.withMgmt { ready.mgmt with owner := some 3#8 }).mgmt.owner ≠ none) ∧
    (requestMode (.beat rq) = .noClaim ∧ base.mgmt.owner = none) ∧
    (ready.mgmt.owner = some rq.station ∧ requestColumn (.stop rq) ready.mgmt.partState = false) := by decide

theorem test_witness_TheFirstModifyingRequestClaims :
    ((Instr.save rq).request = some (rq, 47) ∧ (Instr.save rq).wellFormed = true ∧ requestMode (.save rq) = .modifying ∧
      base.works ∧ base.mgmt.owner = none ∧ base.mgmt.partState = .awaitParam ∧ base.mgmt.busy = false ∧
      (base.withMgmt { base.mgmt with reading := some ⟨rq, 0⟩ }).mgmt.busy = true) ∧
    (ready.mgmt.owner = some 2#8 ∧ ∃ t, exec (.releaseOwner rq) ready = .next t) :=
  ⟨by decide, by decide, _, rfl⟩

theorem test_witness_ParametersComeIntoForce :
    ((owned .awaitParam).admits rq .modifying inAwaitParam ∧ (paramRange (0 : Fin 43).val).1 ≤ (250#16).toNat ∧
      (1400#16).toNat ≤ (paramRange (0 : Fin 43).val).2) ∧
    (let s := owned .awaitParam
     let p := s.mgmt.pendingParams
     (∀ st : Setting, p.item st.num < p.item (5 + st.num)) ∧ substituteFits p s.safe.substitute = true ∧
       bankFits p s.map.bankA = true ∧ bankFits p s.map.bankB = true ∧ p.item 1 ≤ p.item 25 ∧ p.item 25 ≤ p.item 6) ∧
    (¬ ((defaultParams.write 0 1400#16).item 0 < (defaultParams.write 0 1400#16).item 5)) ∧
    (owned .awaitLayout).admits rq .modifying inLayoutOrReady := by
  refine ⟨by decide, ⟨fun st => ?_, by decide, by decide +kernel, by decide +kernel, by decide, by decide⟩,
    by decide, by decide⟩
  cases st <;> decide

/-- Pairs of LAYOUT WRITE at the bounds: station 62, no station, period 5. -/
def pairs : PerSetting (Byte × Byte) := ⟨(62#8, 5#8), (255#8, 5#8), (0#8, 255#8), (1#8, 5#8), (2#8, 5#8)⟩

theorem test_witness_DrivesAreCheckedInOrder :
    ((owned .awaitLayout).admits rq .modifying inAwaitLayout ∧ (owned .awaitLayout).cycleSound = true ∧
      ∀ st, ((pairs.get st).1.toNat ≤ 62 ∨ (pairs.get st).1 = 255#8) ∧ (pairs.get st).1 ≠ (owned .awaitLayout).ownStation ∧
        5 ≤ (pairs.get st).2.toNat) ∧
    (ready.driveStation .drum = some 21#8 ∧ (∀ st, ready.driveStation st ≠ none ∧ ready.driveStation st ≠ some ready.ownStation) ∧
      (∀ a b : Setting, a ≠ b → ready.driveStation a ≠ ready.driveStation b) ∧
      (laid (owned .awaitLayout)).admits rq .modifying inAwaitLayout ∧
      (laid ((owned .awaitParam).withMgmt { (owned .awaitParam).mgmt with imageHeld := true })).admits rq .modifying inAwaitParam) ∧
    (let s := at' 10#32 (ready.withMgmt { ready.mgmt with partState := .checking, checking := some ⟨.fan, 1, ⟨0#32, 10⟩⟩ })
     s.works ∧ s.mgmt.checking = some ⟨.fan, 1, ⟨0#32, 10⟩⟩ ∧ s.answerDue = true ∧ s.driveStation .fan = some 43#8 ∧
       1 < 2 ∧ 2 ≤ 2) := by
  refine ⟨⟨by decide, by decide, fun st => ?_⟩, ⟨by decide, fun st => ?_, fun a b => ?_, by decide, by decide⟩, by decide⟩
  · cases st <;> decide
  · cases st <;> decide
  · cases a <;> cases b <;> decide

theorem test_witness_RegulationStartsAndStops :
    ((owned .ready).admits rq .modifying inReady ∧ (owned .ready).activeBank.valid = false) ∧
    ((mapped (owned .ready)).activeBank.valid = true ∧ (mapped (owned .ready)).safe.substitute.loaded = false) ∧
    (ready.activeBank.valid = true ∧ ready.safe.substitute.loaded = true ∧ ready.regulator.state = .idle ∧
      ready.guards.effective = .noticeOnly ∧ ready.cellInUse = some cellA) ∧
    ((cycling .measure 800).admits rq .modifying inRegulating ∧ (cycling .measure 800).cycleSound = true) := by
  decide +kernel

theorem test_witness_ConfigurationIsSavedAndReloaded :
    ready.admits rq .modifying inReadyOrRegulating ∧ saving.works ∧ saving.mgmt.saving = some ⟨rq, ready.snapshot, 0#32⟩ ∧
    ready.admits rq .modifying anyState ∧
    (let s := ready.withMgmt { ready.mgmt with restartDue := true }
     s.works ∧ s.mgmt.restartDue = true) ∧
    (after (.powerOnReset 3#3) saving).store.found = .failed ∧
    (after (.powerOnReset 3#3) ready).store.found = .blank ∧
    (⟨.erased, 0#16⟩ : Store).found = .failed := by decide +kernel

theorem test_witness_ConfigurationIsSavedAndReloaded_valid :
    ∃ t, exec (.powerOnReset 3#3) (ready.withStore (.written ready.snapshot)) = .next t ∧
      t.store.found = .valid ready.snapshot := by
  refine ⟨_, rfl, ?_⟩
  simp [resetPart, judgeStore, resetBlocks, cutShort, State.withStore, Store.found, Store.written,
    show ready.mgmt.saving = none by decide]

theorem test_witness_AResetLeavesTheAfterResetState :
    (∃ t, exec (.powerOnReset 7#3) ready = .next t ∧ t.store.found ≠ .failed) ∧
    ∃ t, exec (.powerOnReset 7#3) saving = .next t ∧ t.store.found = .failed :=
  ⟨⟨_, rfl, by decide⟩, ⟨_, rfl, by decide⟩⟩

/-- A ring with `n` notices from slot 0 on. -/
def ring (n : Nat) (s : State) : State :=
  (List.range n).foldl (fun t _ => t.withNotices (t.notices.join ⟨.beatExpired, 7#32, 2#8, 200#16⟩)) s

theorem test_witness_NoticesAreQueuedAndFetched :
    ((ready.mgmt.params.item 42).testBit (NoticeKind.classBit .planExhausted) = false ∧
      (ready.mgmt.params.item 42).testBit (NoticeKind.classBit .linkFault) = true ∧ (ring 31 ready).notices.held = 31 ∧
      (ring 30 ready).notices.held < 31 ∧ ready.notices.held = 0 ∧ ready.mgmt.params.item 41 = 1 ∧
      ready.mgmt.owner = some 2#8 ∧ 0 < (ring 30 ready).notices.held) ∧
    (ready.admits rq .modifying anyState ∧ (noticed ready).noticesSound = true ∧ (noticed ready).mgmt = ready.mgmt) := by
  decide +kernel

theorem test_witness_PicturesArePublishedAndRead :
    ready.pictures.sound = true ∧ (publish (after (.pictureRead rq) (publish ready))).pictures.sound = true ∧
    (base.free ∧ base.settled ∧ base.pictures.sound = true) ∧
    (let s := base.withMgmt { base.mgmt with reading := some ⟨rq, 2⟩, outstanding := ⟨none, some .picture⟩ }
     s.mgmt.reading = some ⟨rq, 2⟩ ∧ s.mgmt.outstanding.get .m = some .picture ∧ 0 < 2 ∧ ¬ (2 < 2)) := by
  decide +kernel

theorem test_witness_CountersAreRead : base.free ∧ base.settled := by decide

theorem test_witness_ReadsAnswerAndChangeNothing :
    base.free ∧ base.settled ∧ 23 < (24#8).toNat ∧ 1 < (2#8).toNat ∧ Axis.ofNum (3#8).toNat = some .side ∧
    (ready.map.bank .b).cell (119#8).toNat = some cellA ∧ cell77.trim ≠ none ∧ (4#8).toNat ≤ 4 := by decide +kernel

/-! ### The hypotheses of the clauses on refusals, on events and on reads -/

/-- The regulator, in SAFE with a cause, in a part state. -/
def safeIn (cause : SafeCause) (p : PartState) : State :=
  let s := ready.withMgmt { ready.mgmt with partState := p }
  (s.withPins { s.pins with safeOut := true }).withRegulator { s.regulator with state := .safe, safeCause := some cause }

/-- PAUSED. -/
def paused : State := cycling .paused 0

/-- A keep of FAN +50 in cell 77 of bank A waits. -/
def keeping (s : State) : State := s.withKeep (some ⟨.a, 77, .fan, 50#10⟩)

theorem test_witness_AnEmptyQueueTakesUpWhatIsDue_keep :
    (keeping ready).pending = [] ∧ (keeping ready).works ∧ (keeping ready).keep = some ⟨.a, 77, .fan, 50#10⟩ := by decide
theorem test_waiting_keep_is_taken :
    ∃ t, step (keeping ready) = .next t ∧ t.keep = none ∧
      ((t.map.bankA.cell 77).bind CellRecord.trim) = some ⟨⟨0#16, 0#16, 0#16, 0#16, 50#16⟩, 1⟩ := ⟨_, rfl, rfl, by decide⟩
theorem test_waiting_keep_counts_in_the_next_target :
    (keeping ((ready).withClassifier { ready.classifier with adopted := ⟨2, 3, 2, 2⟩ })).cellInUse =
      some (cellA.keep 150 .fan 50) := by decide
theorem test_keep_waits_by_choice :
    let t := handKeep ⟨.a, 77, .fan, 50#10⟩ (ready.withOrder [1, 1])
    t.keep = some ⟨.a, 77, .fan, 50#10⟩ ∧ t.map = ready.map ∧ t.order = [1] := ⟨rfl, rfl, rfl⟩

theorem test_witness_FramesAreForwardedOrFiltered_mirror :
    let s := setChannel 0 ⟨{ chan .pitch with mirror := false }, freshRuntime false⟩ base
    s.channelsSound = true ∧ sample.payload = [1#8, 12#8, 0#8] ∧ s.mirrorOff sample = true ∧
      base.channelsSound = true ∧ base.mirrorOff sample = false := by decide +kernel

theorem test_witness_ASampleIsTracked_lost :
    let s := heard .shoeLoss .lost base
    (s.channel 0).defn.enabled = true ∧ (heard .shoeLoss .locked base).channelsSound = true ∧
      sample.payload = [1#8, 12#8, 0#8] ∧ s.matchSample sample.source ((1#8 : Byte).setWidth 2) = some 0 ∧
      (s.channel 0).rt.lock = .lost := by decide +kernel
theorem test_sample_leaves_lost :
    let t := takeSample sample (heard .shoeLoss .lost (cycling .measure 80))
    (t.channel 0).rt.lock = .locked ∧ (t.channel 0).rt.count = 1#16 ∧ t.notices.held = 1 := by decide

theorem test_witness_ChannelRequestsTakeEffect_refused :
    (owned .ready).admits rq .modifying inSetup ∧ 23 < (24#8).toNat ∧
    channelOfFields (owned .ready).ownStation { channelFields with station := 63#8 } = none ∧
    (∃ d, channelOfFields ready.ownStation { channelFields with station := 10#8, sub := 1#8 } = some d ∧
      (heard .pitch .locked ready).channels.breaksLimit 23 d = true ∧ (23#8).toNat = (23 : Fin 24).val) ∧
    23 < (254#8).toNat ∧ (254#8 : Byte) ≠ 255#8 :=
  ⟨by decide, by decide, rfl, ⟨_, rfl, by decide +kernel, rfl⟩, by decide, by decide⟩

theorem test_witness_ClassesAreAdopted_refused :
    (owned .ready).admits rq .modifying inSetup ∧ 3 < (4#8).toNat ∧ Axis.ofNum (0#8).toNat = some .moisture ∧
    ([150#16, 190#16, 240#16] : List Word16).length = Axis.highest .moisture ∧ 1000 < (1001#16).toNat ∧
    Axis.highest .moisture < (4#8).toNat ∧ strictlyAscending [150#16, 190#16, 190#16] = false ∧
    ([150#16, 190#16] : List Word16).length < Axis.highest .moisture ∧
    Axis.highest .moisture ≤ ([150#16, 190#16, 190#16, 7#16] : List Word16).length ∧
    strictlyAscending (([150#16, 190#16, 190#16, 7#16] : List Word16).take (Axis.highest .moisture)) = false := by decide

theorem test_witness_CellsAndPlansAreWritten_refused :
    ready.admits rq .modifying anyState ∧ 2 ≤ (2#8).toNat ∧ BankId.ofNum (0#8).toNat = some .a ∧
    ((cycling .hold 3000).admits rq .modifying anyState ∧ BankId.a = (cycling .hold 3000).map.active ∧
      (cycling .hold 3000).mgmt.partState = .regulating) ∧
    ¬ (BankId.a = ready.map.active ∧ ready.mgmt.partState = .regulating) ∧
    ¬ ((120#8).toNat ≤ 119) ∧ ¬ ((8#8).toNat < 8) ∧ ready.mgmt.params.inLimits .drum (249#16).toNat = false ∧
    ¬ ((4#8).toNat ≤ 3) ∧ ¬ ((1#8).toNat ≤ (0#8).toNat) ∧
    8 < (9#8).toNat ∧ ¬ ((9#8).toNat ≤ 8) ∧
    ((1#8).toNat ≤ ([0#16, 5#16] : List Word16).length ∧ (8#8).toNat ≤ 8 ∧ ([0#16] : List Word16).length < (8#8).toNat) ∧
    ((0#16 : Word16).extractLsb' 0 10).toInt = 0 ∧ stepOfWord 0#16 = none := by decide

/-- An AXIS WRITE with an Axis above 3 is BAD_FIELD whatever words it carries, and words beyond the last are
ignored (R181). -/
theorem test_axis_write_words :
    after (.axisWrite rq 4#8 1#16 1#8 [1#16]) (owned .ready) = answer rq 5 .badField [] (owned .ready) ∧
    (after (.axisWrite rq 0#8 5#16 3#8 [150#16, 190#16, 240#16, 7#16]) (owned .awaitParam)).classifier =
      (after (.axisWrite rq 0#8 5#16 3#8 [150#16, 190#16, 240#16]) (owned .awaitParam)).classifier := by decide +kernel

/-- The same of a PLAN WRITE with a Count above 8, and of step words beyond Count (R181). -/
theorem test_plan_write_words :
    after (.planWrite rq 1#8 9#8 [1#16]) ready = answer rq 9 .badField [] ready ∧
    (after (.planWrite rq 1#8 1#8 [5#16, 0#16]) ready).map = (after (.planWrite rq 1#8 1#8 [5#16]) ready).map ∧
    (after (.planWrite rq 1#8 1#8 [5#16, 0#16]) ready).map.bankB.plan = [⟨.drum, 5#10, .loss⟩] := by decide +kernel

/-- A picture published after entry 0 was lost reports LOST for it, and SEARCH for the entry beside it (R34). -/
theorem test_picture_names_the_lock_states :
    let s := heard .shoeLoss .lost base
    (s.nextPicture.locks.get 0, s.nextPicture.locks.get 1) = (.lost, .search) := by decide +kernel

theorem test_witness_BanksSwitchAndTrimsAreCleared_events :
    (ready.regulator.state = .idle ∧ paused.regulator.state = .paused ∧ (safeIn .guard .regulating).regulator.state = .safe) ∧
    ((cycling .measure 800).regulator.state ≠ .idle ∧ (cycling .measure 800).regulator.state ≠ .paused ∧
      (cycling .measure 800).regulator.state ≠ .safe) ∧
    (ready.admits rq .modifying anyState ∧ 2 < (3#8).toNat ∧ 119 < (120#8).toNat ∧ (254#8 : Byte) ≠ 255#8 ∧ 119 < (254#8).toNat) := by
  decide

theorem test_witness_DriveAnswersMoveTheExchange_reports :
    (let f := toOwn 21#8 .report [0#8, 26#8, 4#8, 12#8]
     f.kind = .report ∧ f.payload = [0#8, 26#8, 4#8, 12#8] ∧ (0#8).toNat = Setting.drum.num ∧
       moving.driveStation .drum = some f.source ∧ moving.driveStation .drum ≠ some (30#8 : Byte) ∧
       (12#8).getLsbD 2 = true ∧ (12#8).getLsbD 3 = true ∧ (moving.record .drum).manual = false ∧ (0#8).getLsbD 2 = false) ∧
    ((cycling .trialMove 0).regulator.state = .trialMove ∧ (moving.record .drum).deferred = none) := by decide +kernel
theorem test_report_by_hand_ends_the_exchange :
    let t := takeDriveFrame (toOwn 21#8 .report [0#8, 26#8, 4#8, 8#8]) moving
    (t.record .drum).manual = true ∧ (t.record .drum).state = .idle ∧ (t.record .drum).lastActual = some 1050#16 ∧
      (t.record .drum).tracking = .locked := by decide
theorem test_report_of_a_drive_fault :
    ((takeDriveFrame (toOwn 21#8 .report [0#8, 26#8, 4#8, 4#8]) moving).record .drum).cause = .driveFlag := by decide

theorem test_witness_ExpiredMovesAreResentOrFail_inFault :
    let s := at' 30#32 (withRecord .drum (fun r => { r with
      state := .fault, cause := .refused, tracking := .oneMissed, trackWindow := some ⟨0#32, 30⟩ }) ready)
    s.works ∧ s.trackingDue .drum = true ∧ (s.record .drum).tracking = .oneMissed ∧ (s.record .drum).state = .fault := by decide

theorem test_witness_HoldsAreSetAndReleased_refused :
    (cycling .hold 3000).admits rq .modifying inReadyOrRegulating ∧ 4 ≤ (4#8).toNat := by decide

/-- REGULATING in a trial state, with a trial of FAN +50 at position 0 of cell 77. -/
def inTrialOf (state : RegState) : State :=
  let s := cycling state 800
  s.withRegulator { s.regulator with trial := some ⟨.a, 77, 0, .fan, 50#10, 1150#16⟩ }

theorem test_witness_SettlingLeadsToMeasuring_events :
    ((cycling .follow 0).regulator.state = .follow ∧ ∀ o, ((cycling .follow 0).record o).settled = true) ∧
    (let s := withRecord .fan (fun r => { r with state := .moving }) (cycling .follow 0)
     s.regulator.state = .follow ∧ (s.record .fan).settled = false) ∧
    ((inTrialOf .trialMove).regulator.state = .trialMove ∧ (inTrialOf .revert).regulator.state = .revert ∧
      (inTrialOf .revert).regulator.trial = some ⟨.a, 77, 0, .fan, 50#10, 1150#16⟩ ∧
      ((inTrialOf .revert).record .fan).settled = true ∧ Setting.fan ≠ .drum) := by
  refine ⟨⟨by decide, fun o => by cases o <;> decide⟩, by decide, by decide⟩

theorem test_witness_WindowsAreTuned_refused :
    (cycling .settle 400).admits rq .modifying inReadyOrRegulating ∧ ¬ (5 ≤ (4#16).toNat) ∧ ¬ ((601#16).toNat ≤ 600) ∧
    ¬ (10 ≤ (9#16).toNat) ∧ ¬ ((3001#16).toNat ≤ 3000) := by decide

theorem test_witness_ATrialIsKeptOrReverted_search :
    (episode.trialConditions = true ∧ (cycling .measure 800).trialConditions = true ∧
      (setHeld 1#8 true episode).trialConditions = false ∧ WindowOutcome.both ≠ .good) ∧
    (trialState.cellInUse = some cellA ∧ trialState.regulator.cursor ≤ 0 ∧
      trialState.activeBank.plan[0]? = some ⟨.fan, 50#10, .any⟩ ∧ (trialState.record .fan).manual = false ∧
      (trialState.record .fan).state ≠ .fault ∧ (50 : Int).natAbs ≤ trialState.mgmt.params.item 24 ∧
      (trialState.mgmt.params.item 4 : Int) ≤ 1150 ∧ (1150 : Int) ≤ trialState.mgmt.params.item 9 ∧
      ∀ j : Nat, 0 ≤ j) ∧
    (let s := trialState.withRegulator { trialState.regulator with cursor := 1 }
     s.regulator.baseline ≠ none ∧ s.activeBank.plan.length = 1 ∧ ∀ k p, s.activeBank.plan[k]? = some p → ¬ (1 ≤ k)) ∧
    ((trialState.withOrder [1]).order.headD 0 % 2 ≠ 0 ∧ trialState.order.headD 0 % 2 = 0) ∧
    (trialState.regulator.state = .trialMeasure ∧ Setting.fan ≠ .drum) := by
  refine ⟨by decide +kernel, ⟨by decide, by decide, by decide, by decide, by decide, by decide, by decide, by decide,
    fun j => Nat.zero_le j⟩, ⟨by decide, by decide, fun k p hp hk => ?_⟩, by decide, by decide⟩
  have h : k < trialState.activeBank.plan.length := (List.getElem?_eq_some_iff.mp hp).1
  have : trialState.activeBank.plan.length = 1 := by decide
  omega
theorem test_trial_goal_stands_in_the_picture :
    let t := tryNextStep trialState
    t.regulator.state = .trialMove ∧
      ∀ k, (t.pictures.buffers.get k).role = .n → (t.pictures.buffers.get k).picture.targets.fan = some 1150#16 := by
  decide
theorem test_exclusion_abandons_the_trial :
    let t := takeExclusion .fan (inTrialOf .trialSettle)
    t.regulator.state = .follow ∧ t.regulator.cursor = 1 ∧ t.regulator.trial = none := by decide

/-- DRUM stands IDLE with a goal of 1050, and its speed is known. -/
def turning (goal : Word16) : State :=
  withRecord .drum (fun r => { r with goal := some ⟨goal, .regulator⟩ }) (cycling .hold 3000)

theorem test_witness_GuardsFollowTheirConditions_values :
    (∃ x : Word16, some x = some 851#16 ∧
      ((turning 1050#16).mgmt.params.item 37 : Int) < (181#16).toInt ∧ ¬ (((turning 1050#16).mgmt.params.item 37 : Int) < (180#16).toInt) ∧
      ((turning 1050#16).mgmt.params.item 38 : Int) < (901#16).toInt ∧
      (turning 1050#16).mgmt.params.item 39 < (BitVec.ofInt 16 (-251)).toInt.natAbs) ∧
    (let s := turning 1000#16
     s.regulator.state ≠ .idle ∧ (s.record .drum).state = .idle ∧ (s.record .drum).manual = false ∧
       (s.record .drum).goal = some ⟨1000#16, .regulator⟩ ∧ (s.record .drum).limited = false ∧
       (849#16).toInt * 100 < s.mgmt.params.item 34 * (1000#16).toNat ∧
       ¬ ((850#16).toInt * 100 < s.mgmt.params.item 34 * (1000#16).toNat) ∧
       (s.guards.guard 0).condition = false ∧ s.guards.slipDrum = none) := by
  refine ⟨⟨851#16, rfl, by decide, by decide, by decide, by decide⟩, by decide⟩
theorem test_slip_dwell_starts_and_stops :
    let t := takeKept .drumSpeed (some 849#16) (turning 1000#16)
    t.guards.slipDrum = some ⟨0#32, 100⟩ ∧ (takeKept .drumSpeed (some 850#16) t).guards.slipDrum = none := by decide
theorem test_feed_surge :
    ((takeKept .feedLoad (some 181#16) base).guards.guard 1).condition = true ∧
    ((takeKept .feedLoad (some 180#16) base).guards.guard 1).condition = false := by decide

theorem test_witness_TheMostUrgentGuardActs_actions :
    (ready.mgmt.partState ≠ .regulating ∧ (safeIn .ownerLoss .regulating).regulator.safeCause = some .ownerLoss) ∧
    ((cycling .measure 800).mgmt.partState = .regulating ∧ (cycling .measure 800).regulator.state ≠ .idle ∧
      (cycling .measure 800).regulator.state ≠ .paused ∧ (cycling .measure 800).regulator.state ≠ .safe) ∧
    (paused.mgmt.partState = .regulating ∧ paused.regulator.state = .paused) ∧
    ((safeIn .guard .regulating).mgmt.partState = .regulating ∧ (safeIn .guard .regulating).regulator.state = .safe ∧
      (safeIn .guard .regulating).regulator.safeCause = some .guard) := by decide
theorem test_open_concave_gives_the_release_target :
    let t := takeAction .openConcave (cycling .measure 800)
    t.regulator.state = .paused ∧ (t.record .concave).goal = some ⟨500#16, .guard⟩ ∧ t.channels.gate = false := by decide

theorem test_witness_TheArbiterTakesRequestsTimersAndLines_refused :
    ready.admits rq .modifying notRegulating ∧ 11 < (12#8).toNat ∧ 7 < (8#8).toNat ∧ 3 < (4#8).toNat ∧ 8 ≤ (8#8).toNat ∧
    ((5#8).toNat = 5 ∧ (5#8).getLsbD 1 = false) ∧ ready.admits rq .modifying anyState ∧ 4096 ≤ (4096#16).toNat ∧
    (0#8).toNat = 0 ∧ 8 < (9#8).toNat ∧ (11#8).toNat = (11 : Fin 12).val ∧ (ready.guards.guard 11).state ≠ .acting ∧
    ready.guards.stack = [] ∧ 11 < (254#8).toNat ∧ (254#8 : Byte) ≠ 255#8 := by decide

theorem test_witness_TheHeartbeatIsLoadedByTheOwner_refused :
    (safeIn .guard .regulating).admits rq .modifying anyState ∧ (safeIn .guard .regulating).regulator.state = .safe ∧
    ready.regulator.state ≠ .safe ∧ 32 ≤ (32#8).toNat ∧ (1#8).getLsbD Setting.drum.num = true ∧
    ready.mgmt.params.inLimits .drum (1401#16).toNat = false := by decide

theorem test_witness_TheOwnerIsLost_event :
    paused.regulator.state ≠ .idle ∧ paused.regulator.state ≠ .safe ∧ (safeIn .guard .regulating).regulator.state = .safe ∧
    PartState.ready ≠ .regulating := by decide

/-- AWAIT_PARAM, with a pending block in which some items differ from the defaults. -/
def pendingWith (items : List (Nat × Word16)) : State :=
  let s := mapped (owned .awaitParam)
  s.withMgmt { s.mgmt with pendingParams := items.foldl (fun p x => p.write x.1 x.2) defaultParams }

theorem test_witness_ParametersComeIntoForce_conflicts :
    (pendingWith [(0, 1400#16)]).admits rq .modifying inAwaitParam ∧ 42 < (43#8).toNat ∧
    (249#16).toNat < (paramRange (0#8).toNat).1 ∧ (paramRange (0#8).toNat).2 < (1401#16).toNat ∧
    paramConflict (pendingWith [(0, 1400#16)]).mgmt.pendingParams emptySubstitute (pendingWith []).map =
      some [0#8, 1#8, 255#8, 255#8] ∧
    paramConflict (pendingWith [(0, 801#16)]).mgmt.pendingParams ready.safe.substitute (pendingWith []).map =
      some [0#8, 2#8, 255#8, 255#8] ∧
    paramConflict (pendingWith [(9, 1099#16)]).mgmt.pendingParams emptySubstitute (pendingWith []).map =
      some [9#8, 3#8, 0#8, 0#8] ∧
    paramConflict (pendingWith [(6, 499#16)]).mgmt.pendingParams emptySubstitute (pendingWith []).map =
      some [6#8, 4#8, 255#8, 255#8] ∧
    paramConflict (pendingWith [(24, 59#16)]).mgmt.pendingParams emptySubstitute
      ⟨bankA, writeCell 77 ⟨cellA.targets, 1#8, 0#16, 0#16⟩ { bankA with cells := bankA.cells.put 78 (some cell77) }, .a⟩ =
      some [24#8, 5#8, 1#8, 78#8] := by decide +kernel

theorem test_witness_DrivesAreCheckedInOrder_refused :
    ((owned .awaitLayout).admits rq .modifying inAwaitLayout ∧ 62 < (63#8).toNat ∧ (63#8 : Byte) ≠ 255#8 ∧
      (owned .awaitLayout).ownStation = 51#8 ∧ (4#8).toNat < 5) ∧
    ((owned .awaitLayout).driveStation .drum = none ∧ ∀ o : Setting, ¬ (o.num < Setting.drum.num)) ∧
    (let s := (laid (owned .awaitLayout)).withMoves { (laid (owned .awaitLayout)).moves with roster := { drives with fan := ⟨some 42#8, 10#8⟩ } }
     s.driveStation .fan = s.driveStation .lower ∧ ∀ o : Setting, o.num < Setting.lower.num → s.layoutFault o = false) ∧
    ((owned .awaitParam).admits rq .modifying inAwaitParam ∧ (owned .awaitParam).mgmt.imageHeld = false) := by
  refine ⟨by decide, ⟨by decide, fun o => by simp [Setting.num]⟩, ⟨by decide, fun o h => ?_⟩, by decide⟩
  cases o <;> first | decide | simp [Setting.num] at h

/-- CHECKING asks a setting. -/
def asking (st : Setting) : State :=
  (laid (owned .checking)).withMgmt { (owned .checking).mgmt with checking := some ⟨st, 1, ⟨0#32, 10⟩⟩ }

theorem test_witness_DrivesAreCheckedInOrder_idents :
    (toOwn 43#8 .ident [4#8, 44#8, 1#8, 220#8, 5#8]).payload = [4#8, 44#8, 1#8, 220#8, 5#8] ∧
    ready.mgmt.checking = none ∧ (asking .fan).mgmt.checking = some ⟨.fan, 1, ⟨0#32, 10⟩⟩ ∧
    (asking .fan).driveStation .fan = some (43#8 : Byte) ∧ (asking .fan).driveStation .fan ≠ some (42#8 : Byte) ∧
    (4#8).toNat = Setting.fan.num ∧ (3#8).toNat ≠ Setting.fan.num ∧
    ((word16 44#8 1#8).toNat ≤ (asking .fan).mgmt.params.item 4 ∧ (asking .fan).mgmt.params.item 9 ≤ (word16 220#8 5#8).toNat) ∧
    ¬ ((word16 45#8 1#8).toNat ≤ (asking .fan).mgmt.params.item 4) ∧
    ((asking .lower).driveStation .fan = some 43#8 ∧ Setting.fan.num = Setting.lower.num + 1) := by decide +kernel
theorem test_ident_passes_the_drive_on :
    (takeIdent (toOwn 42#8 .ident [3#8, 0#8, 0#8, 200#8, 0#8]) (asking .lower)).mgmt.checking =
      some ⟨.fan, 1, ⟨0#32, 10⟩⟩ := by decide

theorem test_witness_RegulationStartsAndStops_fromSafe :
    (safeIn .ownerLoss .ready).admits rq .modifying inReady ∧ (safeIn .ownerLoss .ready).activeBank.valid = true ∧
    (safeIn .ownerLoss .ready).safe.substitute.loaded = true ∧ (safeIn .ownerLoss .ready).regulator.state = .safe ∧
    (safeIn .ownerLoss .ready).regulator.safeCause = some .ownerLoss := by decide
theorem test_start_leaves_an_owner_loss_safe :
    let t := after (.start rq) (safeIn .ownerLoss .ready)
    t.regulator.state = .follow ∧ t.regulator.safeCause = none ∧ t.pins.safeOut = false ∧ t.notices.held = 1 := by decide

theorem test_witness_ReadsAnswerAndChangeNothing_views :
    (∃ a, Axis.ofNum (0#8).toNat = some a) ∧ 3 < (4#8).toNat ∧ 1 < (2#8 : Byte).toNat ∧ 119 < (120#8).toNat ∧ 2 < (3#8).toNat ∧
    (base.map.bank .a).cell (119#8).toNat = none ∧ (255#8 : Byte) = 255#8 ∧ 4 < (5#8).toNat ∧ (254#8 : Byte) ≠ 255#8 ∧
    cellA.trim = none ∧ 4 < (5#8).toNat ∧ guarded.guards.stack[0]? = some 11 ∧ (0 : Fin 12) ∉ guarded.guards.stack ∧
    11 < (12#8).toNat ∧ 42 < (43#8).toNat := by
  refine ⟨⟨_, rfl⟩, by decide, by decide, by decide, by decide, by decide +kernel, rfl, by decide, by decide, rfl,
    by decide, by decide, by decide, by decide, by decide⟩

/-! ### Examinations that are put off, and the clauses added with them -/

/-- FEED_SURGE, a LEVEL guard, acts on an active condition; the `order` field puts the next examination off. -/
def surging : State :=
  let s := withGuard 1 (fun g => { g with state := .acting, condition := true, armed := false }) (ready.withOrder [1])
  s.withGuards { s.guards with stack := [1] }

/-- FEED_SURGE is released by name, and its examination put off. -/
def putOff : State := after (.guardRelease rq 1#8) surging

/-- R165, third row: a release taken first leaves the guard PENDING, and its condition going inactive makes it IDLE. -/
theorem test_release_before_the_condition_falls :
    (putOff.guards.guard 1).state = .pending ∧ putOff.guards.stack = [] ∧ putOff.mgmt.waiting.length = 1 ∧
    ((setCondition 1 false putOff).guards.guard 1).state = .idle ∧
    (setCondition 1 false putOff).settled := by decide
/-- R165, fifth row: a guard raised before GUARD MASK masks it does not act. -/
theorem test_raise_before_the_mask :
    let t := after (.guardMask rq 2#16) (setCondition 1 true (ready.withOrder [1]))
    (t.guards.guard 1).state = .pending ∧ t.guards.stack = [] ∧ t.settled := by decide
/-- Taken at once, the released guard acts again (R162); put off, it does so in the next step of an empty queue. -/
theorem test_release_at_once :
    (after (.guardRelease rq 1#8) (surging.withOrder [])).guards.stack = [1] ∧
    (∃ t, step putOff = .next t ∧ t.guards.stack = [1] ∧ t.settled) := ⟨by decide, _, rfl, by decide⟩
/-- A handover makes the examination first, so that the reply goes out after it (R163). -/
theorem test_reply_after_the_examination :
    let t := after (.replyHandover .m) putOff
    t.guards.stack = [1] ∧ t.mgmt.waiting = [] ∧ (t.port .m).hasReply = true := by decide

/-- A request finds the release before it carried out whole, its examination made (R163, R181). -/
theorem test_release_is_whole_before_the_next_request :
    (after (.guardPeek rq 0#8 0#8) putOff).guards.stack = [1] ∧ (after (.guardMask rq 2#16) putOff).guards.stack = [1] ∧
    after (.guardMask rq 2#16) putOff = after (.guardMask rq 2#16) (settleGuards putOff) := by decide +kernel
/-- GUARD RAISE is carried out whole (R166, R181); a raise that is no request's waits for no request but GUARD MASK. -/
theorem test_raises_and_requests :
    (after (.guardRaise rq) (ready.withOrder [1])).guards.stack = [11] ∧
    (after (.guardPeek rq 0#8 0#8) (setCondition 1 true (ready.withOrder [1]))).guards.stack = [1] := by decide

theorem test_witness_RequestsAreTurnedAwayInOrder_whole :
    putOff.works ∧ putOff.guards.examineDue = .released ∧ (setCondition 1 true (ready.withOrder [1])).works ∧
    (setCondition 1 true (ready.withOrder [1])).guards.examineDue = .raised ∧
    (Instr.guardPeek rq 0#8 0#8).request = some (rq, 29) ∧ (Instr.guardPeek rq 0#8 0#8).wellFormed = true := by decide
theorem test_witness_TheArbiterTakesRequestsTimersAndLines_mask :
    let s := setCondition 1 true (ready.withOrder [1])
    s.free ∧ s.mgmt.owner = some rq.station ∧ s.guards.examineDue ≠ .released ∧ (2#16).toNat < 4096 := by decide

theorem test_witness_AnEmptyQueueTakesUpWhatIsDue_examination :
    putOff.pending = [] ∧ putOff.works ∧ putOff.keep = none ∧ ¬ putOff.settled := by decide

theorem test_witness_TheMostUrgentGuardActs_putOff :
    let s := removeGuard 1 0 surging
    ((s.guards.guard 1).state = .pending ∧ (s.guards.guard 1).config.masked = false ∧
      (s.guards.guard 1).config.priority < s.guards.floor ∧ s.guards.stack = [] ∧ s.settled ∧
      s.order.headD 0 % 2 ≠ 0 ∧ (s.withOrder []).order.headD 0 % 2 = 0) ∧
    (∀ m : Fin 12, m ≠ 1 → (s.guards.guard m).state ≠ .pending) := by decide

theorem test_witness_RequestsReadBackAsSpelled_short :
    50 ≤ (50#8).toNat ∧ 50 ≤ (255#8).toNat ∧ ([0#8, 1#8] : List Byte).length < 14 ∧ 1 ≤ (49#8).toNat ∧ (49#8).toNat ≤ 49 ∧
    (([4#8] : List Byte).getD 0 0#8).toNat = 4 ∧ (([0#8, 9#8] : List Byte).getD 1 0#8).toNat = 9 := by decide
/-- Too short, unknown, and long enough by the Axis or Count alone (R181 test 2). -/
theorem test_request_lengths :
    decodeRequest rq 2#8 [0#8, 1#8] = .unknownRequest rq 2#8 [0#8, 1#8] ∧
    decodeRequest rq 0#8 [] = .unknownRequest rq 0#8 [] ∧
    decodeRequest rq 5#8 [4#8] = .axisWrite rq 4#8 0#16 0#8 [] ∧
    decodeRequest rq 9#8 [0#8, 9#8] = .planWrite rq 0#8 9#8 [] := by decide

theorem test_witness_ASampleIsTracked_handed :
    let s := heard .pitch .search base
    s.matchSample sample.source ((1#8 : Byte).setWidth 2) = some 0 ∧ (s.channel 0).rt.lock ≠ .lost ∧
      (s.channel 0).defn.role = .pitch := by decide +kernel
theorem test_sample_reaches_classifier_and_arbiter :
    let t := takeSample sample (heard .pitch .search base)
    (t.classifier.axes.get .slope).value = some 12#16 ∧ t.guards.kept.pitch = some 12#16 := by decide

/-- A channel of a role holds a usable value and has missed one sample. -/
def missing (role : Role) : State :=
  updRuntime 0 (fun r => { r with lastValue := some 12#16 }) (at' 30#32 (heard role .oneMissed (takeAxisValue .slope 12#16 base)))

theorem test_witness_AMissedSampleIsTracked_usable :
    (missing .pitch).works ∧ (missing .pitch).channelDue 0 = true ∧ ((missing .pitch).channel 0).rt.lock = .oneMissed ∧
      ((missing .pitch).channel 0).defn.enabled = true ∧ ((missing .pitch).channel 0).rt.lastValue ≠ none := by decide
theorem test_lost_freezes_the_axis :
    let t := after (.channelWindowExpiry 0) (missing .pitch)
    (t.classifier.axes.get .slope).frozen = true ∧ t.guards.kept.pitch = none ∧ t.notices.held = 1 := by decide

/-- DRUM is in FAULT with a goal of the regulator. -/
def failed : State := withRecord .drum (fun r => { r with
  state := .fault, cause := .refused, resendUsed := true, goal := some ⟨1050#16, .regulator⟩ }) ready

theorem test_witness_ChannelRequestsTakeEffect_fault :
    failed.admits rq .modifying anyState ∧ (failed.record .drum).state = .fault ∧
      (failed.record .drum).goal = some ⟨1050#16, .regulator⟩ := by decide
theorem test_error_reset_gives_the_goal_again :
    let r := (after (.errorReset rq) failed).record .drum
    r.state = .issued ∧ r.cause = .none ∧ r.resendUsed = false ∧ r.goal = some ⟨1050#16, .regulator⟩ := by decide

theorem test_witness_DriveAnswersMoveTheExchange_unmatched :
    4 < (5#8).toNat ∧ (toOwn 22#8 .accept [0#8]).payload = [0#8] ∧ (0#8).toNat = Setting.drum.num ∧
      moving.driveStation .drum ≠ some (toOwn 22#8 .accept [0#8]).source ∧
      (toOwn 21#8 .report [5#8, 0#8, 0#8, 0#8]).payload = [5#8, 0#8, 0#8, 0#8] := by decide +kernel
theorem test_unmatched_drive_frames :
    (takeDriveFrame (toOwn 22#8 .accept [0#8]) issued).moves.unmatched = 1#16 ∧
    (takeDriveFrame (toOwn 21#8 .report [5#8, 0#8, 0#8, 0#8]) issued).moves.unmatched = 1#16 := by decide

theorem test_witness_HoldsAreSetAndReleased_kept :
    let s := withRecord .drum (fun r => { r with manual := true, deferred := some 1000#16 }) (cycling .hold 3000)
    s.admits rq .modifying inReadyOrRegulating ∧ (1#8).getLsbD 0 = true ∧ Setting.drum.isThresh = true ∧
      (s.record .drum).deferred = some 1000#16 ∧ s.goalKept .drum = true := by decide

theorem test_witness_ATrialIsKeptOrReverted_revert :
    (trialState.regulator.trial.isSome = true ∧ trialState.regulator.baseline.isSome = true ∧
      trialState.cellInUse = some cellA) ∧
    ((withRecord .fan (fun r => { r with manual := true }) trialState).record .fan).settled = true := by decide

theorem test_witness_TheFirstModifyingRequestClaims_carried :
    (Instr.paramWrite rq 42#8 31#16).request = some (rq, 35) ∧ base.works ∧ base.settled ∧ base.mgmt.owner = none ∧
      base.mgmt.partState = .awaitParam ∧ base.mgmt.busy = false := by decide
theorem test_first_request_claims_and_is_carried_out :
    let t := after (.paramWrite rq 42#8 30#16) base
    t.mgmt.owner = some 2#8 ∧ t.mgmt.pendingParams.item 42 = 30 := by decide

/-- The 63 bytes of a picture in MEASURE, by the table of R198. -/
theorem test_picture_bytes :
    (cycling .measure 800).nextPicture.bytes.take 17 =
      [1#8, 0#8, 0#8, 0#8, 0#8, 0#8, 4#8, 3#8, 2#8, 1#8, 2#8, 2#8, 2#8, 15#8, 0#8, 0#8, 0#8] := by decide

end Sys2Proof.Tests
end

section
/-! PROOF. Frames on the line: the check of R4 fed bit by bit, the bytes of a frame (R3), and the receive
checks of R7 as one equivalence. -/

namespace Sys2Proof.Machine

/-! ### The check, bit by bit -/

/-- One shift of the register with a word folded in: the word's highest bit is fed as a bit, the rest waits. -/
theorem crcShift_xor (reg x : Word16) :
    crcShift (reg ^^^ x) = crcBit reg (x.getLsbD 15) ^^^ (x <<< 1) := by
  simp only [crcShift, crcBit, BitVec.getLsbD_xor, BitVec.shiftLeft_xor_distrib]
  split
  · ac_rfl
  · rfl

/-- A byte fed into the register is its bits fed, most significant first (R4). -/
theorem crcByte_eq_foldl_crcBit (reg : Word16) (b : Byte) : crcByte reg b = (bitsOf b).foldl crcBit reg := by
  have shifted_out : b.setWidth 16 <<< 8 <<< 8 = 0#16 := by
    rw [← BitVec.shiftLeft_add]
    exact BitVec.shiftLeft_eq_zero (Nat.le_refl 16)
  simp only [crcByte, crcShift_xor, ← BitVec.shiftLeft_add, Nat.reduceAdd] at shifted_out ⊢
  simp [shifted_out, bitsOf]

/-- The Check the part computes is the bit-serial one (R4). -/
theorem crc16_eq_serialCheck (bytes : List Byte) : crc16 bytes = serialCheck bytes := by
  unfold crc16 serialCheck
  generalize 0xFFFF#16 = reg
  induction bytes generalizing reg with
  | nil => rfl
  | cons b bs ih => simp [ih, crcByte_eq_foldl_crcBit]

/-! ### The envelope -/

/-- A kind code fits the upper four bits of byte 2 (R3, R5). -/
theorem FrameKind.code_bounds (k : FrameKind) : 1 ≤ k.code ∧ k.code ≤ 10 := by cases k <;> decide

/-- A code names the kind that has it, and no other (R5). -/
theorem FrameKind.ofCode_eq_some {n : Nat} {k : FrameKind} : FrameKind.ofCode n = some k ↔ n = k.code := by
  constructor
  · intro h
    unfold FrameKind.ofCode at h
    split at h <;> cases h <;> rfl
  · rintro rfl
    cases k <;> rfl

/-- Byte 2 of a frame: the kind above the tag (R3). -/
theorem byteOf_kindTag {code : Nat} (hcode : code < 16) (tag : Tag) :
    byteOf (code * 16 + tag.toNat) = BitVec.ofNat 4 code ++ tag := by
  apply BitVec.eq_of_toNat_eq
  rw [BitVec.toNat_append, ← Nat.shiftLeft_add_eq_or_of_lt tag.isLt, Nat.shiftLeft_eq]
  simp only [byteOf, BitVec.toNat_ofNat, Nat.mod_eq_of_lt hcode]
  omega

/-- Byte 2 taken apart: its kind code and its tag make it up again (R3). -/
theorem kindTag_split (b : Byte) : BitVec.ofNat 4 (b.toNat / 16) ++ b.setWidth 4 = b := by
  rw [← byteOf_kindTag (by omega)]
  apply BitVec.eq_of_toNat_eq
  simp only [byteOf, BitVec.toNat_ofNat, BitVec.toNat_setWidth]
  omega

/-- A word sent high byte first is read back from its two bytes (R3, R4). -/
theorem extract_word16 (lo hi : Byte) :
    (word16 lo hi).extractLsb' 8 8 = hi ∧ (word16 lo hi).extractLsb' 0 8 = lo := by
  constructor
  · exact BitVec.extractLsb'_append_eq_left
  · exact BitVec.extractLsb'_append_eq_right

/-- The two bytes of a word, high byte first, make it up again (R4). -/
theorem word16_extract (w : Word16) : word16 (w.extractLsb' 0 8) (w.extractLsb' 8 8) = w := by
  rw [word16, BitVec.extractLsb'_append_extractLsb'_eq_extractLsb' (by rfl)]
  exact BitVec.extractLsb'_eq_self

/-- The tag is read back from byte 2 of a frame (R3). -/
theorem byteOf_kindTag_tag {code : Nat} (tag : Tag) : (byteOf (code * 16 + tag.toNat)).setWidth 4 = tag := by
  apply BitVec.eq_of_toNat_eq
  have := tag.isLt
  simp only [byteOf, BitVec.toNat_ofNat, BitVec.toNat_setWidth]
  omega

/-- The kind code is read back from byte 2 of a frame (R3). -/
theorem byteOf_kindTag_code (kind : FrameKind) (tag : Tag) :
    (byteOf (kind.code * 16 + tag.toNat)).toNat / 16 = kind.code := by
  have hcode := kind.code_bounds
  have htag := tag.isLt
  simp only [byteOf, BitVec.toNat_ofNat]
  omega

/-- The bytes the Check covers, with byte 2 in its two parts (R3). -/
theorem Frame.checkedBytes_eq (f : Frame) :
    f.checkedBytes =
      [f.dest, f.source, BitVec.ofNat 4 f.kind.code ++ f.tag, BitVec.ofNat 8 f.payload.length] ++ f.payload := by
  have hk : f.kind.code < 16 := Nat.lt_of_le_of_lt f.kind.code_bounds.2 (by decide)
  rw [Frame.checkedBytes, byteOf_kindTag hk, byteOf]

@[simp] theorem Frame.length_checkedBytes (f : Frame) : f.checkedBytes.length = 4 + f.payload.length := by
  simp only [Frame.checkedBytes, List.length_append, List.length_cons, List.length_nil]

/-- A frame occupies 6 + Length bytes (R3). -/
theorem Frame.length_bytes (f : Frame) : f.bytes.length = 6 + f.payload.length := by
  simp only [Frame.bytes, List.length_append, Frame.length_checkedBytes, List.length_cons, List.length_nil]
  omega

/-- The bytes before the Check are those it covers (R3, R4). -/
theorem Frame.take_bytes (f : Frame) : f.bytes.take (4 + f.payload.length) = f.checkedBytes := by
  rw [Frame.bytes, List.take_left' f.length_checkedBytes]

/-- A frame whose Check is the one computed over its bytes carries the bit-serial Check of them (R4). -/
theorem Frame.check_eq_serialCheck {f : Frame} (h : f.check = crc16 f.checkedBytes) :
    f.check = serialCheck (f.bytes.take (4 + f.payload.length)) := by
  rw [f.take_bytes, h, crc16_eq_serialCheck]

/-! ### The receive checks -/

/-- The tests of R7 a frame has passed once it is taken as good: those on its numbers, its kind and its Check. -/
structure Frame.Good (f : Frame) : Prop where
  payload : f.payload.length ≤ 24
  check : f.check = crc16 f.checkedBytes
  dest : f.dest.toNat < 64
  source : f.source.toNat ≤ 62
  kind : f.kind.lengthOk f.payload.length = true

/-- The Length byte of a good frame holds its length (R3). -/
theorem Frame.Good.length_byte {f : Frame} (h : f.Good) : (byteOf f.payload.length).toNat = f.payload.length := by
  have := h.payload
  simp only [byteOf, BitVec.toNat_ofNat]
  omega

/-- Bytes whose last two are taken off and put back. -/
theorem take_append_last_two {n : Nat} {rest : List Byte} (h : rest.length = n + 2) :
    rest.take n ++ [rest.getD n 0#8, rest.getD (n + 1) 0#8] = rest := by
  apply List.ext_getElem
  · simp [h]
  · intro i _ _
    grind

/-- The frame the receive checks read out of an envelope (R3). -/
def Frame.ofEnvelope (kind : FrameKind) (dest source kindTag length : Byte) (rest : List Byte) : Frame :=
  ⟨dest, source, kind, kindTag.setWidth 4, rest.take length.toNat,
    word16 (rest.getD (length.toNat + 1) 0#8) (rest.getD length.toNat 0#8)⟩

/-- The frame read out of an envelope has the bytes of the envelope up to its Check (R3). -/
theorem Frame.checkedBytes_ofEnvelope {kind : FrameKind} {dest source kindTag length : Byte} {rest : List Byte}
    (hkind : kindTag.toNat / 16 = kind.code) (hrest : rest.length = length.toNat + 2) :
    (Frame.ofEnvelope kind dest source kindTag length rest).checkedBytes =
      [dest, source, kindTag, length] ++ rest.take length.toNat := by
  have hpayload : (rest.take length.toNat).length = length.toNat := by simp [hrest]
  rw [Frame.checkedBytes_eq]
  simp only [Frame.ofEnvelope, hpayload, ← hkind, kindTag_split, BitVec.ofNat_toNat, BitVec.setWidth_eq]

/-- The frame read out of an envelope has the bytes of the envelope (R3). -/
theorem Frame.bytes_ofEnvelope {kind : FrameKind} {dest source kindTag length : Byte} {rest : List Byte}
    (hkind : kindTag.toNat / 16 = kind.code) (hrest : rest.length = length.toNat + 2) :
    (Frame.ofEnvelope kind dest source kindTag length rest).bytes = dest :: source :: kindTag :: length :: rest := by
  rw [Frame.bytes, Frame.checkedBytes_ofEnvelope hkind hrest, List.append_assoc]
  simp only [Frame.ofEnvelope, extract_word16, take_append_last_two hrest, List.cons_append, List.nil_append]

/-- With a Length that is the one of the bytes and a kind code of R5, the frame read is taken exactly when it is good. -/
theorem receiveEnvelope_of_kind {kind : FrameKind} {dest source kindTag length : Byte} {rest : List Byte}
    (hkind : kindTag.toNat / 16 = kind.code) (hrest : rest.length = length.toNat + 2) (f : Frame) :
    receiveEnvelope dest source kindTag length rest = some f ↔
      f.Good ∧ f = Frame.ofEnvelope kind dest source kindTag length rest := by
  have hpayload : (rest.take length.toNat).length = length.toNat := by simp [hrest]
  have hcovered := Frame.checkedBytes_ofEnvelope (dest := dest) (source := source) hkind hrest
  rw [← FrameKind.ofCode_eq_some] at hkind
  constructor
  · intro h
    simp only [receiveEnvelope, hkind, Option.ite_none_left_eq_some, Option.ite_none_right_eq_some] at h
    obtain ⟨hlength, hcheck, hdest, hsource, hkindOk, hf⟩ := h
    cases hf
    exact ⟨{
      payload := Nat.le_trans (Nat.le_of_eq hpayload) (Nat.not_lt.mp (not_or.mp hlength).2)
      check := ((congrArg crc16 hcovered).trans (Decidable.not_not.mp hcheck)).symm
      dest := Nat.not_le.mp hdest
      source := Nat.not_lt.mp hsource
      kind := hpayload.symm ▸ hkindOk }, rfl⟩
  · rintro ⟨⟨hmax, hcheck, hdest, hsource, hkindOk⟩, rfl⟩
    rw [hcovered] at hcheck
    simp only [Frame.ofEnvelope, hpayload] at hmax hcheck hdest hsource hkindOk
    simp only [receiveEnvelope, hkind, ← hcheck, hrest, hkindOk, Nat.not_lt.mpr hmax, Nat.not_le.mpr hdest,
      Nat.not_lt.mpr hsource, ne_eq, not_true_eq_false, or_self, if_true, if_false, Frame.ofEnvelope]

/-- The envelope checks take the frame they read, when it is good and its Length is that of the bytes (R7). -/
theorem receiveEnvelope_eq_some {dest source kindTag length : Byte} {rest : List Byte} {f : Frame} :
    receiveEnvelope dest source kindTag length rest = some f ↔
      f.Good ∧ dest :: source :: kindTag :: length :: rest = f.bytes := by
  constructor
  · intro h
    have hrest : rest.length = length.toNat + 2 := by
      refine Decidable.byContradiction fun hne => ?_
      rw [receiveEnvelope, if_pos (.inl hne)] at h
      cases h
    rcases hkind : FrameKind.ofCode (kindTag.toNat / 16) with _ | kind
    · simp [receiveEnvelope, hkind] at h
    · rw [FrameKind.ofCode_eq_some] at hkind
      obtain ⟨hgood, rfl⟩ := (receiveEnvelope_of_kind hkind hrest f).mp h
      exact ⟨hgood, (Frame.bytes_ofEnvelope hkind hrest).symm⟩
  · rintro ⟨hgood, hbytes⟩
    have hlength := hgood.length_byte
    simp only [Frame.bytes, Frame.checkedBytes, List.cons_append, List.nil_append, List.cons.injEq] at hbytes
    obtain ⟨rfl, rfl, rfl, rfl, rfl⟩ := hbytes
    refine (receiveEnvelope_of_kind (byteOf_kindTag_code f.kind f.tag) (by simp [hlength]) f).mpr ⟨hgood, ?_⟩
    simp [Frame.ofEnvelope, hlength, byteOf_kindTag_tag, word16_extract]

/-- R7 in one sentence: the bytes taken as a good frame are the bytes of a good frame, ended without a framing error. -/
theorem receiveChecks_eq_some {bytes : List Byte} {err : Bool} {f : Frame} :
    receiveChecks bytes err = some f ↔ err = false ∧ f.Good ∧ bytes = f.bytes := by
  constructor
  · intro h
    unfold receiveChecks at h
    split at h
    · cases h
    · rename_i hpre
      split at h
      · exact ⟨by simpa using (not_or.mp hpre).1, receiveEnvelope_eq_some.mp h⟩
      · cases h
  · rintro ⟨rfl, hgood, rfl⟩
    have hmin : ¬ (false = true ∨ f.bytes.length < 6) := by simp [Frame.length_bytes]
    exact (if_neg hmin).trans (receiveEnvelope_eq_some.mpr ⟨hgood, rfl⟩)

/-- A frame's bytes but the last two are those its Check covers (R3). -/
theorem Frame.dropLastTwo_bytes (f : Frame) : f.bytes.take (f.bytes.length - 2) = f.checkedBytes := by
  rw [← f.take_bytes, f.length_bytes, show 6 + f.payload.length - 2 = 4 + f.payload.length by omega]

/-- A frame's last two bytes are its Check, high byte first (R3, R4). -/
theorem Frame.lastTwo_bytes (f : Frame) :
    word16 (f.bytes.getD (f.bytes.length - 1) 0#8) (f.bytes.getD (f.bytes.length - 2) 0#8) = f.check := by
  have hlow : f.bytes.length - 1 = f.checkedBytes.length + 1 := by rw [f.length_bytes, f.length_checkedBytes]; omega
  have hhigh : f.bytes.length - 2 = f.checkedBytes.length := by rw [f.length_bytes, f.length_checkedBytes]; omega
  rw [hlow, hhigh]
  simp [Frame.bytes, word16_extract]

/-- The seven checks of R7, as a receiver makes them on the bytes of an ended frame. -/
theorem receiveChecks_isSome (bytes : List Byte) (err : Bool) :
    (receiveChecks bytes err).isSome ↔
      err = false ∧ 6 ≤ bytes.length ∧
      bytes.length = 6 + (bytes.getD 3 0#8).toNat ∧ (bytes.getD 3 0#8).toNat ≤ 24 ∧
      serialCheck (bytes.take (bytes.length - 2)) =
        word16 (bytes.getD (bytes.length - 1) 0#8) (bytes.getD (bytes.length - 2) 0#8) ∧
      (bytes.getD 0 0#8).toNat < 64 ∧ (bytes.getD 1 0#8).toNat ≤ 62 ∧
      ∃ kind, FrameKind.ofCode ((bytes.getD 2 0#8).toNat / 16) = some kind ∧
        kind.lengthOk (bytes.getD 3 0#8).toNat = true := by
  simp only [Option.isSome_iff_exists, receiveChecks_eq_some, ← crc16_eq_serialCheck, FrameKind.ofCode_eq_some]
  constructor
  · rintro ⟨f, herr, hgood, rfl⟩
    have hlength : (f.bytes.getD 3 0#8).toNat = f.payload.length := hgood.length_byte
    rw [hlength, f.dropLastTwo_bytes, f.lastTwo_bytes]
    exact ⟨herr, by rw [f.length_bytes]; omega, f.length_bytes, hgood.payload, hgood.check.symm, hgood.dest, hgood.source,
      f.kind, byteOf_kindTag_code f.kind f.tag, hgood.kind⟩
  · rintro ⟨herr, hmin, htotal, hmax, hcheck, hdest, hsource, kind, hkind, hkindOk⟩
    match bytes with
    | dest :: source :: kindTag :: length :: rest =>
      simp only [List.getD_cons_zero, List.getD_cons_succ, List.length_cons] at htotal hmax hdest hsource hkind hkindOk
      have hrest : rest.length = length.toNat + 2 := by omega
      have hpayload : (rest.take length.toNat).length = length.toNat := by simp [hrest]
      have hbytes := Frame.bytes_ofEnvelope (dest := dest) (source := source) hkind hrest
      rw [← hbytes, Frame.dropLastTwo_bytes, Frame.lastTwo_bytes] at hcheck
      exact ⟨_, herr, ⟨Nat.le_trans (Nat.le_of_eq hpayload) hmax, hcheck.symm, hdest, hsource, hpayload.symm ▸ hkindOk⟩, hbytes.symm⟩

/-! ### The statement of the envelope -/

/-- A frame the part makes carries the Check computed over its bytes (R4). -/
theorem Frame.check_make (dest source : Byte) (kind : FrameKind) (tag : Tag) (payload : List Byte) :
    (Frame.make dest source kind tag payload).check =
      crc16 (Frame.make dest source kind tag payload).checkedBytes := rfl

/-- The bytes of a frame, field by field (R3). -/
theorem Frame.bytes_eq (f : Frame) :
    f.bytes = [f.dest, f.source, BitVec.ofNat 4 f.kind.code ++ f.tag, BitVec.ofNat 8 f.payload.length] ++ f.payload ++
      [f.check.extractLsb' 8 8, f.check.extractLsb' 0 8] := by
  rw [Frame.bytes, f.checkedBytes_eq]

/-- Settles O15: a frame made carries its Check, and a frame taken is a good one with the bytes received. -/
theorem framesHaveTheEnvelope : Obligations.FramesHaveTheEnvelope := by
  refine ⟨fun dest source kind tag payload => ?_, fun bytes err f hf => ?_⟩
  · exact ⟨Frame.bytes_eq _, Frame.length_bytes _, Frame.check_eq_serialCheck (Frame.check_make ..)⟩
  · obtain ⟨-, hgood, rfl⟩ := receiveChecks_eq_some.mp hf
    exact ⟨f.bytes_eq, f.length_bytes, hgood.payload, Nat.le_of_lt_succ hgood.dest, hgood.source,
      f.kind.code_bounds.1, f.kind.code_bounds.2, Frame.check_eq_serialCheck hgood.check⟩

end Sys2Proof.Machine
end

section
/-! PROOF. What a good frame leads to leaves the receive counters of both ports: one lemma for each shared
operation that may touch the link, and R7 for the end of a frame. -/

namespace Sys2Proof.Machine

variable {s : State} {q : Port}

/-- The receive counters of a port: good frames and check errors (R7, R23). -/
def Link.receipts (l : Link) (q : Port) : Word16 × Word16 := ((l.ports.get q).good, (l.ports.get q).checkErrors)

/-! ### Ports and queues -/

/-- What is read at a port after one port is replaced. -/
theorem PerPort.get_set {α : Type} (x : PerPort α) (p r : Port) (a : α) :
    (x.set p a).get r = if r = p then a else x.get r := by
  cases p <;> cases r <;> rfl

/-- A change of a port that leaves its receive counters leaves those of the link. -/
theorem receipts_updPort {f : PortState → PortState}
    (hf : ∀ x, (f x).good = x.good ∧ (f x).checkErrors = x.checkErrors) (p : Port) (s : State) : (updPort p f s).link.receipts q = s.link.receipts q := by
  simp only [updPort, Link.receipts, State.withLink_link, PerPort.get_set]
  split
  · rename_i h
    rw [h, (hf _).1, (hf _).2]
  · rfl

/-- A part frame that joins a queue counts nothing (R15, R18). -/
theorem PortState.joinPart_counters (x : PortState) (f : Frame) :
    (x.joinPart f).good = x.good ∧ (x.joinPart f).checkErrors = x.checkErrors := by
  unfold PortState.joinPart
  repeat' split
  all_goals exact ⟨rfl, rfl⟩

/-- A frame to be forwarded counts as a forward drop or not at all (R17). -/
theorem PortState.joinForward_counters (x : PortState) (f : Frame) :
    (x.joinForward f).good = x.good ∧ (x.joinForward f).checkErrors = x.checkErrors := by
  unfold PortState.joinForward
  split <;> exact ⟨rfl, rfl⟩

@[simp] theorem receipts_queuePart (f : Frame) : (queuePart f s).link.receipts q = s.link.receipts q :=
  receipts_updPort (fun x => x.joinPart_counters f) _ s

@[simp] theorem receipts_forwardFrame (p : Port) (f : Frame) :
    (forwardFrame p f s).link.receipts q = s.link.receipts q :=
  receipts_updPort (fun x => x.joinForward_counters f) _ s

@[simp] theorem receipts_countFiltered (p : Port) :
    (updPort p PortState.countFiltered s).link.receipts q = s.link.receipts q :=
  receipts_updPort (f := PortState.countFiltered) (fun _ => ⟨rfl, rfl⟩) p s

@[simp] theorem receipts_learnSide (source : Byte) (p : Port) :
    (learnSide source p s).link.receipts q = s.link.receipts q := rfl

/-! ### Handings -/

/-- Every handing of every chain leaves the receive counters of a port. -/
abbrev KeepReceipts (q : Port) (chains : List (List Handing)) : Prop :=
  ∀ c ∈ chains, ∀ g ∈ c, ∀ u : State, (g u).link.receipts q = u.link.receipts q

/-- What each handing leaves of the receive counters, an interleaving of them leaves. -/
@[simp] theorem receipts_interleave {chains : List (List Handing)}
    (keep : ∀ c ∈ chains, ∀ g ∈ c, ∀ u : State, (g u).link.receipts q = u.link.receipts q) :
    (interleave chains s).link.receipts q = s.link.receipts q :=
  interleave_keeps (fun u => u.link.receipts q = s.link.receipts q) chains s (fun _ => rfl)
    (fun c hc g hg u hu => (keep c hc g hg u).trans hu)

/-- What each operation of a fold leaves of the receive counters, the fold leaves. -/
@[simp] theorem receipts_foldl {α : Type} {f : State → α → State} (l : List α)
    (keep : ∀ a u, (f u a).link.receipts q = u.link.receipts q) :
    (l.foldl f s).link.receipts q = s.link.receipts q := by
  induction l generalizing s with
  | nil => rfl
  | cons a as ih => exact ih.trans (keep a s)

/-! ### Notices and goals -/

@[simp] theorem judgeAttn_link : (judgeAttn s).link = s.link := rfl
@[simp] theorem publish_link : (publish s).link = s.link := rfl
@[simp] theorem setRecord_link (st : Setting) (r : MoveRecord) : (setRecord st r s).link = s.link := rfl
@[simp] theorem storeGoal_link (st : Setting) (g : Goal) : (storeGoal st g s).link = s.link := rfl

@[simp] theorem receipts_sendAttention : (sendAttention s).link.receipts q = s.link.receipts q := by
  unfold sendAttention
  split <;> simp

@[simp] theorem receipts_raiseNotice (kind : NoticeKind) (subject : Nat) (detail : Word16) :
    (raiseNotice kind subject detail s).link.receipts q = s.link.receipts q := by
  unfold raiseNotice
  dsimp only
  split
  · split
    · simp
    · split <;> simp
  · rfl

@[simp] theorem receipts_queueSet (st : Setting) : (queueSet st s).link.receipts q = s.link.receipts q := by
  unfold queueSet
  split <;> simp

@[simp] theorem receipts_issueSet (st : Setting) : (issueSet st s).link.receipts q = s.link.receipts q := by
  unfold issueSet
  split <;> simp

@[simp] theorem receipts_giveGoal (st : Setting) (g : Goal) : (giveGoal st g s).link.receipts q = s.link.receipts q := by
  unfold giveGoal
  split
  · simp
  · split <;> simp

/-! ### The regulator -/

@[simp] theorem abandonCycle_link : (abandonCycle s).link = s.link := rfl
@[simp] theorem driveSafeOut_link (active : Bool) : (driveSafeOut active s).link = s.link := rfl
@[simp] theorem enterSettle_link : (enterSettle s).link = s.link := rfl
@[simp] theorem enterTrialSettle_link : (enterTrialSettle s).link = s.link := rfl
@[simp] theorem enterHold_link : (enterHold s).link = s.link := rfl
@[simp] theorem enterPaused_link : (enterPaused s).link = s.link := rfl

@[simp] theorem receipts_giveTarget (st : Setting) (v : Word16) :
    (giveTarget st v s).link.receipts q = s.link.receipts q := by
  simp [giveTarget]

@[simp] theorem receipts_giveTargets : (giveTargets s).link.receipts q = s.link.receipts q := by
  unfold giveTargets
  split <;> simp

@[simp] theorem receipts_enterFollow (keepEpisode : Bool) :
    (enterFollow keepEpisode s).link.receipts q = s.link.receipts q := by
  unfold enterFollow
  dsimp only
  split <;> simp

@[simp] theorem receipts_releaseConcave : (releaseConcave s).link.receipts q = s.link.receipts q := by
  simp [releaseConcave]

@[simp] theorem receipts_enterPausedOpen : (enterPausedOpen s).link.receipts q = s.link.receipts q := by
  simp [enterPausedOpen]

@[simp] theorem receipts_giveSubstitute (st : Setting) : (giveSubstitute st s).link.receipts q = s.link.receipts q := by
  unfold giveSubstitute
  split <;> simp

@[simp] theorem receipts_giveSubstitutes : (giveSubstitutes s).link.receipts q = s.link.receipts q := by
  simp [giveSubstitutes]

@[simp] theorem receipts_raiseSafeEntered (cause : SafeCause) :
    (raiseSafeEntered cause s).link.receipts q = s.link.receipts q := by
  simp [raiseSafeEntered]

@[simp] theorem receipts_enterSafe (cause : SafeCause) : (enterSafe cause s).link.receipts q = s.link.receipts q := by
  simp [enterSafe]

@[simp] theorem receipts_leaveSafe (next : RegState) : (leaveSafe next s).link.receipts q = s.link.receipts q := by
  unfold leaveSafe
  split <;> simp

@[simp] theorem receipts_startTrial (k : Nat) (p : PlanStep) : (startTrial k p s).link.receipts q = s.link.receipts q := by
  unfold startTrial
  dsimp only
  split <;> simp

@[simp] theorem receipts_planExhausted : (planExhausted s).link.receipts q = s.link.receipts q := by
  simp [planExhausted]

@[simp] theorem receipts_tryNextStep : (tryNextStep s).link.receipts q = s.link.receipts q := by
  unfold tryNextStep
  split
  · simp
  · split <;> simp

@[simp] theorem receipts_tryOrHold : (tryOrHold s).link.receipts q = s.link.receipts q := by
  unfold tryOrHold
  split <;> simp

@[simp] theorem receipts_takeSettled (st : Setting) : (takeSettled st s).link.receipts q = s.link.receipts q := by
  unfold takeSettled revertSettled
  split
  case h_4 => rfl
  all_goals split <;> simp

@[simp] theorem receipts_takeExclusion (st : Setting) : (takeExclusion st s).link.receipts q = s.link.receipts q := by
  unfold takeExclusion
  split
  · rfl
  · split <;> simp

@[simp] theorem receipts_leaveSafeFor (a : Action) : (leaveSafeFor a s).link.receipts q = s.link.receipts q := by
  unfold leaveSafeFor
  split <;> simp

@[simp] theorem receipts_takeAction (a : Action) : (takeAction a s).link.receipts q = s.link.receipts q := by
  unfold takeAction
  split
  · split
    · rfl
    · split <;> simp
    all_goals split <;> simp
  · rfl

/-! ### The guard arbiter -/

@[simp] theorem endWait_link : (endWait s).link = s.link := rfl
@[simp] theorem updGuard_link (n : Fin 12) (f : Guard → Guard) : (updGuard n f s).link = s.link := rfl
@[simp] theorem raiseEvent_link (n : Fin 12) : (raiseEvent n s).link = s.link := rfl

@[simp] theorem setSlipTimer_link (w : Rotor) (x : Option Timer) : (setSlipTimer w x s).link = s.link := by
  cases w <;> rfl

@[simp] theorem receipts_examineGuards : (examineGuards s).link.receipts q = s.link.receipts q := by
  unfold examineGuards actGuard
  split <;> simp

@[simp] theorem receipts_judgeAction : (judgeAction s).link.receipts q = s.link.receipts q := by
  unfold judgeAction
  dsimp only
  split <;> simp

@[simp] theorem receipts_settleGuards : (settleGuards s).link.receipts q = s.link.receipts q := by
  simp [settleGuards]

@[simp] theorem receipts_settleRaised (due : ExamineDue) (n : Fin 12) :
    (settleRaised due n s).link.receipts q = s.link.receipts q := by
  unfold settleRaised
  dsimp only
  split
  · split <;> simp
  · simp

@[simp] theorem receipts_setCondition (n : Fin 12) (active : Bool) :
    (setCondition n active s).link.receipts q = s.link.receipts q := by
  unfold setCondition
  split
  · rfl
  · split <;> simp

@[simp] theorem receipts_takeEvent (n : Fin 12) : (takeEvent n s).link.receipts q = s.link.receipts q := by
  simp [takeEvent]

@[simp] theorem receipts_judgeSlip (w : Rotor) : (judgeSlip w s).link.receipts q = s.link.receipts q := by
  unfold judgeSlip
  split
  · split
    · rfl
    · split <;> simp
  · simp

@[simp] theorem receipts_judgeRole (r : Role) : (judgeRole r s).link.receipts q = s.link.receipts q := by
  unfold judgeRole
  split <;> simp

@[simp] theorem receipts_takeKept (r : Role) (v : Option Word16) : (takeKept r v s).link.receipts q = s.link.receipts q := by
  simp [takeKept]

/-! ### Drive frames -/

@[simp] theorem countStale_link (st : Setting) : (countStale st s).link = s.link := rfl
@[simp] theorem countUnmatched_link : (countUnmatched s).link = s.link := rfl

@[simp] theorem receipts_judgeDriveFault : (judgeDriveFault s).link.receipts q = s.link.receipts q := by
  unfold judgeDriveFault
  split <;> simp

/-- The handings of a settled event leave the receive counters. -/
theorem receipts_newlySettled (was : Bool) (st : Setting) : KeepReceipts q (newlySettled was st) := by
  unfold KeepReceipts newlySettled settledHandings
  split <;> simp

@[simp] theorem receipts_enterFault (st : Setting) (cause : FaultCause) :
    (enterFault st cause s).link.receipts q = s.link.receipts q := by
  unfold enterFault
  dsimp only
  split
  · rfl
  · rw [receipts_interleave (List.forall_mem_append.mpr ⟨by simp, receipts_newlySettled _ _⟩)]
    rfl

@[simp] theorem takeAccept_link (st : Setting) (tag : Tag) : (takeAccept st tag s).link = s.link := by
  unfold takeAccept
  dsimp only
  split <;> rfl

@[simp] theorem receipts_endMove (st : Setting) (limited : Bool) {extra : List (List Handing)}
    (keep : ∀ c ∈ extra, ∀ g ∈ c, ∀ u : State, (g u).link.receipts q = u.link.receipts q) :
    (endMove st limited extra s).link.receipts q = s.link.receipts q := by
  unfold endMove
  rw [receipts_interleave (List.forall_mem_append.mpr ⟨keep, ?_⟩)]
  · rfl
  · split
    · exact receipts_newlySettled _ _
    · simp

@[simp] theorem receipts_takeDone (st : Setting) (tag : Tag) (outcome : Nat) (actual : Word16) :
    (takeDone st tag outcome actual s).link.receipts q = s.link.receipts q := by
  unfold takeDone finishLeg
  dsimp only
  split
  · split
    · split <;> simp
    · simp
    · simp
  · simp

@[simp] theorem receipts_judgeManual (st : Setting) (bit : Bool) (actual : Word16) :
    (judgeManual st bit actual s).link.receipts q = s.link.receipts q := by
  unfold judgeManual
  dsimp only
  split
  · rw [receipts_interleave (List.forall_mem_append.mpr ⟨by simp, receipts_newlySettled _ _⟩)]
    rfl
  · split <;> simp
  · rfl

@[simp] theorem receipts_takeDriveFrame (f : Frame) : (takeDriveFrame f s).link.receipts q = s.link.receipts q := by
  unfold takeDriveFrame takeReport
  dsimp only
  split
  · split <;> simp
  · split
    · split <;> simp
    · simp
  · split
    · split <;> simp
    · simp
  · rfl

/-! ### Channels -/

@[simp] theorem updRuntime_link (i : Fin 24) (f : ChannelRt → ChannelRt) : (updRuntime i f s).link = s.link := rfl
@[simp] theorem takeAxisValue_link (a : Axis) (v : Word16) : (takeAxisValue a v s).link = s.link :=
  (touches_takeAxisValue (List.Subset.refl _) (.refl _ s) a v).link (by decide)

@[simp] theorem receipts_judgeLost : (judgeLost s).link.receipts q = s.link.receipts q := by
  unfold judgeLost
  split <;> simp

@[simp] theorem receipts_countArrival (i : Fin 24) : (countArrival i s).link.receipts q = s.link.receipts q := by
  unfold countArrival
  dsimp only
  split <;> simp

@[simp] theorem receipts_takeFaulted (i : Fin 24) (raw : Word16) :
    (takeFaulted i raw s).link.receipts q = s.link.receipts q := by
  unfold takeFaulted
  dsimp only
  split <;> simp

@[simp] theorem receipts_rejectValue (i : Fin 24) (scaled : Word16) :
    (rejectValue i scaled s).link.receipts q = s.link.receipts q := by
  unfold rejectValue
  dsimp only
  split <;> simp

/-- The handings of a value event leave the receive counters. -/
theorem receipts_valueHandings (r : Role) (v : Word16) : KeepReceipts q (valueHandings r v) := by
  unfold valueHandings
  refine List.forall_mem_append.mpr ⟨?_, ?_⟩
  · split <;> simp
  · split <;> simp

@[simp] theorem receipts_takeValue (i : Fin 24) (v : Word16) : (takeValue i v s).link.receipts q = s.link.receipts q := by
  unfold takeValue
  dsimp only
  split
  · rw [receipts_interleave (receipts_valueHandings _ _)]
    rfl
  · rfl

@[simp] theorem receipts_takeSample (f : Frame) : (takeSample f s).link.receipts q = s.link.receipts q := by
  unfold takeSample takeArrival
  dsimp only
  split
  · split
    · split
      · simp
      · split <;> simp
    · rfl
  · rfl

/-! ### Checking -/

@[simp] theorem receipts_askSetting (st : Setting) (asks : Nat) :
    (askSetting st asks s).link.receipts q = s.link.receipts q := by
  unfold askSetting askIdent
  split <;> simp

@[simp] theorem receipts_endChecking (next : PartState) (kind : NoticeKind) (subject detail : Nat) :
    (endChecking next kind subject detail s).link.receipts q = s.link.receipts q := by
  simp [endChecking]

@[simp] theorem receipts_passDrive (st : Setting) : (passDrive st s).link.receipts q = s.link.receipts q := by
  unfold passDrive
  split <;> simp

@[simp] theorem receipts_takeIdent (f : Frame) : (takeIdent f s).link.receipts q = s.link.receipts q := by
  unfold takeIdent failDrive
  split
  · split
    · split <;> simp
    · rfl
  · rfl

/-! ### A frame ends -/

@[simp] theorem handRequest_link (p : Port) (f : Frame) : (handRequest p f s).link = s.link :=
  (touches_handRequest (List.Subset.refl _) (.refl _ s) p f).link (by decide)

@[simp] theorem receipts_stationClash (p : Port) : (stationClash p s).link.receipts q = s.link.receipts q := by
  simp [stationClash]

@[simp] theorem receipts_consumeFrame (p : Port) (f : Frame) :
    (consumeFrame p f s).link.receipts q = s.link.receipts q := by
  unfold consumeFrame
  split <;> simp

@[simp] theorem receipts_routeBroadcast (p : Port) (f : Frame) :
    (routeBroadcast p f s).link.receipts q = s.link.receipts q := by
  unfold routeBroadcast
  split
  · split <;> simp
  · simp

@[simp] theorem receipts_routeFrame (p : Port) (f : Frame) : (routeFrame p f s).link.receipts q = s.link.receipts q := by
  unfold routeFrame routeOther
  split
  · simp
  · split
    · simp
    · split <;> simp

/-- A good frame, once counted, is handled without a further count of it or of a check error (R8 to R13). -/
@[simp] theorem receipts_takeGoodFrame (p : Port) (f : Frame) :
    (takeGoodFrame p f s).link.receipts q = s.link.receipts q := by
  unfold takeGoodFrame
  split <;> simp

/-- A frame that ends at a port whose own transmitter is not sending is put through the receive checks (R2, R7). -/
theorem exec_frameEnd (p : Port) (bytes : List Byte) (err : Bool) (hworks : s.works)
    (hidle : (s.port p).tx.isSending = false) :
    exec (.frameEnd p bytes err) s = .next (receiveFrame p bytes err s) := by
  have harm : exec (.frameEnd p bytes err) s = execFrameEnd p bytes err s := rfl
  rw [harm, execFrameEnd, live_of_works hworks, hidle]
  rfl

/-- A frame that fails a check is counted at its port, and that is all (R7). -/
theorem receiveFrame_of_none (p : Port) {bytes : List Byte} {err : Bool} (h : receiveChecks bytes err = none) :
    receiveFrame p bytes err s = s.withPort p { s.port p with checkErrors := satInc16 (s.port p).checkErrors } := by
  rw [receiveFrame, h]
  rfl

/-- A good frame is counted at its port, whatever it leads to (R7). -/
theorem receiveFrame_receipts (p : Port) {bytes : List Byte} {err : Bool} {f : Frame}
    (h : receiveChecks bytes err = some f) :
    (receiveFrame p bytes err s).link.receipts p = (satInc16 (s.port p).good, (s.port p).checkErrors) := by
  rw [receiveFrame, h]
  refine (receipts_takeGoodFrame p f).trans ?_
  simp [Link.receipts, updPort, PerPort.get_set, PortState.countGood, State.port]

/-- Settles O16: the checks are those of `receiveChecks_isSome`, and only the count of the frame itself
reaches the receive counters of its port. -/
theorem theReceiveChecksDecide : Obligations.TheReceiveChecksDecide := by
  refine ⟨receiveChecks_isSome, fun p bytes err s hworks hidle hnone => ?_, fun p bytes s f hhears => ?_⟩
  · rw [exec_frameEnd p bytes err hworks hidle, receiveFrame_of_none p hnone]
  · obtain ⟨hworks, hidle, hsome⟩ := hhears
    have hcounts := receiveFrame_receipts (s := s) p hsome
    exact ⟨_, exec_frameEnd p bytes false hworks hidle, congrArg Prod.fst hcounts, congrArg Prod.snd hcounts⟩

end Sys2Proof.Machine
end

section
/-! PROOF. The scaling of a raw sample (R27): clamping as a maximum and a minimum, and a saturated number held
by a 16-bit word without loss. -/

namespace Sys2Proof.Machine

/-! ### Clamping and saturation -/

/-- Clamping between ordered limits is lattice clamping (R72, R94). -/
theorem clampInt_eq_max_min {lo hi : Int} (h : lo ≤ hi) (x : Int) : clampInt lo hi x = max lo (min hi x) := by
  unfold clampInt
  split
  case isTrue hbelow => omega
  case isFalse => split <;> omega

theorem saturateS16_eq_max_min (x : Int) : saturateS16 x = max (-32768) (min 32767 x) :=
  clampInt_eq_max_min (by decide) x

theorem le_saturateS16 (x : Int) : -32768 ≤ saturateS16 x := by
  rw [saturateS16_eq_max_min]
  omega

theorem saturateS16_le (x : Int) : saturateS16 x ≤ 32767 := by
  rw [saturateS16_eq_max_min]
  omega

/-- A saturated number is a signed 16-bit value, so the word made from it reads back as that number. -/
theorem toInt_ofInt_saturateS16 (x : Int) : (BitVec.ofInt 16 (saturateS16 x)).toInt = saturateS16 x :=
  BitVec.toInt_ofInt_eq_self (by decide) (le_saturateS16 x) (Int.lt_add_one_of_le (saturateS16_le x))

/-! ### The statement of the scaling -/

/-- Settles O26: the word keeps the saturated number, and saturating is clamping to the limits of R27. -/
theorem samplesAreScaledAndSaturated : Obligations.SamplesAreScaledAndSaturated := by
  intro gain offset raw
  rw [scaleSample, toInt_ofInt_saturateS16, saturateS16_eq_max_min]

end Sys2Proof.Machine
end

section
/-! PROOF. The bands of an axis (R50, R51) as facts about its thresholds, and what a value event or a usable
event does to the classifier (R56, R57, R59): an axis replaced, with one rule for each field. -/

namespace Sys2Proof.Machine

/-! ### Thresholds in order -/

/-- The check of R52 between neighbours orders every two thresholds. -/
theorem pairwise_of_strictlyAscending {ts : List Word16} (h : strictlyAscending ts = true) :
    ts.Pairwise (fun a b => a.toInt < b.toInt) := by
  induction ts using strictlyAscending.induct with
  | case1 => exact .nil
  | case2 a => exact List.pairwise_singleton _ a
  | case3 a b rest ih =>
    simp only [strictlyAscending, Bool.and_eq_true, decide_eq_true_eq] at h
    obtain ⟨hab, hrest⟩ := h
    refine List.pairwise_cons.mpr ⟨fun c hc => ?_, ih hrest⟩
    rcases List.mem_cons.mp hc with rfl | hc
    · exact hab
    · exact Int.lt_trans hab (List.rel_of_pairwise_cons (ih hrest) hc)

/-- A later threshold is the greater one (R52). -/
theorem threshold_lt {ts : List Word16} (h : strictlyAscending ts = true) {i j : Nat} (hij : i < j)
    (hj : j < ts.length) : (ts.getD i 0#16).toInt < (ts.getD j 0#16).toInt := by
  rw [← List.getElem_eq_getD (h := Nat.lt_trans hij hj), ← List.getElem_eq_getD (h := hj)]
  exact List.pairwise_iff_getElem.mp (pairwise_of_strictlyAscending h) i j _ hj hij

/-! ### The plain band -/

theorem plainBand_cons (t : Word16) (ts : List Word16) (v : Int) :
    plainBand (t :: ts) v = if t.toInt ≤ v then plainBand ts v + 1 else plainBand ts v := by
  unfold plainBand
  by_cases h : t.toInt ≤ v <;> simp [h]

theorem plainBand_le_length (ts : List Word16) (v : Int) : plainBand ts v ≤ ts.length :=
  List.length_filter_le _ ts

/-- A value that reaches no threshold lies in band 0 (R50). -/
theorem plainBand_eq_zero {ts : List Word16} {v : Int} (h : ∀ t ∈ ts, v < t.toInt) : plainBand ts v = 0 := by
  rw [plainBand, List.length_eq_zero_iff, List.filter_eq_nil_iff]
  intro t ht
  simpa using h t ht

/-- The thresholds reached are the first ones, as many as the plain band says (R50). -/
theorem threshold_le_iff_lt_plainBand {ts : List Word16} (h : ts.Pairwise (fun a b => a.toInt < b.toInt)) (v : Int)
    {j : Nat} (hj : j < ts.length) : (ts.getD j 0#16).toInt ≤ v ↔ j < plainBand ts v := by
  induction ts generalizing j with
  | nil => exact absurd hj (Nat.not_lt_zero j)
  | cons t ts ih =>
    obtain ⟨hhead, htail⟩ := List.pairwise_cons.mp h
    rw [plainBand_cons]
    by_cases ht : t.toInt ≤ v
    · rw [if_pos ht]
      cases j with
      | zero => simpa using ht
      | succ j =>
        rw [List.getD_cons_succ, ih htail (Nat.lt_of_succ_lt_succ hj), Nat.add_lt_add_iff_right]
    · have habove : ∀ u ∈ t :: ts, v < u.toInt :=
        List.forall_mem_cons.mpr ⟨Int.not_le.mp ht, fun u hu => Int.lt_trans (Int.not_le.mp ht) (hhead u hu)⟩
      have hzero : plainBand ts v = 0 := plainBand_eq_zero (List.forall_mem_cons.mp habove).2
      have hj_above : v < ((t :: ts).getD j 0#16).toInt := by
        rw [← List.getElem_eq_getD (h := hj)]
        exact habove _ (List.getElem_mem hj)
      rw [if_neg ht, hzero]
      omega

/-- The plain band is the number of the first threshold not reached (R50). -/
theorem plainBand_eq_iff {ts : List Word16} (h : strictlyAscending ts = true) (v : Int) {k : Nat} (hk : k ≤ ts.length) :
    plainBand ts v = k ↔
      (∀ j, j < k → (ts.getD j 0#16).toInt ≤ v) ∧ (∀ j, k ≤ j → j < ts.length → v < (ts.getD j 0#16).toInt) := by
  have hreached := fun j => threshold_le_iff_lt_plainBand (pairwise_of_strictlyAscending h) v (j := j)
  constructor
  · rintro rfl
    exact ⟨fun j hj => (hreached j (Nat.lt_of_lt_of_le hj hk)).mpr hj,
      fun j hj hlen => Int.not_le.mp (fun hle => Nat.not_lt.mpr hj ((hreached j hlen).mp hle))⟩
  · rintro ⟨hbelow, habove⟩
    rcases Nat.lt_trichotomy (plainBand ts v) k with hlt | heq | hgt
    · exact absurd ((hreached _ (Nat.lt_of_lt_of_le hlt hk)).mp (hbelow _ hlt)) (Nat.lt_irrefl _)
    · exact heq
    · have hlen : k < ts.length := Nat.lt_of_lt_of_le hgt (plainBand_le_length ts v)
      exact absurd ((hreached k hlen).mpr hgt) (Int.not_le.mpr (habove k (Nat.le_refl k) hlen))

/-! ### The band with hysteresis -/

/-- The band does not rise when no threshold above it is passed by h (R51, Rising). -/
theorem risenBand_eq_none {ts : List Word16} {b n : Nat} {h v : Int}
    (hnot : ∀ i, i < ts.length → b < n + i → v < (ts.getD i 0#16).toInt + h) : risenBand b h v n ts = none := by
  induction ts generalizing n with
  | nil => rfl
  | cons t ts ih =>
    obtain ⟨hhead, htail⟩ := Nat.forall_lt_succ_left.mp hnot
    have htail_none : risenBand b h v (n + 1) ts = none :=
      ih fun i hi hb => by simpa using htail i hi (by omega)
    have hhead_not : ¬ (b < n ∧ t.toInt + h ≤ v) := fun ⟨hb, hle⟩ => Int.not_le.mpr (hhead hb) hle
    simp [risenBand, htail_none, hhead_not]

/-- The band rises to the largest threshold above it that is passed by h (R51, Rising). -/
theorem risenBand_eq_some {ts : List Word16} {b n i : Nat} {h v : Int} (hi : i < ts.length) (hb : b < n + i)
    (hpassed : (ts.getD i 0#16).toInt + h ≤ v)
    (hlargest : ∀ j, i < j → j < ts.length → v < (ts.getD j 0#16).toInt + h) :
    risenBand b h v n ts = some (n + i) := by
  induction ts generalizing n i with
  | nil => exact absurd hi (Nat.not_lt_zero i)
  | cons t ts ih =>
    cases i with
    | zero =>
      have htail_none : risenBand b h v (n + 1) ts = none :=
        risenBand_eq_none fun j hj _ => by simpa using hlargest (j + 1) j.succ_pos (Nat.succ_lt_succ hj)
      have hhead : b < n ∧ t.toInt + h ≤ v := ⟨hb, hpassed⟩
      simp [risenBand, htail_none, hhead]
    | succ i =>
      have htail : risenBand b h v (n + 1) ts = some (n + 1 + i) :=
        ih (Nat.lt_of_succ_lt_succ hi) (by omega) hpassed
          fun j hij hj => by simpa using hlargest (j + 1) (Nat.succ_lt_succ hij) (Nat.succ_lt_succ hj)
      simp only [risenBand, htail, Option.some.injEq]
      omega

/-- The band does not fall when no threshold at or below it is undercut by h (R51, Falling). -/
theorem fallenBand_eq_none {ts : List Word16} {b n : Nat} {h v : Int}
    (hnot : ∀ i, i < ts.length → n + i ≤ b → (ts.getD i 0#16).toInt - h ≤ v) : fallenBand b h v n ts = none := by
  induction ts generalizing n with
  | nil => rfl
  | cons t ts ih =>
    obtain ⟨hhead, htail⟩ := Nat.forall_lt_succ_left.mp hnot
    have hhead_not : ¬ (n ≤ b ∧ v < t.toInt - h) := fun ⟨hb, hlt⟩ => Int.not_le.mpr hlt (hhead hb)
    rw [fallenBand, if_neg hhead_not]
    exact ih fun i hi hb => by simpa using htail i hi (by omega)

/-- The band falls below the smallest threshold at or below it that is undercut by h (R51, Falling). -/
theorem fallenBand_eq_some {ts : List Word16} {b n i : Nat} {h v : Int} (hi : i < ts.length) (hb : n + i ≤ b)
    (hundercut : v < (ts.getD i 0#16).toInt - h)
    (hsmallest : ∀ j, j < i → (ts.getD j 0#16).toInt - h ≤ v) :
    fallenBand b h v n ts = some (n + i) := by
  induction ts generalizing n i with
  | nil => exact absurd hi (Nat.not_lt_zero i)
  | cons t ts ih =>
    cases i with
    | zero => exact if_pos ⟨hb, hundercut⟩
    | succ i =>
      have hhead_not : ¬ (n ≤ b ∧ v < t.toInt - h) :=
        fun ⟨_, hlt⟩ => Int.not_le.mpr hlt (hsmallest 0 i.succ_pos)
      have htail : fallenBand b h v (n + 1) ts = some (n + 1 + i) :=
        ih (Nat.lt_of_succ_lt_succ hi) (by omega) hundercut
          fun j hij => by simpa using hsmallest (j + 1) (Nat.succ_lt_succ hij)
      rw [fallenBand, if_neg hhead_not, htail, Nat.add_right_comm, Nat.add_assoc]

/-- Rising comes first (R51). -/
theorem hysteresisBand_of_risen {ts : List Word16} {h v : Int} {b k : Nat} (hrisen : risenBand b h v 1 ts = some k) :
    hysteresisBand ts h b v = k := by
  rw [hysteresisBand, hrisen]

/-- A band that does not rise falls to one below the threshold undercut (R51). -/
theorem hysteresisBand_of_fallen {ts : List Word16} {h v : Int} {b k : Nat} (hrisen : risenBand b h v 1 ts = none)
    (hfallen : fallenBand b h v 1 ts = some k) : hysteresisBand ts h b v = k - 1 := by
  rw [hysteresisBand, hrisen, hfallen]

/-- A band that neither rises nor falls stays (R51). -/
theorem hysteresisBand_of_neither {ts : List Word16} {h v : Int} {b : Nat} (hrisen : risenBand b h v 1 ts = none)
    (hfallen : fallenBand b h v 1 ts = none) : hysteresisBand ts h b v = b := by
  rw [hysteresisBand, hrisen, hfallen]

/-- A value that undercuts a threshold at or below the band by h passes no threshold above the band by h. -/
theorem risenBand_eq_none_of_undercut {ts : List Word16} (hasc : strictlyAscending ts = true) {b i h : Nat} {v : Int}
    (hib : i < b) (hundercut : v < (ts.getD i 0#16).toInt - h) : risenBand b h v 1 ts = none := by
  refine risenBand_eq_none fun j hj hb => ?_
  have hlt := threshold_lt hasc (show i < j by omega) hj
  omega

/-- The three rules of R51, with the thresholds numbered from 1. -/
theorem hysteresisBand_rules {ts : List Word16} (h : Nat) {b : Nat} (v : Int) (hasc : strictlyAscending ts = true)
    (hb : b ≤ ts.length) :
    (∀ k, b < k → k ≤ ts.length → (ts.getD (k - 1) 0#16).toInt + h ≤ v →
      (∀ j, k < j → j ≤ ts.length → v < (ts.getD (j - 1) 0#16).toInt + h) → hysteresisBand ts h b v = k) ∧
    (∀ k, 1 ≤ k → k ≤ b → v < (ts.getD (k - 1) 0#16).toInt - h →
      (∀ j, 1 ≤ j → j < k → (ts.getD (j - 1) 0#16).toInt - h ≤ v) → hysteresisBand ts h b v = k - 1) ∧
    ((∀ k, b < k → k ≤ ts.length → v < (ts.getD (k - 1) 0#16).toInt + h) →
      (∀ k, 1 ≤ k → k ≤ b → (ts.getD (k - 1) 0#16).toInt - h ≤ v) → hysteresisBand ts h b v = b) := by
  refine ⟨fun k hbk hk hpassed hlargest => ?_, fun k hk hkb hundercut hsmallest => ?_, fun hnoRise hnoFall => ?_⟩
  · have hrisen := risenBand_eq_some (b := b) (n := 1) (by omega) (by omega) hpassed
      fun j hj hlen => hlargest (j + 1) (by omega) hlen
    rw [hysteresisBand_of_risen hrisen]
    omega
  · have hfallen := fallenBand_eq_some (b := b) (n := 1) (by omega) (by omega) hundercut
      fun j hj => hsmallest (j + 1) j.succ_pos (by omega)
    have hrisen := risenBand_eq_none_of_undercut (b := b) hasc (by omega) hundercut
    rw [hysteresisBand_of_fallen hrisen hfallen]
    omega
  · exact hysteresisBand_of_neither
      (risenBand_eq_none fun i hi hbi => hnoRise (i + 1) (by omega) hi)
      (fallenBand_eq_none fun i _ hib => hnoFall (i + 1) i.succ_pos (by omega))

/-! ### An axis replaced -/

/-- What is read at an axis after one axis is replaced. -/
theorem PerAxis.get_set {α : Type} (p : PerAxis α) (a b : Axis) (x : α) :
    (p.set a x).get b = if b = a then x else p.get b := by
  cases a <;> cases b <;> rfl

variable {s : State} (a : Axis) (x : AxisState)

@[simp] theorem changeAxis_axes : (changeAxis a x s).classifier.axes = s.classifier.axes.set a x := by
  unfold changeAxis
  dsimp only
  split <;> rfl

@[simp] theorem changeAxis_adopted : (changeAxis a x s).classifier.adopted = s.classifier.adopted := by
  unfold changeAxis
  dsimp only
  split <;> rfl

@[simp] theorem changeAxis_adoptedAt : (changeAxis a x s).classifier.adoptedAt = s.classifier.adoptedAt := by
  unfold changeAxis
  dsimp only
  split <;> rfl

/-- The candidate class after a change of an axis is read off the axes (R58). -/
theorem changeAxis_candidate :
    (changeAxis a x s).classifier.candidate = (s.classifier.withAxis a x).candidate := by
  simp [Classifier.candidate, Classifier.withAxis]

/-- The dwell acts only when the candidate class changes: it stops at the adopted class, and otherwise starts
afresh (R59). -/
theorem changeAxis_dwell : (changeAxis a x s).classifier.dwell =
    if (changeAxis a x s).classifier.candidate = s.classifier.candidate then s.classifier.dwell
    else if (changeAxis a x s).classifier.candidate = s.classifier.adopted then none
    else some ⟨s.partTime, 10 * s.mgmt.params.item 29⟩ := by
  rw [changeAxis_candidate, changeAxis, Nat.mul_comm]
  split <;> rfl

/-- A value event brings the value and its band, and the axis is frozen no more (R57). -/
theorem takeAxisValue_axis (v : Word16) :
    (takeAxisValue a v s).classifier.axes.get a =
      ⟨(s.classifier.axes.get a).defn, false, some v, (s.classifier.axes.get a).bandFor v⟩ := by
  simp [takeAxisValue, PerAxis.get_set]

/-- From state `s` to state `t` the classifier changes at axis `a` alone, whose definition stays, and the dwell
follows the candidate class (R56, R57, R59). -/
structure ChangesOnlyAxis (a : Axis) (s t : State) : Prop where
  others : ∀ b, b ≠ a → t.classifier.axes.get b = s.classifier.axes.get b
  defn : (t.classifier.axes.get a).defn = (s.classifier.axes.get a).defn
  adopted : t.classifier.adopted = s.classifier.adopted
  adoptedAt : t.classifier.adoptedAt = s.classifier.adoptedAt
  dwellStays : t.classifier.candidate = s.classifier.candidate → t.classifier.dwell = s.classifier.dwell
  dwellActs : t.classifier.candidate ≠ s.classifier.candidate →
    t.classifier.dwell = if t.classifier.candidate = t.classifier.adopted then none
      else some ⟨s.partTime, 10 * s.mgmt.params.item 29⟩
  touches : OnlyTouches [.classifier] s t

theorem ChangesOnlyAxis.refl : ChangesOnlyAxis a s s where
  others := fun _ _ => rfl
  defn := rfl
  adopted := rfl
  adoptedAt := rfl
  dwellStays := fun _ => rfl
  dwellActs := fun h => absurd rfl h
  touches := .refl _ s

variable {a x}

theorem changesOnlyAxis_changeAxis (hdefn : x.defn = (s.classifier.axes.get a).defn) :
    ChangesOnlyAxis a s (changeAxis a x s) where
  others := fun b hb => by rw [changeAxis_axes, PerAxis.get_set, if_neg hb]
  defn := by rw [changeAxis_axes, PerAxis.get_set, if_pos rfl, hdefn]
  adopted := changeAxis_adopted a x
  adoptedAt := changeAxis_adoptedAt a x
  dwellStays := fun hsame => by rw [changeAxis_dwell, if_pos hsame]
  dwellActs := fun hchanged => by rw [changeAxis_dwell, if_neg hchanged, changeAxis_adopted]
  touches := touches_changeAxis (List.Subset.refl _) (.refl _ s) a x

theorem changesOnlyAxis_takeAxisValue (v : Word16) : ChangesOnlyAxis a s (takeAxisValue a v s) :=
  changesOnlyAxis_changeAxis rfl

/-- An axis that is frozen already stays as it is (R56). -/
theorem freezeAxis_of_frozen (h : (s.classifier.axes.get a).frozen = true) : freezeAxis a s = s := if_pos h

theorem freezeAxis_of_not_frozen (h : (s.classifier.axes.get a).frozen = false) :
    freezeAxis a s = changeAxis a
      ⟨(s.classifier.axes.get a).defn, true, none, s.classifier.adopted.get a⟩ s := by
  simp [freezeAxis, h]

/-- A usable event freezes the axis at its adopted band, without a value (R56). -/
theorem freezeAxis_axis (h : (s.classifier.axes.get a).frozen = false) :
    (freezeAxis a s).classifier.axes.get a =
      ⟨(s.classifier.axes.get a).defn, true, none, s.classifier.adopted.get a⟩ := by
  rw [freezeAxis_of_not_frozen h, changeAxis_axes, PerAxis.get_set, if_pos rfl]

theorem changesOnlyAxis_freezeAxis : ChangesOnlyAxis a s (freezeAxis a s) := by
  cases h : (s.classifier.axes.get a).frozen with
  | true =>
    rw [freezeAxis_of_frozen h]
    exact .refl a
  | false =>
    rw [freezeAxis_of_not_frozen h]
    exact changesOnlyAxis_changeAxis rfl

/-! ### The statement of the bands -/

/-- Settles O30: the bands by the rules of R50 and R51, and both events by the rules of an axis replaced. -/
theorem bandsFollowTheThresholdsAndValues : Obligations.BandsFollowTheThresholdsAndValues := by
  refine ⟨⟨fun ts v k hasc hk => plainBand_eq_iff hasc v hk, fun ts h b v hasc hb => hysteresisBand_rules h v hasc hb,
    fun a v _ => takeAxisValue_axis a v⟩, fun a s t ht => ?_⟩
  have hframe : ChangesOnlyAxis a s t := by
    rcases ht with ⟨v, rfl⟩ | rfl
    · exact changesOnlyAxis_takeAxisValue v
    · exact changesOnlyAxis_freezeAxis
  refine ⟨hframe.others, hframe.defn, hframe.adopted, hframe.adoptedAt, hframe.dwellStays, hframe.dwellActs, ?_,
    hframe.touches⟩
  rintro rfl hthawed
  rw [freezeAxis_axis hthawed]
  exact ⟨rfl, rfl, rfl⟩

end Sys2Proof.Machine
end

section
/-! PROOF. The requests that write a bank: the bank named (R68), the restriction of R76 said once, SIDETRIM WRITE
and HEADER WRITE (R80, R81), and the shadow cleared and copied (R84, R85). -/

namespace Sys2Proof.Machine

variable {s : State} {r : Sender} {code : Nat} {mode : RequestMode} {column : PartState → Bool}
  {body : State → State} {c : Instr} {bank : Byte} {k : BankId} {b : Bank} {n : Nat}

/-! ### The two banks -/

/-- A number above 1 names no bank (R68). -/
theorem BankId.ofNum_of_two_le (h : 2 ≤ n) : BankId.ofNum n = none := by
  match n, h with
  | n + 2, _ => rfl

theorem BankId.other_ne (k : BankId) : k.other ≠ k := by cases k <;> decide

/-- What is read at a bank after one bank is replaced (R68). -/
theorem SettingMap.bank_withBank (m : SettingMap) (k j : BankId) (b : Bank) :
    (m.withBank k b).bank j = if j = k then b else m.bank j := by
  cases k <;> cases j <;> rfl

/-- Replacing a bank leaves the selector (R68). -/
@[simp] theorem SettingMap.active_withBank (m : SettingMap) (k : BankId) (b : Bank) :
    (m.withBank k b).active = m.active := by cases k <;> rfl

/-- A cell without a loss limit of its own has its bank's (R73). -/
theorem Bank.lossLimit_of_no_own (h : ∀ x, b.cell n = some x → x.ownLlim = none) : b.lossLimit n = b.llim.toNat := by
  unfold Bank.lossLimit
  cases hcell : b.cell n with
  | none => rfl
  | some x => simp [h x hcell]

/-- A cell without a tailings limit of its own has its bank's (R73). -/
theorem Bank.tailingsLimit_of_no_own (h : ∀ x, b.cell n = some x → x.ownTlim = none) :
    b.tailingsLimit n = b.tlim.toNat := by
  unfold Bank.tailingsLimit
  cases hcell : b.cell n with
  | none => rfl
  | some x => simp [h x hcell]

/-! ### A blank bank -/

/-- Every record of a table filled with one record is that record. -/
theorem Table.get?_fill {α : Type} {size i : Nat} {a x : α} (h : (Table.fill size a).get? i = some x) : x = a := by
  unfold Table.get? at h
  split at h
  · simpa [Table.get, Table.fill, eq_comm] using h
  · cases h

/-- Every cell of a blank bank is unwritten (R84). -/
theorem cell_blankBank (n : Nat) : blankBank.cell n = none := by
  cases h : blankBank.cells.get? n with
  | none => simp [Bank.cell, h]
  | some x => simp [Bank.cell, h, Table.get?_fill h]

/-- Every side trim of a blank bank is zero (R71, R84). -/
theorem sideTrims_blankBank (n : Nat) : blankBank.sideTrims.get n = zeroSideTrim := by
  unfold PerSide.get
  split <;> rfl

/-- A blank bank counts no written cell (R73, R84). -/
theorem writtenCount_blankBank : blankBank.writtenCount = 0 := by
  simp [Bank.writtenCount, blankBank, Table.fill]

/-- A blank bank is invalid (R73, R84). -/
theorem valid_blankBank : blankBank.valid = false := by
  simp [Bank.valid, blankBank, Table.fill]

/-! ### An admitted request and the map -/

/-- A request that fails a test of its own changes nothing (R181 test 5). -/
theorem refuseOr_some (result : Result) (effect : State → State) :
    refuseOr r code (some result) effect s = answer r code result [] s := rfl

/-- A request that passes its own tests is answered DONE after its effect (R181). -/
theorem refuseOr_none (effect : State → State) :
    refuseOr r code none effect s = answer r code .done [] (effect s) := rfl

theorem badWhen_true : badWhen true = some .badField := rfl

theorem badWhen_false : badWhen false = none := rfl

theorem State.admits.works (h : s.admits r mode column) : s.works := h.1.1

theorem State.admits.settled (h : s.admits r mode column) : s.settled := h.2.1

/-- A working part carries out the body of an admitted request. -/
theorem live_serve_of_admits (h : s.admits r mode column) :
    live (serve c r code mode column body) s = .next (body (s.taken c)) := by
  rw [live_of_works h.works, serve_of_admits h]

/-- Taking a request leaves the setting map, when no examination is put off. -/
theorem taken_map (h : s.settled) : (s.taken c).map = s.map := by
  rw [taken_eq h]
  rfl

/-- A bank changed right after a request is taken. -/
theorem updBank_taken (h : s.settled) (k : BankId) (f : Bank → Bank) :
    updBank k f (s.taken c) = (s.taken c).withMap (s.map.withBank k (f (s.map.bank k))) := by
  rw [updBank, taken_map h]

/-! ### The requests that write a bank -/

/-- The bank is closed to writes: it is the active one, while REGULATING (R76). -/
abbrev State.closesBank (s : State) (k : BankId) : Prop := k = s.map.active ∧ s.mgmt.partState = .regulating

/-- The command is a request that changes the bank it names by `f`, under the restriction of R76 and with the field
tests `bad`. -/
def WritesBank (c : Instr) (r : Sender) (code : Nat) (bank : Byte) (bad : State → Bool) (f : Bank → Bank) : Prop :=
  ∀ s, exec c s = live (serve c r code .modifying anyState (bankWrite r code bank bad (fun k => updBank k f))) s

theorem writesBank_headerWrite (r : Sender) (bank : Byte) (label llim tlim : Word16) :
    WritesBank (.headerWrite r bank label llim tlim) r 11 bank (fun _ => !limitOk llim || !limitOk tlim)
      (fun b => { b with label := label, llim := llim, tlim := tlim }) := fun _ => rfl

theorem writesBank_sidetrimWrite (r : Sender) (bank : Byte) (offsets : PerSide (Word16 × Word16)) :
    WritesBank (.sidetrimWrite r bank offsets) r 10 bank (fun _ => offsets.toList.any sideTrimBad)
      (fun b => { b with sideTrims := offsets.map (fun p => ⟨p.1, p.2⟩) }) := fun _ => rfl

namespace WritesBank

variable {bad : State → Bool} {f : Bank → Bank}

/-- A Bank above 1 is refused first of all (R76). -/
theorem refuses_bank (hc : WritesBank c r code bank bad f) (h : s.admits r .modifying anyState)
    (hbank : 2 ≤ bank.toNat) : s.refuses c r code .badField := by
  rw [State.refuses, hc, live_serve_of_admits h, bankWrite, BankId.ofNum_of_two_le hbank]

/-- What an admitted write of a bank comes to: the restriction of R76, then the field tests, then its effect. -/
theorem exec_eq (hc : WritesBank c r code bank bad f) (h : s.admits r .modifying anyState)
    (hk : BankId.ofNum bank.toNat = some k) :
    exec c s = .next (if s.closesBank k then answer r code .wrongState [] (s.taken c)
      else if bad (s.taken c) then answer r code .badField [] (s.taken c)
      else answer r code .done [] ((s.taken c).withMap (s.map.withBank k (f (s.map.bank k))))) := by
  have hpart : (s.taken c).mgmt.partState = s.mgmt.partState := by rw [taken_mgmt]
  rw [hc, live_serve_of_admits h, bankWrite, hk]
  dsimp only
  rw [taken_map h.settled, hpart]
  by_cases hclosed : s.closesBank k
  · rw [if_pos hclosed, if_pos hclosed, refuseOr_some]
  · rw [if_neg hclosed, if_neg hclosed]
    cases bad (s.taken c) with
    | true => rw [badWhen_true, refuseOr_some, if_pos rfl]
    | false => rw [badWhen_false, refuseOr_none, updBank_taken h.settled, if_neg Bool.false_ne_true]

theorem refuses_closed (hc : WritesBank c r code bank bad f) (h : s.admits r .modifying anyState)
    (hk : BankId.ofNum bank.toNat = some k) (hclosed : s.closesBank k) : s.refuses c r code .wrongState := by
  rw [State.refuses, hc.exec_eq h hk, if_pos hclosed]

theorem refuses_fields (hc : WritesBank c r code bank bad f) (h : s.admits r .modifying anyState)
    (hk : BankId.ofNum bank.toNat = some k) (hopen : ¬ s.closesBank k) (hbad : bad (s.taken c) = true) :
    s.refuses c r code .badField := by
  rw [State.refuses, hc.exec_eq h hk, if_neg hopen, if_pos hbad]

theorem exec_done (hc : WritesBank c r code bank bad f) (h : s.admits r .modifying anyState)
    (hk : BankId.ofNum bank.toNat = some k) (hopen : ¬ s.closesBank k) (hgood : bad (s.taken c) = false) :
    exec c s =
      .next (answer r code .done [] ((s.taken c).withMap (s.map.withBank k (f (s.map.bank k))))) := by
  rw [hc.exec_eq h hk, if_neg hopen, hgood]
  rfl

end WritesBank

/-! ### Their fields -/

theorem limitOk_iff {w : Word16} : limitOk w = true ↔ 1 ≤ w.toNat ∧ w.toNat ≤ 2000 := by simp [limitOk]

/-- The test of HEADER WRITE passes exactly when both limits lie in their range (R81). -/
theorem headerBad_eq_false {llim tlim : Word16} :
    (!limitOk llim || !limitOk tlim) = false ↔
      1 ≤ llim.toNat ∧ llim.toNat ≤ 2000 ∧ 1 ≤ tlim.toNat ∧ tlim.toNat ≤ 2000 := by
  rw [Bool.or_eq_false_iff, Bool.not_eq_false', Bool.not_eq_false', limitOk_iff, limitOk_iff, and_assoc]

theorem sideTrimBad_eq_false {e : Word16 × Word16} :
    sideTrimBad e = false ↔ -500 ≤ e.1.toInt ∧ e.1.toInt ≤ 500 ∧ -100 ≤ e.2.toInt ∧ e.2.toInt ≤ 100 := by
  simp only [sideTrimBad, Bool.or_eq_false_iff, decide_eq_false_iff_not]
  omega

/-- The test of SIDETRIM WRITE passes exactly when every offset lies in its range (R80). -/
theorem sideTrimsBad_eq_false {l : List (Word16 × Word16)} :
    l.any sideTrimBad = false ↔
      ∀ e ∈ l, -500 ≤ e.1.toInt ∧ e.1.toInt ≤ 500 ∧ -100 ≤ e.2.toInt ∧ e.2.toInt ≤ 100 := by
  simp only [List.any_eq_false, Bool.not_eq_true, sideTrimBad_eq_false]

/-- Words sent low byte first are taken back, and the bytes after them are ignored (R5, R181). -/
theorem takeWords_wordBytes (words : List Word16) (rest : List Byte) :
    takeWords words.length (wordBytes words ++ rest) = some words := by
  induction words with
  | nil => rfl
  | cons w ws ih =>
    have hcons : takeWords (w :: ws).length (wordBytes (w :: ws) ++ rest) =
      (takeWords ws.length (wordBytes ws ++ rest)).map
        (word16 (w.extractLsb' 0 8) (w.extractLsb' 8 8) :: ·) := rfl
    rw [hcons, ih, word16_extract]
    rfl

/-- The side trims sent are the side trims read (R80). -/
theorem takeSideTrims_sent (offsets : PerSide (Word16 × Word16)) :
    takeSideTrims (offsets.toList.map (fun e => le16 e.1 ++ le16 e.2)).flatten = some offsets := by
  obtain ⟨⟨a, b⟩, ⟨c, d⟩, ⟨e, f⟩, ⟨g, h⟩, ⟨i, j⟩⟩ := offsets
  have hsent : (List.map (fun e : Word16 × Word16 => le16 e.1 ++ le16 e.2)
      [(a, b), (c, d), (e, f), (g, h), (i, j)]).flatten = wordBytes [a, b, c, d, e, f, g, h, i, j] ++ [] := rfl
  have hwords := takeWords_wordBytes [a, b, c, d, e, f, g, h, i, j] []
  simp only [List.length_cons, List.length_nil] at hwords
  rw [takeSideTrims, PerSide.toList, hsent, hwords]

/-- The payload of a SIDETRIM WRITE spells it (R80). -/
theorem decodeRequest_sidetrimWrite (r : Sender) (bank : Byte) (offsets : PerSide (Word16 × Word16)) :
    decodeRequest r 10#8 (bank :: (offsets.toList.map (fun e => le16 e.1 ++ le16 e.2)).flatten) =
      .sidetrimWrite r bank offsets := by
  have hknown (rest : List Byte) :
    decodeKnown r (10#8).toNat (bank :: rest) = (takeSideTrims rest).map (.sidetrimWrite r bank ·) := rfl
  rw [decodeRequest, hknown, takeSideTrims_sent]
  rfl

/-- The payload of a HEADER WRITE spells it (R81). -/
theorem decodeRequest_headerWrite (r : Sender) (bank : Byte) (label llim tlim : Word16) :
    decodeRequest r 11#8 ([bank] ++ le16 label ++ le16 llim ++ le16 tlim) = .headerWrite r bank label llim tlim := by
  calc decodeRequest r 11#8 ([bank] ++ le16 label ++ le16 llim ++ le16 tlim)
    _ = .headerWrite r bank (word16 (label.extractLsb' 0 8) (label.extractLsb' 8 8))
          (word16 (llim.extractLsb' 0 8) (llim.extractLsb' 8 8))
          (word16 (tlim.extractLsb' 0 8) (tlim.extractLsb' 8 8)) := rfl
    _ = .headerWrite r bank label llim tlim := by simp only [word16_extract]

/-! ### The statement of the headers and the side trims -/

/-- Settles O33: each is a write of a bank, with its own fields and its own effect. -/
theorem headersAndSideTrimsAreWritten : Obligations.HeadersAndSideTrimsAreWritten := by
  intro r bank s h
  constructor
  · intro label llim tlim c ok
    have hc : WritesBank c r 11 bank _ _ := writesBank_headerWrite r bank label llim tlim
    have hok : (!limitOk llim || !limitOk tlim) = false ↔ ok := headerBad_eq_false
    refine ⟨decodeRequest_headerWrite r bank label llim tlim, hc.refuses_bank h, fun k hk =>
      ⟨hc.refuses_closed h hk,
        fun hopen hbad => hc.refuses_fields h hk hopen (eq_true_of_ne_false (mt hok.mp hbad)),
        fun hopen hgood => hc.exec_done h hk hopen (hok.mpr hgood),
        fun n hown => Bank.lossLimit_of_no_own fun x hx => ?_,
        fun n hown => Bank.tailingsLimit_of_no_own fun x hx => ?_⟩⟩
    · rw [show (s.map.bank k).cell n = some x from hx] at hown
      exact hown
    · rw [show (s.map.bank k).cell n = some x from hx] at hown
      exact hown
  · intro offsets c ok sent
    have hc : WritesBank c r 10 bank _ _ := writesBank_sidetrimWrite r bank offsets
    have hok : offsets.toList.any sideTrimBad = false ↔ ok := sideTrimsBad_eq_false
    exact ⟨decodeRequest_sidetrimWrite r bank offsets, rfl, hc.refuses_bank h, fun k hk =>
      ⟨hc.refuses_closed h hk,
        fun hopen hbad => hc.refuses_fields h hk hopen (eq_true_of_ne_false (mt hok.mp hbad)),
        fun hopen hgood => hc.exec_done h hk hopen (hok.mpr hgood)⟩⟩

/-! ### The shadow -/

theorem exec_bankClear (h : s.admits r .modifying anyState) :
    exec (.bankClear r bank) s = .next (bodyBankClear r bank (s.taken (.bankClear r bank))) :=
  live_serve_of_admits h

theorem bankClear_refuses_bank (h : s.admits r .modifying anyState) (hbank : 2 ≤ bank.toNat) :
    s.refuses (.bankClear r bank) r 14 .badField := by
  rw [State.refuses, exec_bankClear h, bodyBankClear, BankId.ofNum_of_two_le hbank]

theorem bankClear_refuses_active (h : s.admits r .modifying anyState)
    (hactive : BankId.ofNum bank.toNat = some s.map.active) : s.refuses (.bankClear r bank) r 14 .conflict := by
  rw [State.refuses, exec_bankClear h, bodyBankClear, hactive]
  dsimp only
  rw [taken_map h.settled, if_pos rfl, refuseOr_some]

/-- The shadow becomes a blank bank (R84). -/
theorem bankClear_clears_shadow (h : s.admits r .modifying anyState)
    (hshadow : BankId.ofNum bank.toNat = some s.map.active.other) :
    exec (.bankClear r bank) s = .next (answer r 14 .done []
      ((s.taken (.bankClear r bank)).withMap (s.map.withBank s.map.active.other blankBank))) := by
  rw [exec_bankClear h, bodyBankClear, hshadow]
  dsimp only
  rw [taken_map h.settled, if_neg s.map.active.other_ne, refuseOr_none, updBank_taken h.settled]

/-- An admitted BANK COPY puts the active bank in the shadow's place (R85). -/
theorem exec_bankCopy (h : s.admits r .modifying anyState) :
    exec (.bankCopy r) s = .next (answer r 15 .done [] ((s.taken (.bankCopy r)).withMap
      (s.map.withBank s.map.active.other (s.map.bank s.map.active)))) := by
  have hexec : exec (.bankCopy r) s = .next (answer r 15 .done [] (copyBank (s.taken (.bankCopy r)))) :=
    live_serve_of_admits h
  rw [hexec, copyBank, updBank_taken h.settled, State.activeBank, taken_map h.settled]

/-! ### The statement of the shadow -/

/-- Settles O35: the shadow becomes a blank bank, or the bank the active one is. -/
theorem theShadowIsClearedAndCopied : Obligations.TheShadowIsClearedAndCopied := by
  intro r s h
  refine ⟨fun bank => ⟨bankClear_refuses_bank h, bankClear_refuses_active h, fun hshadow =>
    ⟨blankBank, bankClear_clears_shadow h hshadow, cell_blankBank, rfl, sideTrims_blankBank, rfl, rfl, rfl,
      valid_blankBank, writtenCount_blankBank⟩⟩, exec_bankCopy h, ?_, ?_, ?_⟩
  · rw [SettingMap.bank_withBank, if_pos rfl]
  · rw [SettingMap.bank_withBank, if_neg s.map.active.other_ne.symm]
  · exact SettingMap.active_withBank ..

end Sys2Proof.Machine
end

section
/-! PROOF. The link counters read (R200): a read request admitted everywhere, served whatever the arbiter owes,
and the 20 bytes of its reply. -/

namespace Sys2Proof.Machine

variable {s : State} {r : Sender} {code : Nat} {body : State → State} {c : Instr}

/-! ### Read requests admitted in every part state -/

/-- A read request admitted in every part state runs its body once the part is not busy, from any station and
whatever the arbiter owes (R181 tests 1, 3 and 4). -/
theorem serve_read_anyState (hbusy : s.mgmt.busy = false) :
    serve c r code .read anyState body s = body (s.taken c) := by
  have hnotBusy : (takeRequest c s).mgmt.busy = false := taken_busy.trans hbusy
  have hjudged : judgeRequest r code .read anyState body (takeRequest c s) = body (s.taken c) := rfl
  rw [serve, hnotBusy, hjudged, if_neg Bool.false_ne_true]

/-- A free part carries out the body of such a request. -/
theorem live_serve_read_anyState (h : s.free) :
    live (serve c r code .read anyState body) s = .next (body (s.taken c)) := by
  obtain ⟨hworks, hbusy⟩ := h
  rw [live_of_works hworks, serve_read_anyState hbusy]

/-! ### The counters -/

/-- Taking a request leaves the ports, when no examination is put off. -/
theorem taken_port (h : s.settled) (p : Port) : (s.taken c).port p = s.port p := by
  rw [State.port, taken_eq h, State.withMgmt_link]
  rfl

/-- A word sent takes 2 bytes. -/
@[simp] theorem length_le16 (w : Word16) : (le16 w).length = 2 := rfl

/-- The five counters of a port take 10 bytes (R200). -/
@[simp] theorem length_counterBytes (k : PortState) : (counterBytes k).length = 10 := by
  simp only [counterBytes, List.length_append, length_le16]

/-- COUNTERS READ is a read request of every part state, whose body answers with the counters (R200). -/
theorem exec_countersRead (r : Sender) (s : State) :
    exec (.countersRead r) s = live (serve (.countersRead r) r 46 .read anyState fun t =>
      answer r 46 .done (counterBytes (t.port .s) ++ counterBytes (t.port .m)) t) s := rfl

/-! ### The statement of the counters -/

/-- Settles O59: the request is a read admitted in every part state, and its body reads the ports alone. -/
theorem countersAreRead : Obligations.CountersAreRead := by
  intro r s hfree k five
  have hlength (p : Port) : (five p).length = 10 := length_counterBytes (k p)
  refine ⟨fun hsettled => taken_port hsettled, ?_, ?_⟩
  · rw [List.length_append, hlength, hlength]
  · rw [exec_countersRead, live_serve_read_anyState hfree]
    rfl

end Sys2Proof.Machine
end

section
/-! PROOF. What one step can do, said once: every command is a row of `Effect`s, each with the blocks it touches
and with what is known when it happens. An invariant that every effect keeps, every step keeps. -/

namespace Sys2Proof.Machine

/-- Every block but the queue of commands and the order field: what a reset rewrites. -/
def touchReset : List Block :=
  [.partTime, .pins, .link, .channels, .classifier, .map, .moves, .regulator, .guards, .safe, .mgmt,
   .notices, .pictures, .store, .keep]

/-- What a collision touches: it may bring an event to the arbiter, but no sample. -/
def touchCollision : List Block := .mgmt :: touchGuards

/-- What the beginning and the end of regulation touch. -/
def touchDuty : List Block := .mgmt :: touchCycle

/-- What the effects of the regulation cycle touch. -/
def cycleTouches : List (List Block) := [touchCycle, touchWindow, touchDuty, touchOwner]

/-- A change of a port that leaves its queue and its transmitter: counting. -/
def CountsOnly (f : PortState → PortState) : Prop := ∀ ps, (f ps).queue = ps.queue ∧ (f ps).tx = ps.tx

/-- A change of a bank under which cells that fit the parameters go on fitting. -/
def WritesFitting (p : Params) (f : Bank → Bank) : Prop := ∀ b, bankFits p b = true → bankFits p (f b) = true

/-- What a command does is made of these; the list names the blocks the effect may touch. -/
inductive Effect : List Block → State → State → Prop where
  -- the link
  | count {s} (p : Port) (f : PortState → PortState) (h : CountsOnly f) : Effect [.link] s (updPort p f s)
  | learn {s} (source : Byte) (p : Port) : Effect [.link] s (learnSide source p s)
  | forward {s} (p : Port) (f : Frame) : Effect [.link] s (forwardFrame p f s)
  | choose {s} (p : Port) : Effect [.link] s (updPort p PortState.choose s)
  | resend {s} (p : Port) : Effect [.link] s (updPort p PortState.resend s)
  | sent {s} (p : Port) (i n : Nat) (e : Entry) (ht : (s.port p).tx = .active .sending i n)
      (he : (s.port p).queue[i]? = some e) : Effect touchReply s (sentFrame p i e s)
  | collided {s} (p : Port) (i n : Nat) (e : Entry) (ht : (s.port p).tx = .active .sending i n)
      (he : (s.port p).queue[i]? = some e) : Effect touchCollision s (collideFrame p i e n s)
  | clash {s} (p : Port) : Effect touchGuards s (stationClash p s)
  | sample {s} (f : Frame) : Effect touchClass s (takeSample f s)
  | drive {s} (f : Frame) : Effect touchGuards s (takeDriveFrame f s)
  | ident {s} (f : Frame) : Effect touchChecking s (takeIdent f s)
  -- requests and replies
  | inbox {s} (l : List Instr) : Effect [.mgmt] s (s.withMgmt { s.mgmt with inbox := l })
  | claim {s} (o : Byte) (hs : s.mgmt.partState = .awaitParam) (hn : s.mgmt.owner = none) :
      Effect [.mgmt] s (s.withMgmt { s.mgmt with owner := some o })
  | reply {s} (r : Reply) : Effect touchReply s (readyReply r s)
  | handOver {s} (p : Port) : Effect touchReply s (handOver p s)
  -- shared
  | order {s} (l : List Nat) : Effect [.order] s (s.withOrder l)
  | notice {s} (kind : NoticeKind) (subject : Nat) (detail : Word16) :
      Effect touchNotices s (raiseNotice kind subject detail s)
  | settle {s} : Effect touchGuards s (settleGuards s)
  -- channels and classes
  | channelExpires {s} (i : Fin 24) : Effect touchClass s (channelExpires i s)
  | writeChannel {s} (i : Fin 24) (d : ChannelDef) (h : s.channels.breaksLimit i d = false) :
      Effect touchClass s (writeChannel i d s)
  | restartChannels {s} (which : Option Nat) : Effect touchClass s (restartChannels which s)
  | clearLatches {s} : Effect [.channels] s (s.withChannels s.channels.clearLatches)
  | adopt {s} : Effect touchClass s (adoptCandidate s)
  | writeAxis {s} (a : Axis) (d : AxisDef) (h : axisFits a d = true) : Effect touchClass s (writeAxis a d s)
  -- the map
  | bank {s} (k : BankId) (f : Bank → Bank) (h : WritesFitting s.mgmt.params f) : Effect [.map] s (updBank k f s)
  | copyBank {s} : Effect [.map] s (copyBank s)
  | activate {s} (k : BankId) : Effect [.map] s (s.withMap { s.map with active := k })
  | keepTaken {s} : Effect [.map, .keep] s (takeWaitingKeep s)
  -- moves
  | acceptExpires {s} (st : Setting) (h : (s.record st).state = .issued) :
      Effect touchGuards s (acceptExpires st s)
  | moveExpires {s} (st : Setting) : Effect touchGuards s (enterFault st .moveTimeout s)
  | trackingExpires {s} (st : Setting) : Effect touchGuards s (trackingExpires st s)
  | repair {s} : Effect touchGuards s (repairMoves s)
  | hold {s} (mask : Byte) (held : Bool) : Effect [.moves] s (setHeld mask held s)
  | releaseDeferred {s} (st : Setting) : Effect touchMoves s (releaseDeferred st s)
  | releaseOnce {s} (st : Setting) : Effect touchMoves s (releaseDeferredOnce st s)
  | relayout {s} (roster : PerSetting RosterEntry) : Effect touchGuards s (relayoutMoves roster s)
  -- the cycle
  | windowA {s} (t : Timer) (h : s.regulator.window = some (.a, t)) : Effect touchCycle s (windowAEnds s)
  | windowB {s} (t : Timer) (h : s.regulator.window = some (.b, t)) : Effect touchWindow s (windowBEnds s)
  | adjustTimer {s} : Effect [.regulator] s (adjustTimer s)
  | retarget {s} : Effect touchCycle s (takeRetarget s)
  -- guards
  | condition {s} (n : Fin 12) (active : Bool) : Effect touchGuards s (setCondition n active s)
  | slipTimer {s} (w : Rotor) (t : Option Timer) : Effect touchGuards s (setSlipTimer w t s)
  | release {s} (n : Fin 12) (cause : Nat) : Effect touchGuards s (releaseGuard n cause s)
  | releaseNamed {s} (n : Fin 12) : Effect touchGuards s (releaseNamed n s)
  | configure {s} (n : Fin 12) (f : GuardFields) (h : guardFieldsBad n f = false) :
      Effect touchGuards s (configureGuard n f s)
  | masks {s} (mask : Word16) : Effect touchGuards s (writeMasks mask s)
  | floor {s} (floor : Nat) (h : 1 ≤ floor ∧ floor ≤ 8) : Effect touchGuards s (writeFloor floor s)
  | raiseOperator {s} : Effect touchGuards s (raiseOperator s)
  | lines {s} (hdr sep : Option Bool) :
      Effect [.pins] s (s.withPins { s.pins with hdrDown := hdr, sepOn := sep })
  -- the safe set and the heartbeat
  | substitute {s} (mask : Byte) (values : PerSetting Word16) (h : substituteBad s.mgmt.params mask values = false) :
      Effect [.safe] s (writeSubstitute mask values s)
  | startBeat {s} (ho : s.mgmt.owner.isSome = true) : Effect [.safe] s (startBeat s)
  | stopBeat {s} : Effect [.safe] s (stopBeat s)
  | loadBeat {s} : Effect [.safe] s (loadBeat s)
  | loseOwner {s} : Effect touchOwner s (loseOwner s)
  -- the management unit
  | pendingParams {s} (p : Params) : Effect [.mgmt] s (s.withMgmt { s.mgmt with pendingParams := p })
  | closeParams {s} (h : paramConflict s.mgmt.pendingParams s.safe.substitute s.map = none)
      (ho : s.mgmt.owner.isSome = true) (hs : s.mgmt.partState = .awaitParam) :
      Effect [.mgmt, .pins, .pictures] s (closeParams s)
  | enterAwaitParam {s} (hs : s.mgmt.partState = .awaitLayout ∨ s.mgmt.partState = .ready) :
      Effect [.mgmt, .pictures] s (enterPart .awaitParam s)
  | tune {s} (settle measure recheck : Word16) :
      Effect [.mgmt] s (s.withMgmt { s.mgmt with params := s.mgmt.params.tune settle measure recheck })
  | startChecking {s} (ho : s.mgmt.owner.isSome = true)
      (hs : s.mgmt.partState = .awaitLayout ∨ s.mgmt.partState = .awaitParam) :
      Effect touchChecking s (startChecking s)
  | answerExpires {s} (c : Checking) (h : s.mgmt.checking = some c) : Effect touchChecking s (answerExpires c s)
  | start {s} (ho : s.mgmt.owner.isSome = true) (hs : s.mgmt.partState = .ready) :
      Effect touchDuty s (startRegulating s)
  | stop {s} (ho : s.mgmt.owner.isSome = true) (hs : s.mgmt.partState = .regulating) :
      Effect touchDuty s (stopRegulating s)
  -- notices and pictures
  | clearLost {s} : Effect [.notices] s (s.withNotices { s.notices with lost := 0#16 })
  | removeNotices {s} : Effect [.notices, .pins] s (removeNotices s)
  | turn {s} : Effect [.pictures] s (s.withPictures s.pictures.turn)
  | reading {s} (j : ReadJob) : Effect [.mgmt] s (s.withMgmt { s.mgmt with reading := some j })
  -- the store, the reset and the clock
  | startSave {s} (r : Sender) : Effect [.mgmt] s (startSave r s)
  | saved {s} (j : SaveJob) (h : s.mgmt.saving = some j) :
      Effect [.mgmt, .store] s ((s.withStore (.written j.image)).withMgmt { s.mgmt with saving := none, imageHeld := true })
  | reset {s} (straps : BitVec 3) : Effect touchReset s (resetPart straps s)
  | resetDriven {s} : Effect [.pins, .mgmt, .store] s
      ((cutShort s).withPins { (cutShort s).pins with inReset := true, safeOut := false })
  | tick {s} : Effect [.partTime, .safe] s (tick s)

/-- What RESET driven active touches (R204). -/
def touchFreeze : List Block := [.pins, .mgmt, .store]

/-- The effects that stand apart: RESET driven active, a reset and the loss of the owner. -/
def touchApart : List (List Block) := [touchFreeze, touchReset, touchOwner]

/-- A row of effects, with none of those that stand apart. -/
inductive Effects (s : State) : State → Prop where
  | nil : Effects s s
  | snoc {T : List Block} {t u : State} (h : Effects s t) (k : Effect T t u) (hT : T ∉ touchApart := by decide) : Effects s u

namespace Effects

variable {s t u : State}

theorem one {T : List Block} (h : Effect T s t) (hT : T ∉ touchApart := by decide) : Effects s t := nil.snoc h hT

theorem trans (h : Effects s t) (k : Effects t u) : Effects s u := by
  induction k with
  | nil => exact h
  | snoc _ k hT ih => exact ih.snoc k hT

/-- What every effect keeps, a row of effects keeps. -/
theorem keeps {P : State → Prop} (hP : ∀ T s t, Effect T s t → T ∉ touchApart → P s → P t) (h : Effects s t) (hs : P s) :
    P t := by
  induction h with
  | nil => exact hs
  | snoc _ k hT ih => exact hP _ _ _ k hT ih

end Effects

theorem touches_judgeStore {T : List Block} {s t : State} (hT : touchNotices ⊆ T) (h : OnlyTouches T s t) :
    OnlyTouches T s (judgeStore t) := by
  unfold judgeStore
  split
  · exact touches_raiseNotice hT h _ _ _
  · exact h

theorem touches_cutShort {T : List Block} {s t : State} (hT : [.mgmt, .store] ⊆ T) (h : OnlyTouches T s t) :
    OnlyTouches T s (cutShort t) := by
  unfold cutShort
  split
  · exact touches_withMgmt (sub_mem hT (by decide)) (touches_withStore (sub_mem hT (by decide)) h _) _
  · exact h

theorem touches_resetBlocks (straps : BitVec 3) (s : State) : OnlyTouches touchReset s (resetBlocks straps s) where
  partTime h := absurd (by decide) h
  pins h := absurd (by decide) h
  link h := absurd (by decide) h
  channels h := absurd (by decide) h
  classifier h := absurd (by decide) h
  map h := absurd (by decide) h
  moves h := absurd (by decide) h
  regulator h := absurd (by decide) h
  guards h := absurd (by decide) h
  safe h := absurd (by decide) h
  mgmt h := absurd (by decide) h
  notices h := absurd (by decide) h
  pictures h := absurd (by decide) h
  store h := absurd (by decide) h
  keep h := absurd (by decide) h
  order _ := rfl
  pending _ := rfl

theorem touches_resetPart (straps : BitVec 3) (s : State) : OnlyTouches touchReset s (resetPart straps s) :=
  touches_judgeStore (by decide) ((touches_cutShort (by decide) (.refl _ s)).trans (touches_resetBlocks straps _))

theorem touches_configureGuard {s : State} (n : Fin 12) (f : GuardFields) :
    OnlyTouches touchGuards s (configureGuard n f s) := by
  unfold configureGuard
  refine touches_settleGuards (List.Subset.refl _) (touches_updGuard (List.Subset.refl _) ?_ _ _)
  split
  · exact touches_removeGuard (List.Subset.refl _) (.refl _ _) _ _
  · exact .refl _ _

theorem touches_collision {s : State} (p : Port) (i : Nat) (e : Entry) (attempts : Nat) :
    OnlyTouches touchCollision s (collideFrame p i e attempts s) := by
  unfold collideFrame
  split
  · exact touches_updPort (by decide) (.refl _ s) _ _
  · refine touches_interleave (by decide) (touches_updPort (by decide) (.refl _ s) _ _) ?_
    simp only [List.mem_cons, List.not_mem_nil, or_false, forall_eq_or_imp, forall_eq]
    exact ⟨fun _ h => touches_raiseNotice (by decide) h _ _ _, fun _ h => touches_takeEvent (by decide) h _,
      fun _ h => touches_reportLeft (by decide) h _ _⟩

theorem touches_startDuty (s : State) : OnlyTouches touchDuty s (startRegulating s) := by
  refine touches_interleave (by decide) (touches_withMgmt (by decide) (.refl _ s) _) ?_
  simp only [List.mem_cons, List.not_mem_nil, or_false, forall_eq_or_imp, forall_eq]
  exact ⟨fun _ h => touches_publish (by decide) h, fun _ h => touches_takeStart (by decide) h⟩

theorem touches_endDuty (s : State) : OnlyTouches touchDuty s (stopRegulating s) := by
  refine touches_interleave (by decide) (touches_withMgmt (by decide) (.refl _ s) _) ?_
  simp only [List.mem_cons, List.not_mem_nil, or_false, forall_eq_or_imp, forall_eq]
  exact ⟨fun _ h => touches_publish (by decide) h, fun _ h => touches_takeStop (by decide) h⟩

/-- An effect touches the blocks it lists, and no others. -/
theorem Effect.onlyTouches {T : List Block} {s t : State} (h : Effect T s t) : OnlyTouches T s t := by
  have sub (L : List Block) : L ⊆ L := List.Subset.refl L
  have same (L : List Block) (s : State) : OnlyTouches L s s := .refl L s
  cases h with
  | count => exact touches_updPort (sub _) (same _ _) _ _
  | learn => exact touches_learnSide (sub _) (same _ _) _ _
  | forward => exact touches_forwardFrame (sub _) (same _ _) _ _
  | choose => exact touches_updPort (sub _) (same _ _) _ _
  | resend => exact touches_updPort (sub _) (same _ _) _ _
  | sent => exact touches_sentFrame (sub _) (same _ _) _ _ _
  | collided => exact touches_collision _ _ _ _
  | clash => exact touches_stationClash (sub _) (same _ _) _
  | sample => exact touches_takeSample (sub _) (same _ _) _
  | drive => exact touches_takeDriveFrame (sub _) (same _ _) _
  | ident => exact touches_takeIdent (sub _) (same _ _) _
  | inbox => exact touches_withMgmt (by decide) (same _ _) _
  | claim => exact touches_withMgmt (by decide) (same _ _) _
  | reply => exact touches_readyReply (sub _) (same _ _) _
  | handOver => exact touches_handOver (sub _) (same _ _) _
  | order => exact touches_withOrder (by decide) (same _ _) _
  | notice => exact touches_raiseNotice (sub _) (same _ _) _ _ _
  | settle => exact touches_settleGuards (sub _) (same _ _)
  | channelExpires => exact touches_channelExpires (sub _) (same _ _) _
  | writeChannel => exact touches_writeChannel (sub _) (same _ _) _ _
  | restartChannels => exact touches_restartChannels (sub _) (same _ _) _
  | clearLatches => exact touches_withChannels (by decide) (same _ _) _
  | adopt => exact touches_adoptCandidate (sub _) (same _ _)
  | writeAxis => exact touches_writeAxis (sub _) (same _ _) _ _
  | bank => exact touches_withMap (by decide) (same _ _) _
  | copyBank => exact touches_withMap (by decide) (same _ _) _
  | activate => exact touches_withMap (by decide) (same _ _) _
  | keepTaken => exact touches_takeWaitingKeep (sub _) (same _ _)
  | acceptExpires => exact touches_acceptExpires (sub _) (same _ _) _
  | moveExpires => exact touches_enterFault (sub _) (same _ _) _ _
  | trackingExpires => exact touches_trackingExpires (sub _) (same _ _) _
  | repair => exact touches_repairMoves (sub _) (same _ _)
  | hold => exact touches_withMoves (by decide) (same _ _) _
  | releaseDeferred => exact touches_releaseDeferred (sub _) (same _ _) _
  | releaseOnce => exact touches_releaseDeferredOnce (sub _) (same _ _) _
  | relayout => exact touches_relayoutMoves (sub _) (same _ _) _
  | windowA => exact touches_windowAEnds (sub _) (same _ _)
  | windowB => exact touches_windowBEnds (sub _) (same _ _)
  | adjustTimer =>
    unfold Machine.adjustTimer
    split
    · exact touches_withRegulator (by decide) (same _ _) _
    · exact same _ _
  | retarget => exact touches_takeRetarget (sub _) (same _ _)
  | condition => exact touches_setCondition (sub _) (same _ _) _ _
  | slipTimer => exact touches_setSlipTimer (sub _) (same _ _) _ _
  | release => exact touches_releaseGuard (sub _) (same _ _) _ _
  | releaseNamed => exact touches_releaseNamed (sub _) (same _ _) _
  | configure => exact touches_configureGuard _ _
  | masks => exact touches_settleGuards (sub _) (touches_withGuards (by decide) (same _ _) _)
  | floor => exact touches_settleGuards (sub _) (touches_withGuards (by decide) (same _ _) _)
  | raiseOperator => exact touches_raiseOperator (sub _) (same _ _)
  | lines => exact touches_withPins (by decide) (same _ _) _
  | substitute => exact touches_withSafe (by decide) (same _ _) _
  | startBeat =>
    exact touches_withSafe (by decide) (touches_withSafe (by decide) (same _ _) _) _
  | stopBeat => exact touches_withSafe (by decide) (same _ _) _
  | loadBeat => exact touches_withSafe (by decide) (same _ _) _
  | loseOwner => exact touches_loseOwner (sub _) (same _ _)
  | pendingParams => exact touches_withMgmt (by decide) (same _ _) _
  | closeParams =>
    exact touches_enterPart (by decide) (touches_judgeAttn (by decide) (touches_withMgmt (by decide) (same _ _) _)) _
  | enterAwaitParam => exact touches_enterPart (sub _) (same _ _) _
  | tune => exact touches_withMgmt (by decide) (same _ _) _
  | startChecking => exact touches_startChecking (sub _) (same _ _)
  | answerExpires => exact touches_answerExpires (sub _) (same _ _) _
  | start => exact touches_startDuty _
  | stop => exact touches_endDuty _
  | clearLost => exact touches_withNotices (by decide) (same _ _) _
  | removeNotices => exact touches_judgeAttn (by decide) (touches_withNotices (by decide) (same _ _) _)
  | turn => exact touches_withPictures (by decide) (same _ _) _
  | reading => exact touches_withMgmt (by decide) (same _ _) _
  | startSave => exact touches_withMgmt (by decide) (same _ _) _
  | saved => exact touches_withMgmt (by decide) (touches_withStore (by decide) (same _ _) _) _
  | reset => exact touches_resetPart _ _
  | resetDriven => exact touches_withPins (by decide) (touches_cutShort (by decide) (same _ _)) _
  | tick => exact touches_withSafe (by decide) (touches_withPartTime (by decide) (same _ _) _) _

end Sys2Proof.Machine
end

section
/-! PROOF. Every command answers with a row of effects (O2), and so does every step: the tests of a request, the
destination handling of a frame, and the idle step taken apart once. -/

namespace Sys2Proof.Machine

variable {s t u : State} {r : Sender} {code : Nat} {mode : RequestMode} {column : PartState → Bool}
  {body : State → State} {c : Instr}

/-! ### Cells that fit -/

/-- A written cell fits the parameters; an unwritten one does (R69). -/
def optionFits (p : Params) : Option CellRecord → Bool
  | some c => cellFits p c
  | none => true

theorem bankFits_iff {p : Params} {b : Bank} : bankFits p b = true ↔ ∀ o ∈ b.cells.list, optionFits p o = true := by
  rw [bankFits, List.all_eq_true]
  rfl

theorem Table.mem_mapFrom {α β : Type} {f : Nat → α → β} {y : β} : ∀ {k : Nat} {l : List α},
    y ∈ Table.mapFrom f k l → ∃ j, ∃ a ∈ l, y = f j a := by
  intro k l
  induction l generalizing k with
  | nil => intro h; cases h
  | cons x xs ih =>
    intro h
    rcases List.mem_cons.mp h with rfl | h
    · exact ⟨k, x, List.mem_cons_self, rfl⟩
    · obtain ⟨j, a, ha, hy⟩ := ih h
      exact ⟨j, a, List.mem_cons_of_mem _ ha, hy⟩

theorem Table.mem_put {α : Type} {n k : Nat} {tb : Table α n} {a x : α} (h : x ∈ (tb.put k a).list) :
    x ∈ tb.list ∨ x = a := by
  unfold Table.put at h
  split at h
  · exact List.mem_or_eq_of_mem_set h
  · exact .inl h

/-- A change that touches no cell. -/
theorem writesFitting_of_cells {p : Params} {f : Bank → Bank} (h : ∀ b, (f b).cells = b.cells) : WritesFitting p f := by
  intro b hb
  rw [bankFits, h]
  exact hb

/-- The cell that fields in range give fits (R77). -/
theorem cellFits_cellOfFields {f : CellFields} (h : cellFieldsBad f s = false) :
    cellFits s.mgmt.params (cellOfFields f) = true := by
  simp only [cellFieldsBad, Bool.or_eq_false_iff, List.any_eq_false] at h
  obtain ⟨⟨⟨hl, -⟩, -⟩, -⟩ := h
  refine List.all_eq_true.mpr fun st hst => ?_
  have hin := hl st hst
  rw [Bool.not_eq_true, Bool.not_eq_false'] at hin
  simp [cellOfFields, CellRecord.trimOffset, hin]

theorem writesFitting_writeCell {f : CellFields} (n : Nat) (h : cellFieldsBad f s = false) :
    WritesFitting s.mgmt.params (writeCell n f) := by
  intro b hb
  rw [bankFits_iff] at hb ⊢
  intro o ho
  rcases Table.mem_put ho with ho | rfl
  · exact hb o ho
  · exact cellFits_cellOfFields h

theorem writesFitting_fillCells {block : BandBlock} {f : CellFields} (h : cellFieldsBad f s = false) :
    WritesFitting s.mgmt.params (fillCells block f) := by
  intro b hb
  rw [bankFits_iff] at hb ⊢
  intro o ho
  obtain ⟨j, a, ha, rfl⟩ := Table.mem_mapFrom ho
  split
  · exact cellFits_cellOfFields h
  · exact hb a ha

theorem optionFits_dropTrim {p : Params} {o : Option CellRecord} (h : optionFits p o = true) :
    optionFits p (dropTrim o) = true := by
  cases o with
  | none => rfl
  | some x =>
    refine List.all_eq_true.mpr fun st hst => ?_
    have := List.all_eq_true.mp h st hst
    rw [Bool.and_eq_true] at this
    simp [CellRecord.trimOffset, this.1]

theorem writesFitting_clearTrims {p : Params} (which : Option Nat) : WritesFitting p (fun b => b.clearTrims which) := by
  intro b hb
  rw [bankFits_iff] at hb ⊢
  intro o ho
  obtain ⟨j, a, ha, rfl⟩ := Table.mem_mapFrom ho
  split
  · exact optionFits_dropTrim (hb a ha)
  · exact hb a ha

theorem writesFitting_blank {p : Params} : WritesFitting p (fun _ => blankBank) := by
  intro b _
  rw [bankFits_iff]
  intro o ho
  rw [List.eq_of_mem_replicate (n := 120) ho]
  rfl

/-! ### Rows of effects -/

/-- The owner test lets a request pass unchanged, or makes its sender the owner (R181 test 3, R182). -/
theorem ownerTest_eq_some (h : ownerTest mode r t = some u) :
    (u = t ∧ (mode = .read ∨ t.mgmt.owner = some r.station)) ∨
    (t.mgmt.owner = none ∧ t.mgmt.partState = .awaitParam ∧
      u = t.withMgmt { t.mgmt with owner := some r.station }) := by
  cases mode <;> cases ho : t.mgmt.owner <;> simp only [ownerTest, ho, Option.ite_none_right_eq_some,
    Option.some.injEq, reduceCtorEq] at h
  case read.none => exact .inl ⟨h.symm, .inl rfl⟩
  case read.some => exact .inl ⟨h.symm, .inl rfl⟩
  case modifying.none => exact .inr ⟨rfl, h.1, h.2.symm⟩
  case modifying.some => exact .inl ⟨h.2.symm, .inr (congrArg some h.1)⟩
  case noClaim.some => exact .inl ⟨h.2.symm, .inr (congrArg some h.1)⟩

namespace Effects

/-- Handings that extend a row of effects, in any order. -/
theorem interleave {chains : List (List Handing)} (h : Effects s t)
    (keep : ∀ c ∈ chains, ∀ g ∈ c, ∀ t, Effects s t → Effects s (g t)) : Effects s (interleave chains t) :=
  interleave_keeps (Effects s) chains t (fun _ => h.snoc (.order _)) keep

/-- Two handings that extend a row of effects. -/
theorem interleave_pair {a b : Handing} (h : Effects s t) (ha : ∀ t, Effects s t → Effects s (a t))
    (hb : ∀ t, Effects s t → Effects s (b t)) : Effects s (Machine.interleave [[a], [b]] t) := by
  refine h.interleave fun c hc g hg => ?_
  simp only [List.mem_cons, List.not_mem_nil, or_false] at hc
  rcases hc with rfl | rfl <;> (obtain rfl := List.mem_singleton.mp hg; assumption)

theorem foldl {α : Type} {f : State → α → State} (l : List α) (h : Effects s t)
    (keep : ∀ a t, Effects s t → Effects s (f t a)) : Effects s (l.foldl f t) := by
  induction l generalizing t with
  | nil => exact h
  | cons a as ih => exact ih (keep a t h)

theorem answer (h : Effects s t) (r : Sender) (code : Nat) (result : Result) (fields : List Byte) :
    Effects s (answer r code result fields t) := h.snoc (.reply _)

theorem settleWaiting (h : Effects s t) : Effects s (settleWaiting t) := by
  unfold Machine.settleWaiting
  split
  · exact h
  · exact h.snoc .settle

theorem takeRequest (h : Effects s t) (c : Instr) : Effects s (takeRequest c t) := by
  refine Effects.snoc (t := settleBefore c t) ?_ (.inbox _)
  unfold settleBefore
  split
  · exact h
  · exact h.settleWaiting

/-! ### Requests -/

/-- A request served: a row of effects, which ends in its body where the tests of R181 have passed. -/
theorem serve_cases (c : Instr) (r : Sender) (code : Nat) (mode : RequestMode) (column : PartState → Bool)
    (body : State → State) (s : State) : Effects s (serve c r code mode column body s) ∨
    ∃ u, Effects s u ∧ (mode = .read ∨ u.mgmt.owner = some r.station) ∧ column u.mgmt.partState = true ∧
      Machine.serve c r code mode column body s = body u := by
  unfold Machine.serve judgeRequest
  have htaken : Effects s (Machine.takeRequest c s) := nil.takeRequest c
  dsimp only
  generalize Machine.takeRequest c s = t at htaken ⊢
  split
  · exact .inl (htaken.answer _ _ _ _)
  · cases htest : ownerTest mode r t with
    | none => exact .inl (htaken.answer _ _ _ _)
    | some u =>
      obtain ⟨hu, hpassed⟩ : Effects s u ∧ (mode = .read ∨ u.mgmt.owner = some r.station) := by
        rcases ownerTest_eq_some htest with ⟨rfl, hpassed⟩ | ⟨hnone, hstate, rfl⟩
        · exact ⟨htaken, hpassed⟩
        · exact ⟨htaken.snoc (.claim _ hstate hnone), .inr rfl⟩
      dsimp only
      split
      · rename_i hcolumn
        exact .inr ⟨u, hu, hpassed, hcolumn, rfl⟩
      · exact .inl (hu.answer _ _ _ _)

/-- A request served, whose body is a row of effects. -/
theorem serve (hbody : ∀ t, (mode = .read ∨ t.mgmt.owner = some r.station) → column t.mgmt.partState = true →
    Effects t (body t)) : Effects s (serve c r code mode column body s) := by
  rcases serve_cases c r code mode column body s with h | ⟨u, hu, hpassed, hcolumn, heq⟩
  · exact h
  · exact heq ▸ hu.trans (hbody u hpassed hcolumn)

theorem serveUnknown : Effects s (serveUnknown c r code s) := (nil.takeRequest c).answer _ _ _ _

theorem refuseOr {bad : Option Result} {effect : State → State} (h : bad = none → Effects s (effect s)) :
    Effects s (refuseOr r code bad effect s) := by
  cases bad with
  | none => exact (h rfl).answer _ _ _ _
  | some e => exact nil.answer _ _ _ _

theorem refuseWithOr {bad : Option (Result × List Byte)} {effect : State → State}
    (h : bad = none → Effects s (effect s)) : Effects s (refuseWithOr r code bad effect s) := by
  cases bad with
  | none => exact (h rfl).answer _ _ _ _
  | some e => exact nil.answer _ _ _ _

/-! ### Frames -/

theorem consumeFrame (p : Port) (f : Frame) : Effects s (consumeFrame p f s) := by
  unfold Machine.consumeFrame
  split
  · exact one (.sample f)
  · exact one (.drive f)
  · exact one (.drive f)
  · exact one (.drive f)
  · exact one (.ident f)
  · unfold handRequest
    split
    · exact nil
    · split
      · exact one (.inbox _)
      · exact nil
  all_goals exact nil

theorem routeFrame (p : Port) (f : Frame) : Effects s (routeFrame p f s) := by
  unfold Machine.routeFrame routeBroadcast routeOther
  have filtered : CountsOnly PortState.countFiltered := fun _ => ⟨rfl, rfl⟩
  split
  · exact consumeFrame p f
  · split
    · split
      · split
        · exact nil.interleave_pair (fun _ h => h.snoc (.count p _ filtered)) (fun _ h => h.snoc (.sample f))
        · exact nil.interleave_pair (fun _ h => h.snoc (.forward p f)) (fun _ h => h.snoc (.sample f))
      · exact one (.forward p f)
    · split
      · exact one (.count p _ filtered)
      · exact one (.forward p f)

theorem receiveFrame (p : Port) (bytes : List Byte) (err : Bool) : Effects s (receiveFrame p bytes err s) := by
  unfold Machine.receiveFrame takeGoodFrame
  split
  · exact one (.count p _ fun _ => ⟨rfl, rfl⟩)
  · have hgood : Effects s (updPort p PortState.countGood s) := one (.count p _ fun _ => ⟨rfl, rfl⟩)
    split
    · exact hgood.snoc (.clash p)
    · exact (hgood.snoc (.learn _ p)).trans (routeFrame p _)

/-! ### The cycle and the map -/

theorem expireIfDue : Effects s (expireIfDue s) := by
  unfold Machine.expireIfDue
  split
  · rename_i w timer hw
    split
    · unfold windowEnds
      cases w with
      | a => rw [hw]; exact one (.windowA timer hw)
      | b => rw [hw]; exact one (.windowB timer hw)
    · exact nil
  · exact nil

theorem bankWrite {bank : Byte} {bad : State → Bool} {effect : BankId → State → State}
    (h : ∀ k, bad s = false → Effects s (effect k s)) : Effects s (bankWrite r code bank bad effect s) := by
  unfold Machine.bankWrite
  split
  · exact nil.answer _ _ _ _
  · rename_i k _
    refine refuseOr fun hbad => h k ?_
    split at hbad
    · cases hbad
    · simpa [badWhen] using hbad

theorem clearTrims (banks : List BankId) (which : Option Nat) : Effects s (clearTrims banks which s) := by
  unfold Machine.clearTrims takeTrimsCleared
  have hcleared : Effects s (banks.foldl (fun t k => updBank k (fun b => b.clearTrims which) t) s) :=
    nil.foldl banks fun k _ h => h.snoc (.bank k _ (writesFitting_clearTrims which))
  dsimp only
  split
  · split
    · exact hcleared.snoc .retarget
    · exact hcleared
  · exact hcleared

theorem switchBanks : Effects s (switchBanks s) := ((one (.activate _)).snoc .retarget).snoc (.notice _ _ _)

theorem resetErrors : Effects s (resetErrors s) := by
  have clears : CountsOnly PortState.clearCounters := fun _ => ⟨rfl, rfl⟩
  exact ((((one .clearLatches).snoc (.count .s _ clears)).snoc (.count .m _ clears)).snoc .clearLost).snoc .repair

end Effects

/-! ### Every command -/

theorem badWhen_eq_none {bad : Bool} : badWhen bad = none ↔ bad = false := by cases bad <;> simp [badWhen]

/-- The fields AXIS WRITE accepts fit their axis (R49, R52). -/
theorem axisFits_of_fields {axis : Byte} {a : Axis} {hysteresis : Word16} {defaultBand : Byte} {words ts : List Word16}
    (ha : Axis.ofNum axis.toNat = some a) (hts : wordsAsked (axisWords axis) words = some ts)
    (hbad : axisFieldsBad a hysteresis defaultBand ts = false) : axisFits a ⟨ts, hysteresis, defaultBand.toNat⟩ = true := by
  rw [axisWords_of_some ha] at hts
  have hlength : ts.length = a.highest := by
    unfold wordsAsked at hts
    split at hts
    · cases hts
    · obtain rfl := Option.some.inj hts
      rw [List.length_take]
      omega
  simp only [axisFieldsBad, Bool.or_eq_false_iff, decide_eq_false_iff_not, Nat.not_lt] at hbad
  simp [axisFits, hlength, hbad.1.2]

/-- What most commands come to: nothing, or a row of effects of a part that works. -/
def Runs (s t : State) : Prop := t = s ∨ s.works ∧ Effects s t

/-- What a command comes to. -/
inductive Comes : State → State → Prop where
  | runs {s t : State} (h : Runs s t) : Comes s t
  | lost {s u t : State} (hworks : s.works) (h : Effects s u) (k : Effects (loseOwner u) t)
      (hmgmt : t.mgmt = (loseOwner u).mgmt) : Comes s t
  | reset {s : State} (straps : BitVec 3) : Comes s (resetPart straps s)
  | frozen {s t : State} (hworks : s.works) (h : Effect touchFreeze s t) : Comes s t

/-- A command runs only while the part works. -/
theorem live_effects {f : State → State} (h : Effects s (f s)) : ∃ t, live f s = .next t ∧ Runs s t := by
  unfold live
  split
  · exact ⟨_, rfl, .inl rfl⟩
  · exact ⟨_, rfl, .inr ⟨Bool.eq_false_iff.mpr ‹_›, h⟩⟩

/-- A served request answers with a row of effects. -/
theorem live_serve_effects (hbody : ∀ t, (mode = .read ∨ t.mgmt.owner = some r.station) →
    column t.mgmt.partState = true → Effects t (body t)) :
    ∃ t, live (serve c r code mode column body) s = .next t ∧ Runs s t := live_effects (.serve hbody)

/-- A command that takes its sender's ownership away, or the heartbeat's expiry. -/
theorem live_comes {f : State → State} (h : s.works → Comes s (f s)) : ∃ t, live f s = .next t ∧ Comes s t := by
  unfold live
  split
  · exact ⟨_, rfl, .runs (.inl rfl)⟩
  · exact ⟨_, rfl, h (Bool.eq_false_iff.mpr ‹_›)⟩

theorem comes_beatExpires (hworks : s.works) : Comes s (beatExpires s) := by
  have hstart : Effects s ((stopBeat s).withOrder (stopBeat s).order.tail) := (Effects.one .stopBeat).snoc (.order _)
  unfold beatExpires
  rcases interleave_pair (raiseNotice .beatExpired (s.mgmt.owner.getD 0#8).toNat (BitVec.ofNat 16 s.mgmt.params.beatInterval))
    loseOwner (stopBeat s) with h | h
  · exact h ▸ .lost hworks (hstart.snoc (.notice _ _ _)) .nil rfl
  · exact h ▸ .lost hworks hstart (Effects.nil.snoc (.notice _ _ _))
      ((touches_raiseNotice (T := touchNotices) (by decide) (.refl _ _) _ _ _).mgmt (by decide))

theorem comes_releaseOwner (hworks : s.works) : Comes s (serve (.releaseOwner r) r 43 .noClaim anyState
    (fun t => loseOwner (answer r 43 .done [] t)) s) := by
  rcases Effects.serve_cases (.releaseOwner r) r 43 .noClaim anyState (fun t => loseOwner (answer r 43 .done [] t)) s
    with h | ⟨u, hu, -, -, heq⟩
  · exact .runs (.inr ⟨hworks, h⟩)
  · exact heq ▸ .lost hworks (hu.answer _ _ _ _) .nil rfl

theorem owner_isSome {o : Byte} (h : mode = .read ∨ t.mgmt.owner = some o) (hm : mode ≠ .read) :
    t.mgmt.owner.isSome = true := by
  rw [h.resolve_left hm]
  rfl

end Sys2Proof.Machine
end

section
/-! PROOF. The commands one by one, each as a row of effects; every command answers with a next state (O2), and what
every effect keeps, every step keeps. -/

namespace Sys2Proof.Machine

variable {s t : State}

open Effects

/-- The commands that do not take the owner away, nor reset or stop the part. -/
def ordinary : Instr → Bool
  | .heartbeatExpiry => false
  | .releaseOwner _ => false
  | .powerOnReset _ => false
  | .restartAct _ => false
  | .resetDrivenActive => false
  | _ => true

/-- What every ordinary command comes to. -/
theorem exec_runs {c : Instr} (hc : ordinary c = true) (s : State) : ∃ t, exec c s = .next t ∧ Runs s t := by
  cases c with
  | frameEnd p bytes err =>
    unfold exec execFrameEnd
    refine live_effects (s := s) ?_
    split
    · exact nil
    · exact .receiveFrame p bytes err
  | txChoose p _ =>
    refine live_effects (s := s) ?_
    split
    · exact one (.choose p)
    · exact nil
  | txSuccess p =>
    unfold exec execTxSuccess
    refine live_effects (s := s) ?_
    split
    · rename_i i n ht
      split
      · rename_i e he; exact one (.sent p i n e ht he)
      · exact nil
    · exact nil
  | txCollision p =>
    unfold exec execTxCollision
    refine live_effects (s := s) ?_
    split
    · rename_i i n ht
      split
      · rename_i e he; exact one (.collided p i n e ht he)
      · exact nil
    · exact nil
  | backoffEnd p _ =>
    refine live_effects (s := s) ?_
    split
    · exact one (.resend p)
    · exact nil
  | replyHandover p => exact live_effects (s := s) (f := fun t => handOver p (settleWaiting t)) (nil.settleWaiting.snoc (.handOver p))
  | channelWindowExpiry i =>
    refine live_effects (s := s) ?_
    split
    · exact one (.channelExpires i)
    · exact nil
  | dwellExpiry =>
    refine live_effects (s := s) ?_
    split
    · exact one .adopt
    · exact nil
  | acceptTimerExpiry st =>
    refine live_effects (s := s) ?_
    split
    · rename_i h
      exact one (.acceptExpires st (of_decide_eq_true (Bool.and_eq_true_iff.mp h).1))
    · exact nil
  | moveTimerExpiry st =>
    refine live_effects (s := s) ?_
    split
    · exact one (.moveExpires st)
    · exact nil
  | driveTrackingExpiry st =>
    refine live_effects (s := s) ?_
    split
    · exact one (.trackingExpires st)
    · exact nil
  | windowAExpiry =>
    refine live_effects (s := s) ?_
    split
    · rename_i h
      unfold State.windowDue at h
      split at h
      · rename_i w timer hw
        obtain rfl : w = .a := of_decide_eq_true (Bool.and_eq_true_iff.mp h).1
        exact one (.windowA timer hw)
      · cases h
    · exact nil
  | windowBExpiry =>
    refine live_effects (s := s) ?_
    split
    · rename_i h
      unfold State.windowDue at h
      split at h
      · rename_i w timer hw
        obtain rfl : w = .b := of_decide_eq_true (Bool.and_eq_true_iff.mp h).1
        exact one (.windowB timer hw)
      · cases h
    · exact nil
  | slipDwellExpiry w =>
    refine live_effects (s := s) ?_
    split
    · exact (one (.slipTimer w none)).snoc (.condition _ _)
    · exact nil
  | clearDwellExpiry n =>
    refine live_effects (s := s) ?_
    split
    · exact one (.release n 2)
    · exact nil
  | lineLevelSettled line high =>
    refine live_effects (s := s) ?_
    cases line
    · exact (one (.lines (some high) s.pins.sepOn)).snoc (.condition _ _)
    · exact (one (.lines s.pins.hdrDown (some high))).snoc (.condition _ _)
  | answerTimerExpiry =>
    unfold exec execAnswerTimerExpiry
    refine live_effects (s := s) ?_
    split
    · rename_i c hc
      split
      · exact one (.answerExpires c hc)
      · exact nil
    · exact nil
  | saveWriteEnd =>
    unfold exec execSaveWriteEnd
    refine live_effects (s := s) ?_
    split
    · rename_i j hj; exact (one (.saved j hj)).answer _ _ _ _
    · exact nil
  | unknownRequest r code fields => exact live_effects (s := s) .serveUnknown
  | channelRead r index view =>
    refine live_serve_effects fun t _ _ => ?_
    unfold readChannel
    split <;> exact nil.answer _ _ _ _
  | channelWrite r index f =>
    refine live_serve_effects fun t _ _ => ?_
    unfold bodyChannelWrite
    split
    · rename_i hi
      split
      · exact nil.answer _ _ _ _
      · rename_i d _
        refine .refuseOr fun h => one (.writeChannel ⟨_, hi⟩ d ?_)
        split at h
        · cases h
        · rename_i hb; exact Bool.not_eq_true _ ▸ hb
    · exact nil.answer _ _ _ _
  | errorReset r => exact live_serve_effects fun t _ _ => .refuseOr fun _ => .resetErrors
  | channelRestart r index => exact live_serve_effects fun t _ _ => .refuseOr fun _ => one (.restartChannels _)
  | axisWrite r axis hysteresis defaultBand words =>
    unfold exec execAxisWrite
    refine live_effects (s := s) ?_
    split
    · rename_i ts hts
      refine .serve fun t _ _ => ?_
      unfold bodyAxisWrite
      split
      · exact nil.answer _ _ _ _
      · rename_i a ha
        exact .refuseOr fun h => one (.writeAxis a _ (axisFits_of_fields ha hts (badWhen_eq_none.mp h)))
    · exact .serveUnknown
  | classRead r view axis =>
    refine live_serve_effects fun t _ _ => ?_
    unfold readClass
    split <;> exact nil.answer _ _ _ _
  | cellWrite r bank cell f =>
    exact live_serve_effects fun t _ _ => .bankWrite fun k h =>
      one (.bank k _ (writesFitting_writeCell _ (Bool.or_eq_false_iff.mp h).2))
  | cellFill r bank block f =>
    exact live_serve_effects fun t _ _ => .bankWrite fun k h =>
      one (.bank k _ (writesFitting_fillCells (Bool.or_eq_false_iff.mp h).2))
  | planWrite r bank count words =>
    unfold exec execPlanWrite
    refine live_effects (s := s) ?_
    split
    · exact .serve fun t _ _ => .bankWrite fun k _ => one (.bank k _ (writesFitting_of_cells fun _ => rfl))
    · exact .serveUnknown
  | sidetrimWrite r bank offsets =>
    exact live_serve_effects fun t _ _ => .bankWrite fun k _ =>
      one (.bank k _ (writesFitting_of_cells fun _ => rfl))
  | headerWrite r bank label llim tlim =>
    exact live_serve_effects fun t _ _ => .bankWrite fun k _ =>
      one (.bank k _ (writesFitting_of_cells fun _ => rfl))
  | cellRead r bank cell view side =>
    refine live_serve_effects fun t _ _ => ?_
    unfold bodyCellRead readCell
    repeat' split
    all_goals exact nil.answer _ _ _ _
  | bankRead r bank view =>
    refine live_serve_effects fun t _ _ => ?_
    unfold readBank
    split <;> exact nil.answer _ _ _ _
  | bankClear r bank =>
    refine live_serve_effects fun t _ _ => ?_
    unfold bodyBankClear
    split
    · exact nil.answer _ _ _ _
    · exact .refuseOr fun _ => one (.bank _ _ writesFitting_blank)
  | bankCopy r => exact live_serve_effects fun t _ _ => .refuseOr fun _ => one .copyBank
  | switchBank r => exact live_serve_effects fun t _ _ => .refuseOr fun _ => .switchBanks
  | clearTrims r bank cell => exact live_serve_effects fun t _ _ => .refuseOr fun _ => .clearTrims _ _
  | holdAdjust r mask => exact live_serve_effects fun t _ _ => .refuseOr fun _ => one (.hold mask true)
  | releaseAdjust r mask =>
    exact live_serve_effects fun t _ _ => .refuseOr fun _ =>
      (one (.hold mask false)).foldl _ fun st _ h => h.snoc (.releaseDeferred st)
  | releaseOnce r mask =>
    exact live_serve_effects fun t _ _ => .refuseOr fun _ =>
      nil.foldl _ fun st _ h => h.snoc (.releaseOnce st)
  | moveRead r setting =>
    refine live_serve_effects fun t _ _ => ?_
    unfold readMove
    split <;> exact nil.answer _ _ _ _
  | tuneWindows r settle measure recheck =>
    exact live_serve_effects fun t _ _ => .refuseOr fun _ =>
      Effects.settleWaiting (((one (.tune settle measure recheck)).snoc .adjustTimer).trans Effects.expireIfDue)
  | regulatorRead r => exact live_serve_effects fun t _ _ => nil.answer _ _ _ _
  | guardConfig r source f =>
    refine live_serve_effects fun t _ _ => ?_
    unfold bodyGuardConfig
    split
    · exact nil.answer _ _ _ _
    · exact .refuseOr fun h => one (.configure _ f (badWhen_eq_none.mp h))
  | guardMask r mask => exact live_serve_effects fun t _ _ => .refuseOr fun _ => one (.masks mask)
  | guardFloor r floor =>
    refine live_serve_effects fun t _ _ => .refuseOr fun h => one (.floor _ ?_)
    have hbad := badWhen_eq_none.mp h
    simp only [Bool.or_eq_false_iff, decide_eq_false_iff_not] at hbad
    have : floor.toNat ≠ 0 := fun h0 => hbad.1 (BitVec.eq_of_toNat_eq h0)
    omega
  | guardRelease r source =>
    refine live_serve_effects fun t _ _ => ?_
    unfold bodyGuardRelease
    split
    · exact .refuseOr fun _ => one (.releaseNamed _)
    · split
      · split
        · exact .refuseOr fun _ => one (.release _ _)
        · exact nil.answer _ _ _ _
      · exact nil.answer _ _ _ _
  | guardRaise r => exact live_serve_effects fun t _ _ => .refuseOr fun _ => one .raiseOperator
  | guardPeek r view source =>
    refine live_serve_effects fun t _ _ => ?_
    unfold peekGuards
    split <;> exact nil.answer _ _ _ _
  | substituteWrite r mask values =>
    refine live_serve_effects fun t _ _ => .refuseOr fun h => one (.substitute mask values ?_)
    split at h
    · cases h
    · exact badWhen_eq_none.mp h
  | beatEnable r =>
    exact live_serve_effects fun t ho _ => .refuseOr fun _ => one (.startBeat (owner_isSome ho (by decide)))
  | beatDisable r => exact live_serve_effects fun t _ _ => .refuseOr fun _ => one .stopBeat
  | beat r =>
    unfold exec execBeat
    refine live_effects (s := s) ?_
    unfold judgeRequest
    have htaken : Effects s (Machine.takeRequest (.beat r) s) := nil.takeRequest _
    split
    · exact htaken.answer _ _ _ _
    · rename_i u hu
      rcases ownerTest_eq_some hu with ⟨rfl, -⟩ | ⟨hn, -, -⟩
      · refine htaken.trans ?_
        split
        · refine Effects.refuseOr fun _ => ?_
          unfold takeBeat
          split
          · exact one .loadBeat
          · exact nil
        · exact nil.answer _ _ _ _
      · simp [ownerTest, hn] at hu
  | substituteRead r => exact live_serve_effects fun t _ _ => nil.answer _ _ _ _
  | paramWrite r item value => exact live_serve_effects fun t _ _ => .refuseOr fun _ => one (.pendingParams _)
  | paramClose r =>
    refine live_serve_effects fun t ho hs => .refuseWithOr fun h => one (.closeParams ?_ (owner_isSome ho (by decide))
      (of_decide_eq_true hs))
    exact Option.map_eq_none_iff.mp h
  | paramOpen r =>
    refine live_serve_effects fun t ho hs => .refuseOr fun _ => (one (.pendingParams _)).snoc (.enterAwaitParam ?_)
    revert hs
    rw [State.withMgmt_mgmt]
    cases t.mgmt.partState <;> simp [inLayoutOrReady]
  | paramRead r view item =>
    refine live_serve_effects fun t _ _ => ?_
    unfold readParam
    split <;> exact nil.answer _ _ _ _
  | layoutWrite r pairs => exact live_serve_effects fun t _ _ => .refuseOr fun _ => one (.relayout _)
  | layoutClose r =>
    exact live_serve_effects fun t ho hs => .refuseWithOr fun _ =>
      one (.startChecking (owner_isSome ho (by decide)) (.inl (of_decide_eq_true hs)))
  | start r =>
    exact live_serve_effects fun t ho hs => .refuseWithOr fun _ =>
      one (.start (owner_isSome ho (by decide)) (of_decide_eq_true hs))
  | stop r =>
    exact live_serve_effects fun t ho hs => .refuseOr fun _ =>
      one (.stop (owner_isSome ho (by decide)) (of_decide_eq_true hs))
  | fetchNotices r => exact live_serve_effects fun t _ _ => (one .removeNotices).answer _ _ _ _
  | pictureRead r => exact live_serve_effects fun t _ _ => ((one .turn).snoc (.reading _)).snoc (.reply _)
  | countersRead r => exact live_serve_effects fun t _ _ => nil.answer _ _ _ _
  | save r => exact live_serve_effects fun t _ _ => one (.startSave r)
  | restart r => exact live_serve_effects fun t _ _ => one (.reply _)
  | resume r =>
    exact live_serve_effects fun t ho hs => .refuseWithOr fun _ =>
      (one (.pendingParams _)).snoc (.startChecking (owner_isSome ho (by decide)) (.inr (of_decide_eq_true hs)))
  | _ => exact nomatch hc

/-- What every command comes to. -/
theorem exec_effects (c : Instr) (s : State) : ∃ t, exec c s = .next t ∧ Comes s t := by
  by_cases hc : ordinary c = true
  · obtain ⟨t, ht, h⟩ := exec_runs hc s
    exact ⟨t, ht, .runs h⟩
  cases c with
  | heartbeatExpiry =>
    refine live_comes (s := s) fun hworks => ?_
    split
    · exact comes_beatExpires hworks
    · exact .runs (.inl rfl)
  | releaseOwner r => exact live_comes comes_releaseOwner
  | powerOnReset straps => exact ⟨_, rfl, .reset straps⟩
  | restartAct straps =>
    refine live_comes (s := s) fun _ => ?_
    split
    · exact .reset straps
    · exact .runs (.inl rfl)
  | resetDrivenActive =>
    unfold exec execResetDrivenActive
    exact live_comes fun hworks => .frozen hworks .resetDriven
  | _ => exact absurd rfl hc

/-- What the idle step comes to, after which the queue may be another (log 2). -/
theorem idle_effects (s : State) : ∃ t, Comes s t ∧ (idle s = t ∨ ∃ l, idle s = t.withPending l) := by
  unfold idle
  split
  · exact ⟨s, .runs (.inl rfl), .inl rfl⟩
  have hworks : s.works := Bool.eq_false_iff.mpr ‹_›
  split
  · exact ⟨_, .runs (.inr ⟨hworks, one .keepTaken⟩), .inl rfl⟩
  split
  · exact ⟨_, .runs (.inr ⟨hworks, one .settle⟩), .inl rfl⟩
  split
  · exact ⟨_, .runs (.inr ⟨hworks, one .tick⟩), .inl rfl⟩
  · exact ⟨_, .runs (.inr ⟨hworks, (one (.inbox [])).snoc (.order s.agenda.2)⟩), .inr ⟨s.agenda.1, rfl⟩⟩

/-- What every command keeps and what does not read the queue, every step keeps. -/
theorem step_keeps_comes {P : State → Prop} (hpending : ∀ s l, P s → P (s.withPending l))
    (hcomes : ∀ s t, Comes s t → P s → P t) (hs : P s) (h : step s = .next t) : P t := by
  unfold step at h
  split at h
  · rename_i c rest _
    obtain ⟨u, hu, hc⟩ := exec_effects c (s.withPending rest)
    rw [hu] at h
    obtain rfl := Host.Outcome.next.inj h
    exact hcomes _ _ hc (hpending s rest hs)
  · obtain rfl := Host.Outcome.next.inj h
    obtain ⟨u, hc, hu | ⟨l, hu⟩⟩ := idle_effects s
    · exact hu ▸ hcomes _ _ hc hs
    · exact hu ▸ hpending u l (hcomes _ _ hc hs)

theorem Runs.keeps {P : State → Prop} (heffect : ∀ T s t, Effect T s t → T ∉ touchApart → P s → P t) (h : Runs s t)
    (hs : P s) : P t := by
  rcases h with rfl | ⟨-, h⟩
  · exact hs
  · exact h.keeps heffect hs

/-- What every effect keeps, a command keeps. -/
theorem Comes.keeps {P : State → Prop} (heffect : ∀ T s t, Effect T s t → P s → P t) (h : Comes s t) (hs : P s) :
    P t := by
  cases h with
  | runs h => exact h.keeps (fun T s t k _ => heffect T s t k) hs
  | lost _ h k _ =>
    exact k.keeps (fun T s t k _ => heffect T s t k) (heffect _ _ _ .loseOwner (h.keeps (fun T s t k _ => heffect T s t k) hs))
  | reset straps => exact heffect _ _ _ (.reset straps) hs
  | frozen _ h => exact heffect _ _ _ h hs

/-- What every effect keeps and what does not read the queue, every step keeps. -/
theorem step_keeps {P : State → Prop} (hpending : ∀ s l, P s → P (s.withPending l))
    (heffect : ∀ T s t, Effect T s t → P s → P t) (hs : P s) (h : step s = .next t) : P t :=
  step_keeps_comes hpending (fun _ _ hc => hc.keeps heffect) hs h

/-- No effect changes the queue of commands. -/
theorem Effect.pending {T : List Block} (h : Effect T s t) : t.pending = s.pending := by
  have hT : Block.pending ∉ T := by cases h <;> decide
  exact h.onlyTouches.pending hT

/-- Settles O2: a command is a row of effects, and none of them changes the queue. -/
theorem everyCommandAnswersNext : Obligations.EveryCommandAnswersNext := by
  intro c s
  obtain ⟨t, ht, he⟩ := exec_effects c s
  exact ⟨t, ht, he.keeps (P := fun u => u.pending = s.pending) (fun _ _ _ h hu => h.pending.trans hu) rfl⟩

/-- Settles O1: the queue's front command runs on the queue's rest, by the definition of the step. -/
theorem stepRunsTheFrontCommand : Obligations.StepRunsTheFrontCommand := by
  intro c rest s h
  rw [step, h]

end Sys2Proof.Machine
end

section
/-! PROOF. The management unit's fields the invariants read, and what leaves them; the owner's invariant (O7). -/

namespace Sys2Proof.Machine

variable {s t u : State}

/-! ### What replies leave of the management unit -/

/-- The fields of the management unit that replies and the list of requests leave. -/
structure SameDuties (s t : State) : Prop where
  partState : t.mgmt.partState = s.mgmt.partState
  owner : t.mgmt.owner = s.mgmt.owner
  params : t.mgmt.params = s.mgmt.params
  checking : t.mgmt.checking = s.mgmt.checking
  saving : t.mgmt.saving = s.mgmt.saving

namespace SameDuties

theorem of_mgmt (h : t.mgmt = s.mgmt) : SameDuties s t := by constructor <;> rw [h]

theorem trans (h : SameDuties s t) (k : SameDuties t u) : SameDuties s u :=
  ⟨k.partState.trans h.partState, k.owner.trans h.owner, k.params.trans h.params, k.checking.trans h.checking,
    k.saving.trans h.saving⟩

theorem of_touches {T : List Block} (h : OnlyTouches T s t) (hT : Block.mgmt ∉ T) : SameDuties s t :=
  of_mgmt (h.mgmt hT)

theorem handOver (p : Port) (s : State) : SameDuties s (handOver p s) := by
  unfold Machine.handOver
  split
  · exact of_mgmt rfl
  · split
    · exact of_mgmt rfl
    · constructor <;> rfl

theorem readyReply (r : Reply) (s : State) : SameDuties s (readyReply r s) :=
  trans (by constructor <;> rfl) (handOver _ _)

theorem nextPicturePart (s : State) : SameDuties s (nextPicturePart s) := by
  unfold Machine.nextPicturePart
  split
  · exact of_mgmt rfl
  · split <;> constructor <;> rfl

theorem reportLeft (p : Port) (e : Entry) (s : State) : SameDuties s (reportLeft p e s) := by
  unfold Machine.reportLeft replyLeft
  split
  · dsimp only
    split
    · exact trans (by constructor <;> rfl) (nextPicturePart _)
    · constructor <;> rfl
    · constructor <;> rfl
  · exact of_mgmt rfl

theorem sentFrame (p : Port) (i : Nat) (e : Entry) (s : State) : SameDuties s (sentFrame p i e s) := by
  unfold Machine.sentFrame
  split
  · exact of_mgmt rfl
  · exact trans (t := updPort p (fun ps => ps.leave i) s) (of_mgmt rfl) (reportLeft _ _ _)

theorem collideFrame (p : Port) (i n : Nat) (e : Entry) (s : State) : SameDuties s (collideFrame p i e n s) := by
  unfold Machine.collideFrame dropInProgress
  split
  · exact of_mgmt rfl
  · refine interleave_keeps (SameDuties s) _ _ (fun _ => of_mgmt rfl) ?_
    simp only [List.mem_cons, List.not_mem_nil, or_false, forall_eq_or_imp, forall_eq]
    refine ⟨fun u h => h.trans (of_touches (touches_raiseNotice (T := touchNotices) (by decide) (.refl _ _) _ _ _) (by decide)),
      fun u h => h.trans (of_touches (touches_takeEvent (T := touchGuards) (by decide) (.refl _ _) _) (by decide)),
      fun u h => h.trans (reportLeft _ _ _)⟩

end SameDuties

/-! ### Owner loss and checking -/

/-- Owner loss in the management unit and in the heartbeat; the rest of it touches neither (R183). -/
theorem loseOwner_after (s : State) :
    (loseOwner s).mgmt = s.mgmt.loseOwner ∧ (loseOwner s).safe = { s.safe with beatRunning := false } := by
  have h : OnlyTouches touchCycle (stopBeat (s.withMgmt s.mgmt.loseOwner)) (loseOwner s) := by
    unfold loseOwner
    refine touches_interleave (by decide) (.refl _ _) fun c hc g hg t ht => ?_
    rw [List.mem_append] at hc
    rcases hc with hc | hc
    · split at hc
      · cases hc
      · obtain rfl := List.mem_singleton.mp hc
        obtain rfl := List.mem_singleton.mp hg
        exact touches_publish (by decide) ht
    · simp only [List.mem_cons, List.not_mem_nil, or_false] at hc
      rcases hc with rfl | rfl <;> obtain rfl := List.mem_singleton.mp hg
      · exact touches_moveOwnerLoss (List.Subset.refl _) ht
      · exact touches_regOwnerLoss (List.Subset.refl _) ht _
  exact ⟨h.mgmt (by decide), h.safe (by decide)⟩

/-- The end of checking in the management unit (R189). -/
theorem endChecking_mgmt (next : PartState) (kind : NoticeKind) (subject detail : Nat) (s : State) :
    (endChecking next kind subject detail s).mgmt = { s.mgmt with checking := none, partState := next } := by
  unfold endChecking
  rcases interleave_pair (raiseNotice kind subject (BitVec.ofNat 16 detail)) publish
    (s.withMgmt { s.mgmt with checking := none, partState := next }) with h | h <;> rw [h]
  · exact (touches_publish (T := [.pictures]) (by decide) (.refl _ _)).mgmt (by decide) |>.trans
      ((touches_raiseNotice (T := touchNotices) (by decide) (.refl _ _) _ _ _).mgmt (by decide))
  · exact (touches_raiseNotice (T := touchNotices) (by decide) (.refl _ _) _ _ _).mgmt (by decide)

/-- A setting asked, in the management unit (R189). -/
theorem askSetting_mgmt (st : Setting) (asks : Nat) (s : State) : (askSetting st asks s).mgmt =
    { s.mgmt with checking := some ⟨st, asks, ⟨s.partTime, Config.answerTicks⟩⟩ } := by
  unfold askSetting askIdent
  split <;> rfl

/-- Checking goes on, or it ends in a part state other than CHECKING; nothing else of the unit changes (R189). -/
theorem passDrive_mgmt (st : Setting) (s : State) :
    (∃ c, (passDrive st s).mgmt = { s.mgmt with checking := some c }) ∨
    (∃ p, p ≠ .checking ∧ p ≠ .regulating ∧ (passDrive st s).mgmt = { s.mgmt with checking := none, partState := p }) := by
  unfold passDrive
  split
  · exact .inl ⟨_, askSetting_mgmt _ _ _⟩
  · exact .inr ⟨.ready, by decide, by decide, endChecking_mgmt _ _ _ _ _⟩

theorem takeIdent_mgmt (f : Frame) (s : State) : (takeIdent f s).mgmt = s.mgmt ∨
    s.mgmt.checking.isSome = true ∧ ((∃ c, (takeIdent f s).mgmt = { s.mgmt with checking := some c }) ∨
    (∃ p, p ≠ .checking ∧ p ≠ .regulating ∧ (takeIdent f s).mgmt = { s.mgmt with checking := none, partState := p })) := by
  unfold takeIdent
  split
  · rename_i c _ _ _ _ _ hc _
    split
    · refine .inr ⟨by rw [hc]; rfl, ?_⟩
      split
      · exact passDrive_mgmt _ _
      · exact .inr ⟨.awaitLayout, by decide, by decide, endChecking_mgmt _ _ _ _ _⟩
    · exact .inl rfl
  · exact .inl rfl

theorem answerExpires_mgmt (c : Checking) (s : State) :
    (∃ c', (answerExpires c s).mgmt = { s.mgmt with checking := some c' }) ∨
    (∃ p, p ≠ .checking ∧ p ≠ .regulating ∧ (answerExpires c s).mgmt = { s.mgmt with checking := none, partState := p }) := by
  unfold answerExpires
  split
  · exact .inl ⟨_, askSetting_mgmt _ _ _⟩
  · exact .inr ⟨.awaitLayout, by decide, by decide, endChecking_mgmt _ _ _ _ _⟩

theorem startChecking_mgmt (s : State) : ∃ c, (startChecking s).mgmt =
    { s.mgmt with partState := .checking, checking := some c } := ⟨_, askSetting_mgmt _ _ _⟩

/-- The part state while the part starts, and while it stops (R191). -/
theorem startRegulating_after (s : State) : (startRegulating s).mgmt = { s.mgmt with partState := .regulating } ∧
    (startRegulating s).safe = s.safe := by
  have h : OnlyTouches touchCycle (s.withMgmt { s.mgmt with partState := .regulating }) (startRegulating s) := by
    refine touches_interleave (by decide) (.refl _ _) ?_
    simp only [List.mem_cons, List.not_mem_nil, or_false, forall_eq_or_imp, forall_eq]
    exact ⟨fun _ h => touches_publish (by decide) h, fun _ h => touches_takeStart (List.Subset.refl _) h⟩
  exact ⟨h.mgmt (by decide), h.safe (by decide)⟩

theorem stopRegulating_after (s : State) : (stopRegulating s).mgmt = { s.mgmt with partState := .ready } ∧
    (stopRegulating s).safe = s.safe := by
  have h : OnlyTouches touchCycle (s.withMgmt { s.mgmt with partState := .ready }) (stopRegulating s) := by
    refine touches_interleave (by decide) (.refl _ _) ?_
    simp only [List.mem_cons, List.not_mem_nil, or_false, forall_eq_or_imp, forall_eq]
    exact ⟨fun _ h => touches_publish (by decide) h, fun _ h => touches_takeStop (List.Subset.refl _) h⟩
  exact ⟨h.mgmt (by decide), h.safe (by decide)⟩

theorem judgeStore_mgmt (s : State) : (judgeStore s).mgmt = s.mgmt :=
  (touches_judgeStore (T := touchNotices) (by decide) (.refl _ _)).mgmt (by decide)

/-- A reset leaves the management unit as reset, with the parameters of the image loaded (R204). -/
theorem resetPart_mgmt (straps : BitVec 3) (s : State) :
    (resetPart straps s).mgmt = resetMgmt (cutShort s).store.loaded (cutShort s).store.holdsImage := judgeStore_mgmt _

theorem cutShort_mgmt (s : State) : (cutShort s).mgmt = { s.mgmt with saving := none } := by
  unfold cutShort
  split
  · rfl
  · rename_i h
    exact congrArg (fun x => { s.mgmt with saving := x }) h

/-! ### The owner's invariant -/

theorem ownerSound_iff : s.ownerSound = true ↔
    (s.mgmt.partState = .awaitParam ∨ s.mgmt.owner.isSome = true) ∧
    (s.mgmt.checking.isSome = true ↔ s.mgmt.partState = .checking) ∧
    (s.safe.beatRunning = true → s.mgmt.owner.isSome = true) := by
  simp only [State.ownerSound, Bool.and_eq_true, Bool.or_eq_true, decide_eq_true_eq, beq_iff_eq, and_assoc]
  refine and_congr Iff.rfl (and_congr ?_ ?_)
  · rw [Bool.eq_iff_iff, decide_eq_true_eq]
  · cases s.safe.beatRunning <;> simp

theorem ownerSound_of_sameDuties (h : SameDuties s t) (hb : t.safe.beatRunning = true → s.safe.beatRunning = true)
    (hs : s.ownerSound = true) : t.ownerSound = true := by
  rw [ownerSound_iff] at hs ⊢
  rw [h.partState, h.owner, h.checking]
  exact ⟨hs.1, hs.2.1, fun k => hs.2.2 (hb k)⟩

/-- Every effect keeps an owner outside AWAIT_PARAM, the checking record in CHECKING, and no heartbeat without owner. -/
theorem Effect.ownerSound {T : List Block} (h : Effect T s t) (hs : s.ownerSound = true) : t.ownerSound = true := by
  by_cases hT : Block.mgmt ∉ T ∧ Block.safe ∉ T
  · exact ownerSound_of_sameDuties (.of_touches h.onlyTouches hT.1) (by rw [h.onlyTouches.safe hT.2]; exact id) hs
  · have hsame (hd : SameDuties s t) (hsafe : Block.safe ∉ T) : t.ownerSound = true :=
      ownerSound_of_sameDuties hd (by rw [h.onlyTouches.safe hsafe]; exact id) hs
    obtain ⟨howner, hchecking, hbeat⟩ := ownerSound_iff.mp hs
    cases h with
    | sent => exact hsame (.sentFrame _ _ _ _) (by decide)
    | collided => exact hsame (.collideFrame _ _ _ _ _) (by decide)
    | inbox => exact hsame (by constructor <;> rfl) (by decide)
    | reply => exact hsame (.readyReply _ _) (by decide)
    | handOver => exact hsame (.handOver _ _) (by decide)
    | pendingParams => exact hsame (by constructor <;> rfl) (by decide)
    | reading => exact hsame (by constructor <;> rfl) (by decide)
    | substitute => exact hs
    | loadBeat => exact hs
    | tune => exact hs
    | startSave => exact hs
    | saved => exact hs
    | stopBeat => exact ownerSound_of_sameDuties (s := s) (.of_mgmt rfl) (by simp [Machine.stopBeat]) hs
    | startBeat ho => exact ownerSound_iff.mpr ⟨howner, hchecking, fun _ => ho⟩
    | tick =>
      refine ownerSound_of_sameDuties (s := s) (.of_mgmt rfl) ?_ hs
      change (SafeBlock.tick _).beatRunning = true → _
      unfold SafeBlock.tick
      split <;> exact id
    | claim o hstate _ => exact ownerSound_iff.mpr ⟨.inr rfl, hchecking, fun _ => rfl⟩
    | loseOwner =>
      obtain ⟨hm, hb⟩ := loseOwner_after s
      rw [ownerSound_iff, hm, hb]
      simp [Mgmt.loseOwner]
    | closeParams _ ho hstate =>
      refine ownerSound_iff.mpr ⟨.inr ho, hchecking.trans ?_, fun _ => ho⟩
      rw [hstate]
      exact ⟨nofun, nofun⟩
    | enterAwaitParam hstate =>
      refine ownerSound_iff.mpr ⟨.inl rfl, hchecking.trans ?_, hbeat⟩
      rcases hstate with h | h <;> rw [h] <;> exact ⟨nofun, nofun⟩
    | startChecking ho =>
      obtain ⟨c, hm⟩ := startChecking_mgmt s
      have hb := (touches_startChecking (T := touchChecking) (by decide) (.refl _ s)).safe (by decide)
      rw [ownerSound_iff, hm, hb]
      exact ⟨.inr ho, by simp, fun _ => ho⟩
    | ident f =>
      have hb := (touches_takeIdent (T := touchChecking) (by decide) (.refl _ s) f).safe (by decide)
      rcases takeIdent_mgmt f s with hm | ⟨hc, ⟨c, hm⟩ | ⟨p, hp, -, hm⟩⟩
      · exact hsame (.of_mgmt hm) (by decide)
      · rw [ownerSound_iff, hm, hb]
        exact ⟨howner, ⟨fun _ => hchecking.mp hc, fun _ => rfl⟩, hbeat⟩
      · have ho : s.mgmt.owner.isSome = true := howner.resolve_left (by rw [hchecking.mp hc]; decide)
        rw [ownerSound_iff, hm, hb]
        exact ⟨.inr ho, by simpa using hp, fun _ => ho⟩
    | answerExpires c hc =>
      have hc : s.mgmt.checking.isSome = true := by rw [hc]; rfl
      have hb := (touches_answerExpires (T := touchChecking) (by decide) (.refl _ s) c).safe (by decide)
      rcases answerExpires_mgmt c s with ⟨c, hm⟩ | ⟨p, hp, -, hm⟩
      · rw [ownerSound_iff, hm, hb]
        exact ⟨howner, ⟨fun _ => hchecking.mp hc, fun _ => rfl⟩, hbeat⟩
      · have ho : s.mgmt.owner.isSome = true := howner.resolve_left (by rw [hchecking.mp hc]; decide)
        rw [ownerSound_iff, hm, hb]
        exact ⟨.inr ho, by simpa using hp, fun _ => ho⟩
    | start ho hstate =>
      obtain ⟨hm, hb⟩ := startRegulating_after s
      rw [ownerSound_iff, hm, hb]
      refine ⟨.inr ho, hchecking.trans ?_, hbeat⟩
      rw [hstate]
      exact ⟨nofun, nofun⟩
    | stop ho hstate =>
      obtain ⟨hm, hb⟩ := stopRegulating_after s
      rw [ownerSound_iff, hm, hb]
      refine ⟨.inr ho, hchecking.trans ?_, hbeat⟩
      rw [hstate]
      exact ⟨nofun, nofun⟩
    | reset straps =>
      have hb : (resetPart straps s).safe = resetSafe (cutShort s).store.loaded :=
        (touches_judgeStore (T := touchNotices) (by decide) (.refl _ _)).safe (by decide)
      rw [ownerSound_iff, resetPart_mgmt, hb]
      exact ⟨.inl rfl, ⟨nofun, nofun⟩, nofun⟩
    | resetDriven =>
      rw [ownerSound_iff, State.withPins_mgmt, cutShort_mgmt, State.withPins_safe,
        (touches_cutShort (T := [.mgmt, .store]) (by decide) (.refl _ s)).safe (by decide)]
      exact ⟨howner, hchecking, hbeat⟩
    | _ => exact absurd (by decide) hT

/-- Settles O7: every effect of a command keeps it. -/
theorem stepsKeepAnOwnerOutsideAwaitParam : Obligations.StepsKeepAnOwnerOutsideAwaitParam := by
  intro s t hs h
  exact step_keeps (P := fun s => s.ownerSound = true) (fun _ _ h => h) (fun _ _ _ h => h.ownerSound) hs h

end Sys2Proof.Machine
end

section
/-! PROOF. Predicates that what the regulator does keeps (`Quiet`), and, from what the regulator keeps, the guard
arbiter, the classifier, the channel unit and the move unit (`Steady`, `Heard`, `Moved`, `Wide`): one lemma for each operation. -/

namespace Sys2Proof.Machine

variable {P : State → Prop} {s t u : State}

/-- A predicate that the regulator's pieces keep, but for the entry to a measure window: its own record, the gate closed,
SAFE_OUT, a picture, a notice, a goal. The last window result stays. -/
structure Calm (P : State → Prop) : Prop where
  touches : ∀ {s t}, OnlyTouches [.classifier, .guards, .order] s t → P s → P t
  regulator : ∀ x {s}, x.last = s.regulator.last → P s → P (s.withRegulator x)
  closeGate : ∀ {s}, P s → P (s.withChannels s.channels.closeGate)
  safeOut : ∀ b {s}, P s → P (driveSafeOut b s)
  publish : ∀ {s}, P s → P (publish s)
  notice : ∀ kind subject detail {s}, P s → P (raiseNotice kind subject detail s)
  goal : ∀ st g {s}, P s → P (giveGoal st g s)

/-- A calm predicate that the gate opened keeps too, and the end of a window. -/
structure Quiet (P : State → Prop) : Prop extends Calm P where
  result : ∀ w {s}, P s → P (s.withRegulator { s.regulator with window := none, last := w })
  openGate : ∀ {s}, P s → P (s.withChannels s.channels.openGate)

/-- A predicate that the events the regulator takes keep, and that does not read the arbiter or the classifier. -/
structure Steady (P : State → Prop) : Prop where
  touches : ∀ {s t}, OnlyTouches [.classifier, .guards, .order] s t → P s → P t
  publish : ∀ {s}, P s → P (publish s)
  notice : ∀ kind subject detail {s}, P s → P (raiseNotice kind subject detail s)
  action : ∀ a {s}, P s → P (takeAction a s)
  settled : ∀ st {s}, P s → P (takeSettled st s)
  exclusion : ∀ st {s}, P s → P (takeExclusion st s)
  retarget : ∀ {s}, P s → P (takeRetarget s)

/-- A predicate that the events of the channels keep: their records, and what they hand on. -/
structure Listening (P : State → Prop) : Prop where
  order : ∀ {s}, P s → ∀ o, P (s.withOrder o)
  notice : ∀ kind subject detail {s}, P s → P (raiseNotice kind subject detail s)
  channels : ∀ {x : ChannelUnit} {s}, x.gate = s.channels.gate → P s → P (s.withChannels x)
  judge : ∀ {s}, P s → P (judgeLost s)
  value : ∀ a v {s}, P s → P (takeAxisValue a v s)
  freeze : ∀ a {s}, P s → P (freezeAxis a s)
  kept : ∀ r v {s}, P s → P (takeKept r v s)
  examine : ∀ {s}, P s → P (settleWaiting s)
  adopt : ∀ {s}, P s → P (adoptCandidate s)
  axis : ∀ a d {s}, axisFits a d = true → P s → P (writeAxis a d s)

/-- A predicate that what commands do to the arbiter keeps. -/
structure Arbitrated (P : State → Prop) : Prop where
  clash : ∀ p {s}, P s → P (stationClash p s)
  settle : ∀ {s}, P s → P (settleGuards s)
  condition : ∀ n active {s}, P s → P (setCondition n active s)
  slip : ∀ w x {s}, P s → P (setSlipTimer w x s)
  release : ∀ n cause {s}, P s → P (releaseGuard n cause s)
  releaseNamed : ∀ n {s}, P s → P (releaseNamed n s)
  configure : ∀ n f {s}, guardFieldsBad n f = false → P s → P (configureGuard n f s)
  masks : ∀ mask {s}, P s → P (writeMasks mask s)
  floor : ∀ floor {s}, 1 ≤ floor ∧ floor ≤ 8 → P s → P (writeFloor floor s)
  operator : ∀ {s}, P s → P (raiseOperator s)

/-- A predicate that the events of the drives keep: the records, a SET, and what they hand on. -/
structure Moving (P : State → Prop) : Prop extends Arbitrated P where
  order : ∀ {s}, P s → ∀ o, P (s.withOrder o)
  publish : ∀ {s}, P s → P (publish s)
  notice : ∀ kind subject detail {s}, P s → P (raiseNotice kind subject detail s)
  settled : ∀ st {s}, P s → P (takeSettled st s)
  exclusion : ∀ st {s}, P s → P (takeExclusion st s)
  moves : ∀ x {s}, P s → P (s.withMoves x)
  goal : ∀ st g {s}, P s → P (giveGoal st g s)
  issue : ∀ st {s}, P s → P (issueSet st s)
  resend : ∀ st {s}, P s → P (resendSet st s)

/-- A steady predicate that does not read the channel unit, but for the gate. -/
structure Heard (P : State → Prop) : Prop extends Steady P where
  channels : ∀ {x : ChannelUnit} {s}, x.gate = s.channels.gate → P s → P (s.withChannels x)

/-- A steady predicate that does not read the move unit, and that a SET keeps. -/
structure Moved (P : State → Prop) : Prop extends Steady P where
  moves : ∀ x {s}, P s → P (s.withMoves x)
  goal : ∀ st g {s}, P s → P (giveGoal st g s)
  issue : ∀ st {s}, P s → P (issueSet st s)
  resend : ∀ st {s}, P s → P (resendSet st s)

/-- A steady predicate that reads neither the move unit nor, but for the gate, the channel unit. -/
structure Wide (P : State → Prop) : Prop extends Heard P, Moved P

/-- A quiet predicate that the ends of a cycle keep: what a window's result hands on, the owner loss, START and STOP. -/
structure Cycled (P : State → Prop) : Prop extends Quiet P where
  keep : ∀ k {s}, P s → P (handKeep k s)
  lossAlarm : ∀ {s}, P s → P (takeEvent 5 s)
  discard : ∀ {s}, P s → P (discardDeferred s)
  letGo : ∀ {s}, P s → P (moveOwnerLoss s)
  orphaned : ∀ {s}, P s → P (stopBeat (s.withMgmt s.mgmt.loseOwner))
  duty : ∀ p {s}, P s → P (s.withMgmt { s.mgmt with partState := p })

/-! ### Orders of handings -/

theorem keeps_interleave {chains : List (List Handing)} (horder : ∀ o, P (s.withOrder o))
    (keep : ∀ c ∈ chains, ∀ g ∈ c, ∀ t, P t → P (g t)) : P (interleave chains s) :=
  interleave_keeps P chains s horder keep

theorem keeps_pair {a b : Handing} (horder : ∀ o, P (s.withOrder o)) (ha : ∀ t, P t → P (a t))
    (hb : ∀ t, P t → P (b t)) : P (interleave [[a], [b]] s) := by
  rcases interleave_pair a b s with h | h <;> rw [h]
  · exact hb _ (ha _ (horder _))
  · exact ha _ (hb _ (horder _))

theorem keeps_triple {a b c : Handing} (horder : ∀ o, P (s.withOrder o)) (ha : ∀ t, P t → P (a t))
    (hb : ∀ t, P t → P (b t)) (hc : ∀ t, P t → P (c t)) : P (interleave [[a], [b], [c]] s) := by
  refine keeps_interleave horder fun l hl g hg => ?_
  simp only [List.mem_cons, List.not_mem_nil, or_false] at hl
  rcases hl with rfl | rfl | rfl <;> (obtain rfl := List.mem_singleton.mp hg; assumption)

theorem keeps_foldl {α : Type} {f : State → α → State} (l : List α) (h : P s)
    (keep : ∀ a t, P t → P (f t a)) : P (l.foldl f s) := by
  induction l generalizing s with
  | nil => exact h
  | cons a as ih => exact ih (keep a s h)

/-! ### Settled events -/

section Settled

variable (hsettled : ∀ st {s}, P s → P (takeSettled st s)) (hpublish : ∀ {s}, P s → P (publish s))
include hsettled hpublish

theorem settledHandings_keep (st : Setting) : ∀ c ∈ settledHandings st, ∀ g ∈ c, ∀ t, P t → P (g t) := by
  intro c hc g hg t ht
  simp only [Machine.settledHandings, List.mem_cons, List.not_mem_nil, or_false] at hc
  rcases hc with rfl | rfl <;> obtain rfl := List.mem_singleton.mp hg
  · exact hsettled _ ht
  · exact hpublish ht

theorem newlySettled_keep (was : Bool) (st : Setting) : ∀ c ∈ newlySettled was st, ∀ g ∈ c, ∀ t, P t → P (g t) := by
  unfold Machine.newlySettled
  split
  · exact fun c hc => absurd hc (by simp)
  · exact settledHandings_keep hsettled hpublish st

/-- The settled events of several settings. -/
theorem settledOf_keep (l : List Setting) :
    ∀ c ∈ (l.map Machine.settledHandings).flatten, ∀ g ∈ c, ∀ t, P t → P (g t) := by
  intro c hc
  obtain ⟨cs, hcs, hmem⟩ := List.mem_flatten.mp hc
  obtain ⟨st, -, rfl⟩ := List.mem_map.mp hcs
  exact settledHandings_keep hsettled hpublish st c hmem

end Settled

/-! ### What the regulator does -/

namespace Calm

variable (hP : Calm P)
include hP

theorem order (h : P s) (o : List Nat) : P (s.withOrder o) :=
  hP.touches (touches_withOrder (by decide) (.refl _ s) o) h

theorem abandonCycle (h : P s) : P (abandonCycle s) := hP.regulator _ rfl (hP.closeGate h)

theorem giveTarget (st : Setting) (v : Word16) (h : P s) : P (giveTarget st v s) := hP.goal _ _ (hP.regulator _ rfl h)

theorem giveTargets (h : P s) : P (giveTargets s) := by
  unfold Machine.giveTargets
  split
  · exact h
  · exact keeps_foldl _ h fun st _ => hP.giveTarget st _

theorem enterSettle (h : P s) : P (enterSettle s) := hP.publish (hP.regulator _ rfl h)

theorem enterTrialSettle (h : P s) : P (enterTrialSettle s) := hP.publish (hP.regulator _ rfl h)

theorem enterHold (h : P s) : P (enterHold s) := hP.publish (hP.regulator _ rfl h)

theorem enterFollow (keepEpisode : Bool) (h : P s) : P (enterFollow keepEpisode s) := by
  unfold Machine.enterFollow
  have hfollow := keeps_pair (P := P) (hP.order (hP.regulator ((Machine.abandonCycle s).regulator.follow keepEpisode)
    rfl (hP.abandonCycle h))) (fun _ => hP.publish) (fun _ => hP.giveTargets)
  dsimp only
  split
  · exact hP.enterSettle hfollow
  · exact hfollow

theorem releaseConcave (h : P s) : P (releaseConcave s) := hP.goal _ _ h

theorem enterPaused (h : P s) : P (enterPaused s) := hP.publish (hP.regulator _ rfl (hP.abandonCycle h))

theorem enterPausedOpen (h : P s) : P (enterPausedOpen s) :=
  keeps_pair (hP.order (hP.regulator _ rfl (hP.abandonCycle h))) (fun _ => hP.publish) (fun _ => hP.releaseConcave)

theorem giveSubstitutes (h : P s) : P (giveSubstitutes s) :=
  keeps_foldl _ h fun st t ht => by
    unfold giveSubstitute
    split
    · exact hP.goal _ _ ht
    · exact ht

theorem enterSafe (cause : SafeCause) (h : P s) : P (enterSafe cause s) :=
  keeps_triple (hP.order (hP.safeOut _ (hP.regulator _ rfl (hP.abandonCycle h)))) (fun _ => hP.publish)
    (fun _ => hP.giveSubstitutes) (fun _ => hP.notice _ _ _)

theorem leaveSafe (next : RegState) (h : P s) : P (leaveSafe next s) := by
  unfold Machine.leaveSafe
  split
  · exact hP.notice _ _ _ (hP.safeOut _ (hP.regulator _ rfl h))
  · exact h

theorem changeSafeCause (cause : SafeCause) (h : P s) : P (changeSafeCause cause s) := hP.publish (hP.regulator _ rfl h)

theorem startTrial (k : Nat) (p : PlanStep) (h : P s) : P (startTrial k p s) := by
  unfold Machine.startTrial
  have hmove := hP.publish (hP.regulator { (Machine.giveTarget p.setting (s.trialOf k p).target (s.withRegulator
    { s.regulator with window := none, cursor := k, trial := some (s.trialOf k p) })).regulator with
      state := .trialMove } rfl (hP.giveTarget p.setting (s.trialOf k p).target (hP.regulator
    { s.regulator with window := none, cursor := k, trial := some (s.trialOf k p) } rfl h)))
  dsimp only
  split
  · exact hP.enterTrialSettle hmove
  · exact hmove

theorem tryNextStep (h : P s) : P (tryNextStep s) := by
  unfold Machine.tryNextStep
  split
  · exact hP.enterHold h
  · split
    · exact hP.startTrial _ _ h
    · exact hP.enterHold (hP.notice _ _ _ (hP.regulator _ rfl h))

theorem tryOrHold (h : P s) : P (tryOrHold s) := by
  unfold Machine.tryOrHold
  split
  · exact hP.tryNextStep h
  · exact hP.enterHold h

theorem decideMeasure (w : WindowResult) (h : P s) : P (decideMeasure w s) := by
  unfold Machine.decideMeasure
  split
  · exact hP.tryNextStep (hP.regulator _ rfl h)
  · exact hP.enterHold h

theorem revertSettled (h : P s) : P (revertSettled s) := hP.tryOrHold (hP.regulator _ rfl h)

theorem giveRevertGoal (st : Setting) (h : P s) : P (giveRevertGoal st s) := by
  unfold Machine.giveRevertGoal
  split
  · exact h
  · exact hP.giveTarget _ _ h

theorem revertTrial (x : Trial) (h : P s) : P (revertTrial x s) := by
  unfold Machine.revertTrial
  have hreverted := hP.notice .trialReverted x.cell x.detail (hP.giveRevertGoal x.setting h)
  have hrevert := hP.publish (hP.regulator { (raiseNotice .trialReverted x.cell x.detail
    (Machine.giveRevertGoal x.setting s)).regulator with cursor := x.position + 1, state := .revert } rfl hreverted)
  dsimp only
  split
  · exact hP.revertSettled hrevert
  · exact hrevert

theorem keepTrial (hkeep : ∀ k {s}, P s → P (handKeep k s)) (x : Trial) (w : WindowResult) (h : P s) :
    P (keepTrial x w s) := by
  unfold Machine.keepTrial
  have hkept := hP.notice .trialKept x.cell x.detail (hkeep ⟨x.bank, x.cell, x.setting, x.amount⟩ h)
  dsimp only
  split
  · exact hP.enterHold (hP.regulator _ rfl hkept)
  · exact hP.tryOrHold (hP.regulator _ rfl hkept)

theorem afterResult (hkeep : ∀ k {s}, P s → P (handKeep k s)) (w : WindowResult) (h : P s) : P (afterResult w s) := by
  unfold Machine.afterResult judgeTrial
  split
  · exact hP.decideMeasure w h
  · split
    · exact hP.enterHold h
    · split
      · exact hP.keepTrial hkeep _ _ h
      · exact hP.revertTrial _ h

theorem takeSettled (st : Setting) (h : P s) : P (takeSettled st s) := by
  unfold Machine.takeSettled
  split
  · split
    · exact hP.enterSettle h
    · exact h
  · split
    · exact hP.enterTrialSettle h
    · exact h
  · split
    · exact hP.revertSettled h
    · exact h
  · exact h

theorem takeExclusion (st : Setting) (h : P s) : P (takeExclusion st s) := by
  unfold Machine.takeExclusion
  split
  · exact h
  · split
    · exact hP.enterFollow _ (hP.regulator _ rfl h)
    · exact h

theorem takeRetarget (h : P s) : P (takeRetarget s) := by
  unfold Machine.takeRetarget
  split
  · exact hP.enterFollow _ h
  · exact h

theorem leaveSafeFor (a : Action) (h : P s) : P (leaveSafeFor a s) := by
  cases a with
  | safeSet => exact h
  | openConcave => exact hP.enterPausedOpen (hP.leaveSafe _ h)
  | pause => exact hP.enterPaused (hP.leaveSafe _ h)
  | noticeOnly => exact hP.enterFollow _ (hP.leaveSafe _ h)

theorem takeAction (a : Action) (h : P s) : P (takeAction a s) := by
  unfold Machine.takeAction
  split
  · split
    · exact h
    · split
      · exact h
      · exact hP.leaveSafeFor a h
    · cases a with
      | safeSet => exact hP.enterSafe _ h
      | openConcave => exact hP.releaseConcave h
      | pause => exact h
      | noticeOnly => exact hP.enterFollow _ h
    · cases a with
      | safeSet => exact hP.enterSafe _ h
      | openConcave => exact hP.enterPausedOpen h
      | pause => exact hP.enterPaused h
      | noticeOnly => exact h
  · exact h

theorem takeStart (h : P s) : P (takeStart s) := by
  unfold Machine.takeStart
  split
  · split
    · exact hP.changeSafeCause _ h
    · exact hP.enterSafe _ h
  · exact hP.leaveSafeFor _ h

theorem regOwnerLoss (was : PartState) (h : P s) : P (regOwnerLoss was s) := by
  unfold Machine.regOwnerLoss
  split
  · split
    · exact h
    · exact hP.changeSafeCause _ h
    · exact hP.enterSafe _ h
  · exact h

/-- What the regulator keeps, its events keep. -/
theorem steady : Steady P where
  touches h := hP.touches (h.mono (by decide))
  publish := hP.publish
  notice := hP.notice
  action a {_} := hP.takeAction a
  settled st {_} := hP.takeSettled st
  exclusion st {_} := hP.takeExclusion st
  retarget := hP.takeRetarget

end Calm

namespace Quiet

variable (hP : Quiet P)
include hP

theorem enterMeasure (state : RegState) (h : P s) : P (enterMeasure state s) :=
  hP.publish (hP.regulator _ rfl (hP.openGate h))

theorem windowAEnds (h : P s) : P (windowAEnds s) := by
  unfold Machine.windowAEnds
  split
  · split
    · exact hP.enterHold h
    · exact hP.enterMeasure _ h
  · exact hP.enterMeasure _ h
  · split
    · exact hP.regulator _ rfl h
    · exact hP.enterMeasure _ h
  · exact hP.regulator _ rfl h

end Quiet

/-! ### What the arbiter and the classifier do -/

namespace Steady

variable (hP : Steady P)
include hP

theorem guards (x : Arbiter) (h : P s) : P (s.withGuards x) :=
  hP.touches (touches_withGuards (by decide) (.refl _ s) x) h

theorem order (h : P s) (o : List Nat) : P (s.withOrder o) :=
  hP.touches (touches_withOrder (by decide) (.refl _ s) o) h

theorem settleGuards (h : P s) : P (settleGuards s) := by
  have hexamined : P (examineGuards (endWait s)) := by
    unfold examineGuards
    split
    · exact hP.notice _ _ _ (hP.guards _ (hP.guards _ h))
    · exact hP.guards _ h
  unfold Machine.settleGuards judgeAction
  dsimp only
  split
  · exact hexamined
  · exact keeps_pair (hP.order (hP.guards _ hexamined)) (fun _ => hP.action _) (fun _ => hP.publish)

theorem settleRaised (due : ExamineDue) (n : Fin 12) (h : P s) : P (settleRaised due n s) := by
  rcases settleRaised_spec due n s with e | e | ⟨-, -, e⟩ <;> rw [e]
  · exact hP.settleGuards h
  · exact hP.settleGuards (hP.order h _)
  · exact hP.guards _ (hP.order h _)

theorem settleWaiting (h : P s) : P (settleWaiting s) := by
  unfold Machine.settleWaiting
  split
  · exact h
  · exact hP.settleGuards h

theorem setCondition (n : Fin 12) (active : Bool) (h : P s) : P (setCondition n active s) := by
  unfold Machine.setCondition
  split
  · exact h
  · split
    · exact hP.settleRaised _ _ (hP.guards _ h)
    · exact hP.settleGuards (hP.guards _ h)

theorem takeEvent (n : Fin 12) (h : P s) : P (takeEvent n s) := hP.settleRaised _ _ (hP.guards _ h)

theorem removeGuard (n : Fin 12) (cause : Nat) (h : P s) : P (removeGuard n cause s) :=
  hP.notice _ _ _ (hP.guards _ h)

theorem configureGuard (n : Fin 12) (f : GuardFields) (h : P s) : P (configureGuard n f s) := by
  refine hP.settleGuards (hP.guards _ ?_)
  split
  · exact hP.removeGuard _ _ h
  · exact h

theorem setSlipTimer (w : Rotor) (x : Option Timer) (h : P s) : P (setSlipTimer w x s) := by
  cases w <;> exact hP.guards _ h

theorem takeKept (r : Role) (v : Option Word16) (h : P s) : P (takeKept r v s) := by
  have hslip (w : Rotor) {t : State} (h : P t) : P (judgeSlip w t) := by
    unfold judgeSlip
    split
    · split
      · exact h
      · split
        · exact h
        · exact hP.setSlipTimer _ _ h
    · exact hP.setCondition _ _ (hP.setSlipTimer _ _ h)
  unfold Machine.takeKept judgeRole
  have hkept := hP.guards { s.guards with kept := s.guards.kept.put r v } h
  split
  · exact hP.setCondition _ _ hkept
  · exact hP.setCondition _ _ hkept
  · exact hP.setCondition _ _ hkept
  · exact hP.setCondition _ _ hkept
  · exact hslip _ hkept
  · exact hslip _ hkept
  · exact hkept

theorem stationClash (p : Port) (h : P s) : P (stationClash p s) :=
  keeps_pair (hP.order h) (fun _ => hP.notice _ _ _) (fun _ => hP.takeEvent _)

theorem classifier (x : Classifier) (h : P s) : P (s.withClassifier x) :=
  hP.touches (touches_withClassifier (by decide) (.refl _ s) x) h

theorem takeAxisValue (a : Axis) (v : Word16) (h : P s) : P (takeAxisValue a v s) := hP.classifier _ h

theorem freezeAxis (a : Axis) (h : P s) : P (freezeAxis a s) := by
  unfold Machine.freezeAxis
  dsimp only
  split
  · exact h
  · exact hP.classifier _ h

theorem handAdoption (h : P s) : P (handAdoption s) :=
  keeps_triple (hP.order h) (fun _ => hP.retarget) (fun _ => hP.publish) (fun _ => hP.notice _ _ _)

theorem adoptCandidate (h : P s) : P (adoptCandidate s) := hP.handAdoption (hP.classifier _ h)

theorem writeAxis (a : Axis) (d : AxisDef) (h : P s) : P (writeAxis a d s) := by
  unfold Machine.writeAxis
  split
  · exact hP.classifier _ h
  · unfold rewriteFrozenAxis
    have hwritten (c : Classifier) (adopted : PerAxis Nat) : P (if adopted = s.classifier.adopted then
        s.withClassifier c else Machine.handAdoption (s.withClassifier
          { c with adopted := adopted, adoptedAt := s.partTime })) := by
      split
      · exact hP.classifier _ h
      · exact hP.handAdoption (hP.classifier _ h)
    dsimp only
    split
    · exact hwritten _ _
    · exact hP.classifier _ (hwritten _ _)

theorem newlySettled (was : Bool) (st : Setting) : ∀ c ∈ newlySettled was st, ∀ g ∈ c, ∀ t, P t → P (g t) :=
  newlySettled_keep hP.settled hP.publish was st

theorem settledOf (l : List Setting) : ∀ c ∈ (l.map Machine.settledHandings).flatten, ∀ g ∈ c, ∀ t, P t → P (g t) :=
  settledOf_keep hP.settled hP.publish l

theorem arbitrated : Arbitrated P where
  clash p {_} := hP.stationClash p
  settle := hP.settleGuards
  condition n active {_} := hP.setCondition n active
  slip w x {_} := hP.setSlipTimer w x
  release n cause {_} h := hP.settleGuards (hP.removeGuard n cause h)
  releaseNamed n {_} h := hP.settleRaised _ _ (hP.removeGuard n 0 h)
  configure n f {_} _ := hP.configureGuard n f
  masks _ {_} h := hP.settleGuards (hP.guards _ h)
  floor _ {_} _ h := hP.settleGuards (hP.guards _ h)
  operator h := hP.settleGuards (hP.guards _ h)

end Steady

/-! ### What the channel unit and the move unit do -/

namespace Listening

variable (hP : Listening P)
include hP

theorem valueHandings (r : Role) (v : Word16) : ∀ c ∈ valueHandings r v, ∀ g ∈ c, ∀ t, P t → P (g t) := by
  intro c hc g hg t ht
  unfold Machine.valueHandings at hc
  rcases List.mem_append.mp hc with hc | hc <;> split at hc <;> cases hc
  · obtain rfl := List.mem_singleton.mp hg; exact hP.value _ _ ht
  · contradiction
  · obtain rfl := List.mem_singleton.mp hg; exact hP.kept _ _ ht
  · contradiction

theorem unusableHandings (r : Role) : ∀ c ∈ unusableHandings r, ∀ g ∈ c, ∀ t, P t → P (g t) := by
  intro c hc g hg t ht
  unfold Machine.unusableHandings at hc
  rcases List.mem_append.mp hc with hc | hc <;> split at hc <;> cases hc
  · obtain rfl := List.mem_singleton.mp hg; exact hP.freeze _ ht
  · contradiction
  · obtain rfl := List.mem_singleton.mp hg; exact hP.kept _ _ ht
  · contradiction

theorem runtime (i : Fin 24) (f : ChannelRt → ChannelRt) (h : P s) : P (updRuntime i f s) := hP.channels rfl h

theorem countArrival (i : Fin 24) (h : P s) : P (countArrival i s) := by
  unfold Machine.countArrival
  dsimp only
  split
  · exact keeps_pair (hP.order (hP.runtime i _ h)) (fun _ => hP.notice _ _ _) (fun _ => hP.judge)
  · exact hP.runtime i _ h

theorem takeSample (f : Frame) (h : P s) : P (takeSample f s) := by
  unfold Machine.takeSample
  split
  · split
    · rename_i i _
      have harrived := hP.countArrival i h
      unfold takeArrival
      dsimp only
      split
      · unfold takeFaulted
        dsimp only
        split
        · exact hP.runtime i _ harrived
        · exact hP.notice _ _ _ (hP.runtime i _ harrived)
      · split
        · unfold takeValue
          dsimp only
          split
          · exact keeps_interleave (hP.order (hP.runtime i _ harrived)) (hP.valueHandings _ _)
          · exact hP.runtime i _ harrived
        · unfold rejectValue
          dsimp only
          split
          · exact hP.runtime i _ harrived
          · exact hP.notice _ _ _ (hP.runtime i _ harrived)
    · exact h
  · exact h

/-- A notice, the CHANNEL_LOST indicator, and usable events, in any order. -/
theorem lostHandings {l : List (List Handing)} (hl : ∀ c ∈ l, ∀ g ∈ c, ∀ t, P t → P (g t)) :
    ∀ c ∈ [[Machine.judgeLost]] ++ l, ∀ g ∈ c, ∀ t, P t → P (g t) := by
  intro c hc g hg t ht
  rcases List.mem_append.mp hc with hc | hc
  · obtain rfl := List.mem_singleton.mp hc
    obtain rfl := List.mem_singleton.mp hg
    exact hP.judge ht
  · exact hl c hc g hg t ht

theorem usableIf (b : Bool) (r : Role) :
    ∀ c ∈ (if b then Machine.unusableHandings r else []), ∀ g ∈ c, ∀ t, P t → P (g t) := by
  split
  · exact hP.unusableHandings r
  · exact fun c hc => absurd hc (by simp)

theorem channelExpires (i : Fin 24) (h : P s) : P (channelExpires i s) := by
  unfold Machine.channelExpires
  split
  · exact hP.runtime i _ h
  · unfold enterLost
    refine keeps_interleave (hP.order (hP.runtime i _ h)) fun c hc => ?_
    rcases List.mem_cons.mp hc with rfl | hc
    · intro g hg t ht
      obtain rfl := List.mem_singleton.mp hg
      exact hP.notice _ _ _ ht
    · exact hP.lostHandings (hP.usableIf _ _) c hc
  · exact hP.runtime i _ h

theorem writeChannel (i : Fin 24) (d : ChannelDef) (h : P s) : P (writeChannel i d s) :=
  hP.examine (keeps_interleave (hP.order (hP.channels rfl h)) (hP.lostHandings (hP.usableIf _ _)))

theorem restartChannels (which : Option Nat) (h : P s) : P (restartChannels which s) := by
  refine hP.examine (keeps_interleave (hP.order (hP.channels rfl h)) (hP.lostHandings fun c hc => ?_))
  obtain ⟨cs, hcs, hmem⟩ := List.mem_flatten.mp hc
  obtain ⟨i, -, rfl⟩ := List.mem_map.mp hcs
  exact hP.unusableHandings _ c hmem

/-- The effects of the channels and the classifier. -/
theorem effect {T : List Block} (h : Effect T s t) (hT : T = touchClass) (hs : P s) : P t := by
  cases h with
  | sample f => exact hP.takeSample f hs
  | channelExpires i => exact hP.channelExpires i hs
  | writeChannel i d => exact hP.writeChannel i d hs
  | restartChannels which => exact hP.restartChannels which hs
  | adopt => exact hP.adopt hs
  | writeAxis a d hfits => exact hP.axis a d hfits hs
  | _ => exact absurd hT (by decide)

end Listening

theorem Heard.judgeLost (hP : Heard P) (h : P s) : P (judgeLost s) := by
  unfold Machine.judgeLost
  split
  · exact h
  · exact hP.setCondition _ _ (hP.channels rfl h)

theorem Heard.listening (hP : Heard P) : Listening P where
  order := hP.order
  notice := hP.notice
  channels := hP.channels
  judge := hP.judgeLost
  value a v {_} := hP.takeAxisValue a v
  freeze a {_} := hP.freezeAxis a
  kept r v {_} := hP.takeKept r v
  examine := hP.settleWaiting
  adopt := hP.adoptCandidate
  axis a d {_} _ := hP.writeAxis a d

namespace Moving

variable (hP : Moving P)
include hP

theorem judgeDriveFault (h : P s) : P (judgeDriveFault s) := by
  unfold Machine.judgeDriveFault
  split
  · exact h
  · exact hP.condition _ _ (hP.moves _ h)

theorem record (st : Setting) (r : MoveRecord) (h : P s) : P (setRecord st r s) := hP.moves _ h

theorem enterFault (st : Setting) (cause : FaultCause) (h : P s) : P (enterFault st cause s) := by
  unfold Machine.enterFault
  dsimp only
  split
  · exact h
  · refine keeps_interleave (hP.order (hP.record st _ h)) fun c hc => ?_
    rcases List.mem_append.mp hc with hc | hc
    · intro g hg t ht
      simp only [List.mem_cons, List.not_mem_nil, or_false] at hc
      rcases hc with rfl | rfl | rfl <;> obtain rfl := List.mem_singleton.mp hg
      · exact hP.notice _ _ _ ht
      · exact hP.exclusion _ ht
      · exact hP.judgeDriveFault ht
    · exact newlySettled_keep hP.settled hP.publish _ _ c hc

theorem endMove (st : Setting) (limited : Bool) {extra : List (List Handing)}
    (hextra : ∀ c ∈ extra, ∀ g ∈ c, ∀ t, P t → P (g t)) (h : P s) : P (endMove st limited extra s) := by
  refine keeps_interleave (hP.order (hP.record st _ h)) fun c hc => ?_
  rcases List.mem_append.mp hc with hc | hc
  · exact hextra c hc
  · split at hc
    · exact newlySettled_keep hP.settled hP.publish _ _ c hc
    · cases hc

theorem takeDone (st : Setting) (tag : Tag) (outcome : Nat) (actual : Word16) (h : P s) :
    P (takeDone st tag outcome actual s) := by
  unfold Machine.takeDone finishLeg
  dsimp only
  split
  · have hdone := hP.record st { s.record st with moveTimer := none, lastActual := some actual } h
    split
    · split
      · exact hP.endMove _ _ (fun c hc => absurd hc (by simp)) hdone
      · exact hP.issue _ hdone
    · refine hP.endMove _ _ (fun c hc g hg t ht => ?_) hdone
      obtain rfl := List.mem_singleton.mp hc
      obtain rfl := List.mem_singleton.mp hg
      exact hP.notice _ _ _ ht
    · exact hP.enterFault _ _ hdone
  · exact hP.moves _ h

theorem judgeManual (st : Setting) (bit : Bool) (actual : Word16) (h : P s) : P (judgeManual st bit actual s) := by
  unfold Machine.judgeManual
  dsimp only
  split
  · refine keeps_interleave (hP.order (hP.record st _ h)) fun c hc => ?_
    rcases List.mem_append.mp hc with hc | hc
    · intro g hg t ht
      simp only [List.mem_cons, List.not_mem_nil, or_false] at hc
      rcases hc with rfl | rfl <;> obtain rfl := List.mem_singleton.mp hg
      · exact hP.notice _ _ _ ht
      · exact hP.exclusion _ ht
    · exact newlySettled_keep hP.settled hP.publish _ _ c hc
  · split
    · exact hP.goal _ _ (hP.notice _ _ _ (hP.record st _ h))
    · exact hP.notice _ _ _ (hP.record st _ h)
  · exact h

theorem takeReport (st : Setting) (actual : Word16) (status : Byte) (h : P s) : P (takeReport st actual status s) := by
  unfold Machine.takeReport
  dsimp only
  split
  · exact hP.enterFault _ _ (hP.judgeManual _ _ _ (hP.record st _ h))
  · exact hP.judgeManual _ _ _ (hP.record st _ h)

theorem takeAccept (st : Setting) (tag : Tag) (h : P s) : P (takeAccept st tag s) := by
  unfold Machine.takeAccept
  dsimp only
  split
  · exact hP.record st _ h
  · exact hP.moves _ h

theorem takeDriveFrame (f : Frame) (h : P s) : P (takeDriveFrame f s) := by
  have hunmatched : P (countUnmatched s) := hP.moves _ h
  unfold Machine.takeDriveFrame
  split
  · split
    · exact hP.takeAccept _ _ h
    · exact hunmatched
  · split
    · exact hP.takeReport _ _ _ h
    · exact hunmatched
  · split
    · split
      · exact hunmatched
      · exact hP.takeDone _ _ _ _ h
    · exact hunmatched
  · exact h

theorem acceptExpires (st : Setting) (h : P s) : P (acceptExpires st s) := by
  unfold Machine.acceptExpires
  split
  · exact hP.enterFault _ _ h
  · exact hP.resend _ h

theorem trackingExpires (st : Setting) (h : P s) : P (trackingExpires st s) := by
  unfold Machine.trackingExpires
  dsimp only
  split
  · exact hP.record st _ h
  · exact hP.enterFault _ _ (hP.record st _ h)
  · exact hP.record st _ h

theorem repairMoves (h : P s) : P (repairMoves s) := by
  refine keeps_foldl _ (hP.judgeDriveFault (hP.moves _ h)) fun st t ht => ?_
  unfold giveAgain
  split
  · exact hP.goal _ _ ht
  · exact ht

theorem relayoutMoves (roster : PerSetting RosterEntry) (h : P s) : P (relayoutMoves roster s) := by
  refine keeps_interleave (hP.order (hP.moves _ h)) fun c hc => ?_
  rcases List.mem_append.mp hc with hc | hc
  · intro g hg t ht
    obtain rfl := List.mem_singleton.mp hc
    obtain rfl := List.mem_singleton.mp hg
    exact hP.judgeDriveFault ht
  · exact settledOf_keep hP.settled hP.publish _ c hc

theorem discardDeferred (h : P s) : P (discardDeferred s) :=
  keeps_interleave (hP.order (hP.moves _ h)) (settledOf_keep hP.settled hP.publish _)

theorem releaseDeferred (st : Setting) (h : P s) : P (releaseDeferred st s) := by
  unfold Machine.releaseDeferred
  split
  · exact hP.goal _ _ (hP.record st _ h)
  · exact h

theorem releaseDeferredOnce (st : Setting) (h : P s) : P (releaseDeferredOnce st s) := by
  unfold Machine.releaseDeferredOnce issueOverHold
  split
  · dsimp only
    split
    · exact hP.record st _ h
    · exact hP.issue _ (hP.record st _ h)
  · exact h

/-- The effects of the arbiter and of the move unit. -/
theorem effect {T : List Block} (h : Effect T s t) (hT : T = touchGuards ∨ T = touchMoves) (hs : P s) : P t := by
  cases h with
  | clash p => exact hP.clash p hs
  | drive f => exact hP.takeDriveFrame f hs
  | settle => exact hP.settle hs
  | acceptExpires st => exact hP.acceptExpires st hs
  | moveExpires st => exact hP.enterFault st _ hs
  | trackingExpires st => exact hP.trackingExpires st hs
  | repair => exact hP.repairMoves hs
  | releaseDeferred st => exact hP.releaseDeferred st hs
  | releaseOnce st => exact hP.releaseDeferredOnce st hs
  | relayout roster => exact hP.relayoutMoves roster hs
  | condition n active => exact hP.condition n active hs
  | slipTimer w x => exact hP.slip w x hs
  | release n cause => exact hP.release n cause hs
  | releaseNamed n => exact hP.releaseNamed n hs
  | configure n f hok => exact hP.configure n f hok hs
  | masks mask => exact hP.masks mask hs
  | floor floor hok => exact hP.floor floor hok hs
  | raiseOperator => exact hP.operator hs
  | _ => exact absurd hT (by decide)

end Moving

theorem Moved.moving (hP : Moved P) : Moving P where
  toArbitrated := hP.arbitrated
  order := hP.order
  publish := hP.publish
  notice := hP.notice
  settled := hP.settled
  exclusion := hP.exclusion
  moves := hP.moves
  goal := hP.goal
  issue := hP.issue
  resend := hP.resend

/-- What a wide predicate keeps of the effects of the channel unit, the classifier, the arbiter and the move unit. -/
theorem Wide.effect (hP : Wide P) {T : List Block} (h : Effect T s t)
    (hT : T = touchGuards ∨ T = touchClass ∨ T = touchMoves) (hs : P s) : P t := by
  rcases hT with hT | hT | hT
  · exact hP.toMoved.moving.effect h (.inl hT) hs
  · exact hP.toHeard.listening.effect h hT hs
  · exact hP.toMoved.moving.effect h (.inr hT) hs

/-! ### The ends of a cycle -/

namespace Cycled

variable (hP : Cycled P)
include hP

theorem windowBEnds (h : P s) : P (windowBEnds s) := by
  unfold Machine.windowBEnds
  have hresult := hP.result (some ((s.withChannels s.channels.closeGate).windowResult s.regulator.state.resultKind))
    (hP.closeGate h)
  refine keeps_interleave (hP.order hresult) fun c hc g hg t ht => ?_
  simp only [List.mem_cons, List.not_mem_nil, or_false] at hc
  rcases hc with rfl | rfl
  · obtain rfl := List.mem_singleton.mp hg
    exact hP.publish ht
  · simp only [List.mem_cons, List.not_mem_nil, or_false] at hg
    rcases hg with rfl | rfl
    · exact hP.afterResult hP.keep _ ht
    · unfold handLossAlarm
      split
      · exact hP.lossAlarm ht
      · exact ht

theorem loseOwner (h : P s) : P (loseOwner s) := by
  refine keeps_interleave (hP.order (hP.orphaned h)) fun c hc g hg t ht => ?_
  rcases List.mem_append.mp hc with hc | hc
  · split at hc
    · cases hc
    · obtain rfl := List.mem_singleton.mp hc
      obtain rfl := List.mem_singleton.mp hg
      exact hP.publish ht
  · simp only [List.mem_cons, List.not_mem_nil, or_false] at hc
    rcases hc with rfl | rfl <;> obtain rfl := List.mem_singleton.mp hg
    · exact hP.letGo ht
    · exact hP.regOwnerLoss _ ht

theorem startRegulating (h : P s) : P (startRegulating s) :=
  keeps_pair (hP.order (hP.duty _ h)) (fun _ => hP.publish) (fun _ => hP.takeStart)

theorem takeStop (h : P s) : P (takeStop s) :=
  keeps_pair (hP.order (hP.regulator _ rfl (hP.leaveSafe _ (hP.abandonCycle h)))) (fun _ => hP.publish)
    (fun _ => hP.discard)

theorem stopRegulating (h : P s) : P (stopRegulating s) :=
  keeps_pair (hP.order (hP.duty _ h)) (fun _ => hP.publish) (fun _ => hP.takeStop)

/-- The effects of the regulation cycle. -/
theorem effect {T : List Block} (h : Effect T s t) (hT : T ∈ cycleTouches)
    (hs : P s) : P t := by
  cases h with
  | windowA => exact hP.windowAEnds hs
  | windowB => exact hP.windowBEnds hs
  | retarget => exact hP.takeRetarget hs
  | loseOwner => exact hP.loseOwner hs
  | start => exact hP.startRegulating hs
  | stop => exact hP.stopRegulating hs
  | _ => exact absurd hT (by decide)

end Cycled


end Sys2Proof.Machine
end

section
/-! PROOF. Predicates that read the lines, the link, the notices, the pictures and the management unit alone
(`Broad`): what they need so that the effects of a command keep them. -/

namespace Sys2Proof.Machine

variable {P : State → Prop} {s t u : State}

/-- The blocks that a broad predicate does not read. -/
def broadBlocks : List Block :=
  [.partTime, .channels, .classifier, .map, .moves, .regulator, .guards, .safe, .store, .keep, .order]

/-- A predicate on the lines, the link, the notices, the pictures and the management unit that is kept by SAFE_OUT, a
picture, a notice, a SET, an IDENT_ASK, and by a management unit with the same attention enable. -/
structure Broad (P : State → Prop) : Prop where
  frame : ∀ {s t}, OnlyTouches broadBlocks s t → P s → P t
  mgmt : ∀ {x : Mgmt} {s}, x.params.attentionEnable = s.mgmt.params.attentionEnable → P s → P (s.withMgmt x)
  safeOut : ∀ b {s}, P s → P (driveSafeOut b s)
  publish : ∀ {s}, P s → P (publish s)
  notice : ∀ kind subject detail {s}, P s → P (raiseNotice kind subject detail s)
  setQueued : ∀ st {s}, P s → P (queueSet st s)
  asked : ∀ st {s}, P s → P (askIdent st s)

/-- The lengths TUNE WINDOWS writes are no other items (R117). -/
theorem Params.item_write_of_ne {p : Params} {k j : Nat} {v : Word16} (h : j ≠ k) : (p.write k v).item j = p.item j := by
  unfold Params.item Params.write Table.put
  split
  · rename_i hk
    unfold Table.get?
    split
    · simp [Table.get, Table.set, Ne.symm h]
    · rfl
  · rfl

theorem Params.item_tune {p : Params} {a b c : Word16} {j : Nat} (h : j ≠ 26 ∧ j ≠ 27 ∧ j ≠ 28) :
    (p.tune a b c).item j = p.item j := by
  obtain ⟨h26, h27, h28⟩ := h
  rw [Params.tune, Params.item_write_of_ne h28, Params.item_write_of_ne h27, Params.item_write_of_ne h26]

namespace Broad

variable (hP : Broad P)
include hP

theorem moves (x : MoveUnit) (h : P s) : P (s.withMoves x) :=
  hP.frame (touches_withMoves (by decide) (.refl _ s) x) h

theorem issue (st : Setting) (h : P s) : P (issueSet st s) := by
  unfold issueSet
  split
  · exact h
  · exact hP.setQueued st (hP.moves _ h)

theorem goal (st : Setting) (g : Goal) (h : P s) : P (giveGoal st g s) := by
  unfold giveGoal
  split
  · exact hP.moves _ h
  · split
    · exact hP.moves _ h
    · exact hP.issue st (hP.moves _ h)

theorem channels (x : ChannelUnit) (h : P s) : P (s.withChannels x) :=
  hP.frame (touches_withChannels (by decide) (.refl _ s) x) h

theorem quiet : Quiet P where
  touches h := hP.frame (h.mono (by decide))
  regulator x {_} _ h := hP.frame (touches_withRegulator (by decide) (.refl _ _) x) h
  result _ {_} h := hP.frame (touches_withRegulator (by decide) (.refl _ _) _) h
  openGate := hP.channels _
  closeGate := hP.channels _
  safeOut := hP.safeOut
  publish := hP.publish
  notice := hP.notice
  goal st g {_} := hP.goal st g

theorem wide : Wide P where
  toSteady := hP.quiet.steady
  moves x {_} := hP.moves x
  channels _ h := hP.channels _ h
  goal st g {_} := hP.goal st g
  issue st {_} := hP.issue st
  resend st {_} h := hP.setQueued st (hP.moves _ h)

theorem cycled : Cycled P where
  toQuiet := hP.quiet
  keep k {s} h := hP.frame ((touches_handKeep (T := [.map, .keep, .order]) (by decide) (.refl _ s) k).mono (by decide)) h
  lossAlarm := hP.wide.takeEvent _
  discard := hP.wide.moving.discardDeferred
  letGo h := hP.wide.moving.discardDeferred (hP.moves _ h)
  orphaned {s} h := hP.frame (touches_withSafe (by decide) (.refl _ _) _) (hP.mgmt (s := s) rfl h)
  duty _ {_} h := hP.mgmt rfl h

theorem endChecking (next : PartState) (kind : NoticeKind) (subject detail : Nat) (h : P s) :
    P (endChecking next kind subject detail s) :=
  keeps_pair (hP.quiet.order (hP.mgmt rfl h)) (fun _ => hP.notice _ _ _) (fun _ => hP.publish)

theorem askSetting (st : Setting) (asks : Nat) (h : P s) : P (askSetting st asks s) := hP.asked st (hP.mgmt rfl h)

theorem takeIdent (f : Frame) (h : P s) : P (takeIdent f s) := by
  unfold Machine.takeIdent
  split
  · split
    · split
      · unfold passDrive
        split
        · exact hP.askSetting _ _ h
        · exact hP.endChecking _ _ _ _ h
      · exact hP.endChecking _ _ _ _ h
    · exact h
  · exact h

theorem answerExpires (c : Checking) (h : P s) : P (answerExpires c s) := by
  unfold Machine.answerExpires
  split
  · exact hP.askSetting _ _ h
  · exact hP.endChecking _ _ _ _ h

theorem enterPart (p : PartState) (h : P s) : P (enterPart p s) := hP.publish (hP.mgmt rfl h)

/-- The effects that a broad predicate leaves to be looked at: those of the ports, the lines, the notices, the picture
buffers, PARAM CLOSE and the resets. -/
def narrowTouches : List (List Block) :=
  [[.link], touchReply, touchCollision, [.pins], [.mgmt, .pins, .pictures], [.notices], [.notices, .pins], [.pictures],
   touchReset, [.pins, .mgmt, .store]]

/-- A broad predicate is kept by every other effect. -/
theorem effect {T : List Block} (h : Effect T s t) (hT : T ∉ narrowTouches) (hs : P s) : P t := by
  by_cases hwide : T = touchGuards ∨ T = touchClass ∨ T = touchMoves
  · exact hP.wide.effect h hwide hs
  by_cases hcycle : T ∈ cycleTouches
  · exact hP.cycled.effect h hcycle hs
  by_cases hframe : T ⊆ broadBlocks
  · exact hP.frame (h.onlyTouches.mono hframe) hs
  cases h with
  | ident f => exact hP.takeIdent f hs
  | inbox l => exact hP.mgmt rfl hs
  | claim o => exact hP.mgmt rfl hs
  | notice kind subject detail => exact hP.notice _ _ _ hs
  | pendingParams p => exact hP.mgmt rfl hs
  | enterAwaitParam => exact hP.enterPart _ hs
  | tune =>
    refine hP.mgmt ?_ hs
    rw [Params.attentionEnable, Params.item_tune (by decide)]
    rfl
  | startChecking => exact hP.askSetting _ _ (hP.enterPart _ hs)
  | answerExpires c => exact hP.answerExpires c hs
  | reading j => exact hP.mgmt rfl hs
  | startSave r => exact hP.mgmt rfl hs
  | saved j => exact hP.mgmt rfl (hP.frame (touches_withStore (by decide) (.refl _ s) _) hs)
  | _ =>
    first
    | exact absurd (by decide) hT
    | exact absurd (by decide) hwide
    | exact absurd (by decide) hcycle
    | exact absurd (by decide) hframe

end Broad

end Sys2Proof.Machine
end

section
/-! PROOF. The picture buffers and the notice ring through every step (O6). -/

namespace Sys2Proof.Machine

variable {P : State → Prop} {s t u : State}

/-! ### Tables -/

namespace Table

variable {α β : Type} {n : Nat}

theorem get?_eq_getElem? (tb : Table α n) (k : Nat) : tb.get? k = tb.list[k]? := by
  unfold Table.get? Table.get
  split
  · rename_i h
    exact (List.getElem?_eq_getElem (tb.size.symm ▸ h)).symm
  · rename_i h
    exact (List.getElem?_eq_none (tb.size.symm ▸ Nat.not_lt.mp h)).symm

theorem get?_put (tb : Table α n) (k j : Nat) (a : α) :
    (tb.put k a).get? j = if j = k ∧ k < n then some a else tb.get? j := by
  rw [get?_eq_getElem?, get?_eq_getElem?]
  unfold Table.put
  split
  · rename_i hk
    change (tb.list.set k a)[j]? = _
    rw [List.getElem?_set]
    by_cases hj : j = k
    · subst hj
      simp [hk, tb.size]
    · simp [hj, Ne.symm hj]
  · rename_i hk
    simp [hk]

end Table

/-! ### The picture buffers -/

/-- The sound row of roles: one U, at most one N (R198). -/
def rolesSound (l : List BufferRole) : Bool := (l.filter (· = .u)).length == 1 && decide ((l.filter (· = .n)).length ≤ 1)

theorem PictureUnit.sound_eq (x : PictureUnit) : x.sound = rolesSound (x.buffers.list.map Buffer.role) := by
  simp only [PictureUnit.sound, rolesSound, List.filter_map, List.length_map]
  rfl

theorem exists_three {α : Type} {l : List α} (h : l.length = 3) : ∃ a b c, l = [a, b, c] := by
  match l, h with
  | [a, b, c], _ => exact ⟨a, b, c, rfl⟩

/-- Three buffers, by their roles. -/
theorem PictureUnit.buffers_eq (x : PictureUnit) : ∃ a b c, x.buffers = ⟨[a, b, c], rfl⟩ := by
  obtain ⟨_, ⟨l, hl⟩⟩ := x
  obtain ⟨a, b, c, rfl⟩ := exists_three hl
  exact ⟨a, b, c, rfl⟩

/-- A previous N becomes F (R198 step 4). -/
def BufferRole.freed (r : BufferRole) : BufferRole := if r = .n then .f else r

/-- The roles after a picture is published: the first F becomes the N (R198 steps 3 and 4). -/
def publishedRoles (a b c : BufferRole) : List BufferRole :=
  if a = .f then [.n, b.freed, c.freed] else if b = .f then [a.freed, .n, c.freed]
  else if c = .f then [a.freed, b.freed, .n] else [a, b, c]

theorem rolesSound_publishedRoles (a b c : BufferRole) (h : rolesSound [a, b, c] = true) :
    rolesSound (publishedRoles a b c) = true := by
  revert h
  cases a <;> cases b <;> cases c <;> decide

theorem PictureUnit.roles_publish {x : PictureUnit} {p : Picture} {a b c : Buffer} (hx : x.buffers = ⟨[a, b, c], rfl⟩) :
    (x.publish p).buffers.list.map Buffer.role = publishedRoles a.role b.role c.role := by
  obtain ⟨ra, pa⟩ := a
  obtain ⟨rb, pb⟩ := b
  obtain ⟨rc, pc⟩ := c
  unfold PictureUnit.publish PictureUnit.freeBuffer
  rw [hx]
  cases ra <;> cases rb <;> cases rc <;> rfl

/-- A picture published leaves one U and at most one N (R198). -/
theorem PictureUnit.sound_publish {x : PictureUnit} {p : Picture} (h : x.sound = true) : (x.publish p).sound = true := by
  obtain ⟨a, b, c, hx⟩ := x.buffers_eq
  rw [PictureUnit.sound_eq, hx] at h
  rw [PictureUnit.sound_eq, roles_publish hx]
  exact rolesSound_publishedRoles _ _ _ h

/-- The roles as a read begins (R199 step 1). -/
def BufferRole.turn : BufferRole → BufferRole
  | .n => .u
  | .u => .f
  | .f => .f

theorem Buffer.role_turn (b : Buffer) : b.turn.role = b.role.turn := by
  obtain ⟨r, p⟩ := b
  cases r <;> rfl

/-- A read that begins turns the only N into the only U (R199). -/
theorem PictureUnit.sound_turn {x : PictureUnit} (h : x.sound = true) : x.turn.sound = true := by
  unfold PictureUnit.turn
  split
  · rename_i hn
    obtain ⟨a, b, c, hx⟩ := x.buffers_eq
    rw [PictureUnit.sound_eq, hx] at h
    rw [hx] at hn
    have hroles : (x.buffers.map Buffer.turn).list.map Buffer.role = [a.role.turn, b.role.turn, c.role.turn] := by
      rw [hx]
      simp only [Table.map, List.map_cons, List.map_nil, Buffer.role_turn]
    rw [PictureUnit.sound_eq, hroles]
    simp only [List.any_cons, List.any_nil] at hn
    simp only [List.map_cons, List.map_nil] at h
    revert h hn
    generalize a.role = a
    generalize b.role = b
    generalize c.role = c
    cases a <;> cases b <;> cases c <;> decide
  · exact h

/-- An IDENT_ASK joins a queue, and nothing else happens. -/
theorem askIdent_touches (st : Setting) (s : State) : OnlyTouches [.link] s (askIdent st s) := by
  unfold askIdent
  split
  · exact touches_queuePart (List.Subset.refl _) (.refl _ _) _
  · exact .refl _ _

theorem soundPictures_broad : Broad (fun s => s.pictures.sound = true) where
  frame h hs := by rw [h.pictures (by decide)]; exact hs
  mgmt _ h := h
  safeOut _ {_} h := h
  publish h := PictureUnit.sound_publish h
  notice kind subject detail {s} h := by
    rw [(touches_raiseNotice (T := touchNotices) (by decide) (.refl _ s) kind subject detail).pictures (by decide)]
    exact h
  setQueued st {s} h := by
    rw [(touches_queueSet (T := [.link]) (by decide) (.refl _ s) st).pictures (by decide)]; exact h
  asked st {s} h := by rw [(askIdent_touches st s).pictures (by decide)]; exact h

theorem resetPictures_sound (i : Image) : (resetPictures i).sound = true := by
  rw [PictureUnit.sound_eq]
  rfl

/-- Every effect keeps the picture buffers sound. -/
theorem Effect.soundPictures {T : List Block} (h : Effect T s t) (hs : s.pictures.sound = true) :
    t.pictures.sound = true := by
  by_cases hbroad : T ∉ Broad.narrowTouches
  · exact soundPictures_broad.effect h hbroad hs
  by_cases hT : Block.pictures ∉ T
  · rw [h.onlyTouches.pictures hT]; exact hs
  have hrest := not_or.mpr ⟨hbroad, hT⟩
  cases h with
  | collided p i n e =>
    have hsent : ∀ f : PortState → PortState, (updPort p f s).pictures.sound = true := fun _ => hs
    unfold collideFrame dropInProgress
    split
    · exact hsent _
    · refine keeps_triple (P := fun s => s.pictures.sound = true) (fun _ => hsent fun ps => ps.dropFrame i e)
        (fun _ => soundPictures_broad.notice _ _ _) (fun _ => soundPictures_broad.wide.takeEvent _) (fun u hu => ?_)
      rw [(touches_reportLeft (T := [.mgmt]) (by decide) (.refl _ u) p e).pictures (by decide)]
      exact hu
  | closeParams => exact PictureUnit.sound_publish hs
  | turn => exact PictureUnit.sound_turn hs
  | reset straps =>
    rw [resetPart, (touches_judgeStore (T := touchNotices) (by decide) (.refl _ _)).pictures (by decide)]
    exact resetPictures_sound _
  | _ => exact absurd (by decide) hrest

/-! ### The notice ring -/

theorem noticesSound_iff : s.noticesSound = true ↔
    s.pins.attn = (s.mgmt.params.attentionEnable && decide (s.notices.held ≠ 0)) ∧
    ∀ k < s.notices.held, (s.notices.nth k).isSome = true := by
  simp only [State.noticesSound, Bool.and_eq_true, beq_iff_eq, List.all_eq_true, List.mem_range]

namespace NoticeUnit

variable (n : NoticeUnit)

theorem held_le : n.held ≤ 31 := by
  have := (n.writePoint - n.readPoint).isLt
  rw [NoticeUnit.held]
  omega

theorem held_join (x : Notice) (h : n.held ≠ 31) : (n.join x).held = n.held + 1 := by
  have hle := n.held_le
  simp only [NoticeUnit.held, NoticeUnit.join] at *
  have : n.writePoint + 1#5 - n.readPoint = (n.writePoint - n.readPoint) + 1#5 := by bv_omega
  rw [this, BitVec.toNat_add]
  have hone : (1#5).toNat = 1 := rfl
  omega

/-- The slots the ring holds stay as they are when a notice joins, and the slot after them takes it (R195). -/
theorem nth_join (x : Notice) {k : Nat} (hk : k ≤ n.held) (h : n.held ≠ 31) :
    (n.join x).nth k = if k = n.held then some x else n.nth k := by
  have hle := n.held_le
  have hslot : (n.readPoint + BitVec.ofNat 5 k).toNat = n.writePoint.toNat ↔ k = n.held := by
    rw [NoticeUnit.held] at *
    rw [BitVec.toNat_add, BitVec.toNat_ofNat]
    rw [BitVec.toNat_sub] at *
    have := n.readPoint.isLt
    have := n.writePoint.isLt
    omega
  unfold NoticeUnit.nth NoticeUnit.join
  rw [Table.get?_put]
  simp only [hslot, n.writePoint.isLt, and_true]
  split <;> rfl

theorem held_advance {k : Nat} (h : k ≤ n.held) : (n.advance k).held = n.held - k := by
  have hle := n.held_le
  simp only [NoticeUnit.held, NoticeUnit.advance] at *
  rw [BitVec.toNat_sub, BitVec.toNat_sub] at *
  rw [BitVec.toNat_add, BitVec.toNat_ofNat] at *
  have := n.readPoint.isLt
  have := n.writePoint.isLt
  omega

theorem nth_advance (k j : Nat) : (n.advance k).nth j = n.nth (k + j) := by
  unfold NoticeUnit.nth NoticeUnit.advance
  rw [BitVec.ofNat_add, BitVec.add_assoc]

end NoticeUnit

theorem sendAttention_notices (s : State) : OnlyTouches [.link] s (sendAttention s) :=
  touches_sendAttention (List.Subset.refl _) (.refl _ s)

theorem noticesSound_of_eq (ha : t.pins.attn = s.pins.attn)
    (hp : t.mgmt.params.attentionEnable = s.mgmt.params.attentionEnable) (hn : t.notices = s.notices)
    (hs : s.noticesSound = true) : t.noticesSound = true := by
  rw [noticesSound_iff] at hs ⊢
  rw [ha, hp, hn]
  exact hs

/-- The lost-notice counter is not looked at. -/
theorem noticesSound_withLost (w : Word16) (hs : s.noticesSound = true) :
    (s.withNotices { s.notices with lost := w }).noticesSound = true := hs

theorem noticesSound_raiseNotice (kind : NoticeKind) (subject : Nat) (detail : Word16) (hs : s.noticesSound = true) :
    (raiseNotice kind subject detail s).noticesSound = true := by
  unfold raiseNotice
  split
  · split
    · exact noticesSound_withLost _ hs
    · rename_i hfull
      change s.notices.held ≠ 31 at hfull
      obtain ⟨-, hheld⟩ := noticesSound_iff.mp hs
      have hjoined (x : Notice) : (judgeAttn (s.withNotices (s.notices.join x))).noticesSound = true := by
        refine noticesSound_iff.mpr ⟨rfl, fun k hk => ?_⟩
        change k < (s.notices.join x).held at hk
        change ((s.notices.join x).nth k).isSome = true
        rw [NoticeUnit.held_join _ _ hfull] at hk
        rw [NoticeUnit.nth_join _ _ (by omega) hfull]
        split
        · rfl
        · exact hheld k (by omega)
      dsimp only
      split
      · have h := sendAttention_notices (judgeAttn (s.withNotices (s.notices.join
          ⟨kind, s.partTime, byteOf subject, detail⟩)))
        exact noticesSound_of_eq (by rw [h.pins (by decide)]) (by rw [h.mgmt (by decide)]) (h.notices (by decide))
          (hjoined _)
      · exact hjoined _
  · exact hs

theorem noticesSound_of_touches {T : List Block} (h : OnlyTouches T s t) (hp : Block.pins ∉ T) (hm : Block.mgmt ∉ T)
    (hn : Block.notices ∉ T) (hs : s.noticesSound = true) : t.noticesSound = true :=
  noticesSound_of_eq (by rw [h.pins hp]) (by rw [h.mgmt hm]) (h.notices hn) hs

theorem noticesSound_broad : Broad (fun s => s.noticesSound = true) where
  frame h hs := noticesSound_of_touches h (by decide) (by decide) (by decide) hs
  mgmt {_ s} hx h := noticesSound_of_eq (s := s) rfl hx rfl h
  safeOut _ {_} h := h
  publish h := h
  notice kind subject detail {_} h := noticesSound_raiseNotice kind subject detail h
  setQueued st {s} h := noticesSound_of_touches (touches_queueSet (T := [.link]) (by decide) (.refl _ s) st)
    (by decide) (by decide) (by decide) h
  asked st {s} h := noticesSound_of_touches (askIdent_touches st s) (by decide) (by decide) (by decide) h

/-- The notices removed are the oldest; the others stay (R196). -/
theorem noticesSound_removeNotices (hs : s.noticesSound = true) : (removeNotices s).noticesSound = true := by
  obtain ⟨-, hheld⟩ := noticesSound_iff.mp hs
  have hle : s.notices.fetchCount ≤ s.notices.held := Nat.min_le_left _ _
  refine noticesSound_iff.mpr ⟨rfl, fun k hk => ?_⟩
  change k < (s.notices.advance _).held at hk
  change ((s.notices.advance _).nth k).isSome = true
  rw [NoticeUnit.held_advance _ hle] at hk
  rw [NoticeUnit.nth_advance]
  exact hheld _ (by omega)

theorem noticesSound_cutShort (hs : s.noticesSound = true) : (cutShort s).noticesSound = true := by
  unfold cutShort
  split <;> exact hs

/-- Every effect keeps the notices sound. -/
theorem Effect.noticesSound {T : List Block} (h : Effect T s t) (hs : s.noticesSound = true) :
    t.noticesSound = true := by
  have hbroad := noticesSound_broad
  by_cases hnarrow : T ∉ Broad.narrowTouches
  · exact hbroad.effect h hnarrow hs
  by_cases hT : Block.pins ∉ T ∧ Block.mgmt ∉ T ∧ Block.notices ∉ T
  · exact noticesSound_of_touches h.onlyTouches hT.1 hT.2.1 hT.2.2 hs
  have hduties {t : State} (hd : SameDuties s t) (hl : OnlyTouches touchReply s t) : t.noticesSound = true :=
    noticesSound_of_eq (by rw [hl.pins (by decide)]) (by rw [hd.params]) (hl.notices (by decide)) hs
  have hrest := not_or.mpr ⟨hnarrow, hT⟩
  cases h with
  | sent p i n e ht he => exact hduties (.sentFrame _ _ _ _) (Effect.onlyTouches (.sent p i n e ht he))
  | reply r => exact hduties (.readyReply _ _) (Effect.onlyTouches (.reply r))
  | handOver p => exact hduties (.handOver _ _) (Effect.onlyTouches (.handOver p))
  | collided p i n e =>
    have hsent : ∀ f : PortState → PortState, (updPort p f s).noticesSound = true := fun _ => hs
    unfold collideFrame dropInProgress
    split
    · exact hsent _
    · refine keeps_triple (P := fun s => s.noticesSound = true) (fun _ => hsent fun ps => ps.dropFrame i e)
        (fun _ => hbroad.notice _ _ _) (fun _ => hbroad.wide.takeEvent _) (fun u hu => ?_)
      have hl := touches_reportLeft (T := [.mgmt]) (by decide) (.refl _ u) p e
      exact noticesSound_of_eq (by rw [hl.pins (by decide)]) (by rw [(SameDuties.reportLeft p e u).params])
        (hl.notices (by decide)) hu
  | lines => exact hs
  | closeParams =>
    obtain ⟨-, hheld⟩ := noticesSound_iff.mp hs
    exact noticesSound_iff.mpr ⟨rfl, hheld⟩
  | clearLost => exact noticesSound_withLost _ hs
  | removeNotices => exact noticesSound_removeNotices hs
  | reset straps =>
    unfold resetPart judgeStore
    have hreset : (resetBlocks straps (cutShort s)).noticesSound = true := by
      have hheld : (resetBlocks straps (cutShort s)).notices.held = 0 := show resetNotices.held = 0 by decide
      rw [noticesSound_iff, hheld]
      exact ⟨(Bool.and_false _).symm, fun k hk => absurd hk (Nat.not_lt_zero k)⟩
    split
    · exact hbroad.notice _ _ _ hreset
    · exact hreset
  | resetDriven => exact noticesSound_of_eq (s := cutShort s) rfl rfl rfl (noticesSound_cutShort hs)
  | _ => exact absurd (by decide) hrest

/-- Settles O6: every effect keeps the picture buffers, and the ATTN line with the ring; the ring's two points are 5
bits apart. -/
theorem stepsKeepThePicturesAndNoticesInOrder : Obligations.StepsKeepThePicturesAndNoticesInOrder := by
  refine ⟨fun s t hs h => ?_, fun s t hs h => ?_, fun s => s.notices.held_le⟩
  · exact step_keeps (P := fun s => s.pictures.sound = true) (fun _ _ h => h) (fun _ _ _ h => h.soundPictures) hs h
  · exact step_keeps (P := fun s => s.noticesSound = true) (fun _ _ h => h) (fun _ _ _ h => h.noticesSound) hs h

end Sys2Proof.Machine
end

section
/-! PROOF. The transmit queues through every step (O14): a queue seen as the row of its marks, each a forwarded
frame or a part frame's sort. -/

namespace Sys2Proof.Machine

variable {s t u : State} {q : PortState} {f g : Frame} {e d : Entry}

/-! ### Sorts -/

/-- The four kinds of frame that have a sort (R15, R18, R19). -/
theorem partSort_eq_some {n : Nat} : partSort f = some n ↔
    (f.kind = .set ∧ n < 5 ∧ f.payload.head?.map BitVec.toNat = some n) ∨ (f.kind = .identAsk ∧ n = 5) ∨
    (f.kind = .attention ∧ n = 6) ∨ (f.kind = .reply ∧ n = 7) := by
  unfold partSort
  split
  · rename_i b rest hk hp
    rw [hk, hp]
    simp only [Option.ite_none_right_eq_some, Option.some.injEq, List.head?_cons, Option.map_some]
    constructor
    · rintro ⟨h, rfl⟩; exact .inl ⟨trivial, h, rfl⟩
    · rintro (⟨-, h, hn⟩ | ⟨h, -⟩ | ⟨h, -⟩ | ⟨h, -⟩)
      · exact ⟨hn ▸ h, hn⟩
      all_goals cases h
  · rename_i hk; rw [hk]; simp [eq_comm]
  · rename_i hk; rw [hk]; simp [eq_comm]
  · rename_i hk; rw [hk]; simp [eq_comm]
  · rename_i hask hatt hreply hset
    refine ⟨nofun, ?_⟩
    rintro (⟨hk, -, hp⟩ | ⟨hk, -⟩ | ⟨hk, -⟩ | ⟨hk, -⟩)
    · cases hpay : f.payload with
      | nil => rw [hpay] at hp; cases hp
      | cons b rest => exact absurd hpay (hset b rest hk)
    · exact absurd hk hask
    · exact absurd hk hatt
    · exact absurd hk hreply

theorem partSort_le {n : Nat} (h : partSort f = some n) : n ≤ 7 := by
  rcases partSort_eq_some.mp h with ⟨-, h, -⟩ | ⟨-, h⟩ | ⟨-, h⟩ | ⟨-, h⟩ <;> omega

/-- The REPLY frames are those of sort 7. -/
theorem partSort_eq_seven : partSort f = some 7 ↔ f.kind = .reply := by
  rw [partSort_eq_some]
  constructor
  · rintro (⟨-, h, -⟩ | ⟨-, h⟩ | ⟨-, h⟩ | ⟨h, -⟩)
    · omega
    · cases h
    · cases h
    · exact h
  · exact fun h => .inr (.inr (.inr ⟨h, rfl⟩))

/-- Between frames of a sort, to take another's place is to be of the same sort, and no REPLY (R18). -/
theorem replaces_iff (hf : (partSort f).isSome = true) (hg : (partSort g).isSome = true) :
    replaces f g = true ↔ partSort f = partSort g ∧ partSort f ≠ some 7 := by
  obtain ⟨m, hm⟩ := Option.isSome_iff_exists.mp hf
  obtain ⟨n, hn⟩ := Option.isSome_iff_exists.mp hg
  rw [hm, hn]
  unfold replaces
  rcases partSort_eq_some.mp hm with ⟨hf, hlt, hpf⟩ | ⟨hf, rfl⟩ | ⟨hf, rfl⟩ | ⟨hf, rfl⟩ <;>
    rcases partSort_eq_some.mp hn with ⟨hg, hlt', hpg⟩ | ⟨hg, rfl⟩ | ⟨hg, rfl⟩ | ⟨hg, rfl⟩ <;>
    rw [hf, hg]
  case inl.inl =>
    have hsame : f.payload.head? = g.payload.head? ↔ m = n := by
      obtain ⟨a, ha, rfl⟩ := Option.map_eq_some_iff.mp hpf
      obtain ⟨b, hb, rfl⟩ := Option.map_eq_some_iff.mp hpg
      rw [ha, hb, Option.some.injEq, BitVec.toNat_inj]
    simp only [decide_eq_true_eq, hsame, Option.some.injEq, ne_eq]
    omega
  all_goals
    simp
    try omega

/-! ### Marks -/

/-- What a queue is judged by: a part frame with its sort, or a forwarded frame (none). -/
def Entry.mark (e : Entry) : Option (Option Nat) := if e.isPart then some (partSort e.frame) else none

/-- The marks of a queue, oldest first. -/
def PortState.marks (q : PortState) : List (Option (Option Nat)) := q.queue.map Entry.mark

theorem PortState.sorts_eq (q : PortState) : q.sorts = q.marks.filterMap id := by
  unfold PortState.sorts PortState.marks
  induction q.queue with
  | nil => rfl
  | cons e es ih =>
    rw [List.map_cons, List.filter_cons]
    by_cases h : e.isPart = true
    · rw [if_pos h, List.map_cons, ih]
      simp [Entry.mark, h]
    · rw [if_neg h, ih]
      simp [Entry.mark, h]

theorem PortState.forwardCount_eq (q : PortState) : q.forwardCount = (q.marks.filter Option.isNone).length := by
  unfold PortState.forwardCount PortState.marks
  rw [List.filter_map, List.length_map]
  congr 1
  refine List.filter_congr fun e _ => ?_
  simp only [Function.comp, Entry.mark]
  cases e.isPart <;> rfl

theorem noRepeat_iff {α : Type} [DecidableEq α] (l : List α) : noRepeat l = true ↔ l.Nodup := by
  induction l with
  | nil => simp [noRepeat]
  | cons x xs ih => simp [noRepeat, ih]

/-- A sound queue: each entry is, the sorts are all different, and 16 entries at most are forwarded frames (R15). -/
theorem PortState.sound_iff : q.sound = true ↔
    (∀ e ∈ q.queue, e.sound = true) ∧ (q.marks.filterMap id).Nodup ∧ (q.marks.filter Option.isNone).length ≤ 16 ∧
    q.progressSound = true := by
  simp only [PortState.sound, Bool.and_eq_true, List.all_eq_true, noRepeat_iff, PortState.sorts_eq,
    PortState.forwardCount_eq, decide_eq_true_eq, and_assoc]
  rfl

theorem length_filter_add_not {α : Type} (p : α → Bool) (l : List α) :
    (l.filter p).length + (l.filter (fun x => !p x)).length = l.length := by
  induction l with
  | nil => rfl
  | cons x xs ih =>
    rw [List.filter_cons, List.filter_cons, List.length_cons, ← ih]
    cases p x with
    | false => rfl
    | true => exact Nat.add_right_comm _ 1 _

/-- A sound queue is bounded: 16 forwarded frames, and one part frame of each of the 8 sorts (R15). -/
theorem PortState.bounds (h : q.sound = true) :
    q.queue.length ≤ 24 ∧ q.forwardCount ≤ 16 ∧ (q.queue.filter Entry.isPart).length ≤ 8 := by
  obtain ⟨hentries, hsorts, hforward, -⟩ := PortState.sound_iff.mp h
  rw [← PortState.sorts_eq] at hsorts
  rw [← PortState.forwardCount_eq] at hforward
  have hparts : (q.queue.filter Entry.isPart).length ≤ 8 := by
    have hsub : q.sorts ⊆ (List.range 8).map some := by
      intro x hx
      obtain ⟨e, he, rfl⟩ := List.mem_map.mp hx
      obtain ⟨hmem, hpart⟩ := List.mem_filter.mp he
      have hsound := hentries e hmem
      obtain ⟨n, hn⟩ : ∃ n, partSort e.frame = some n := by
        refine Option.isSome_iff_exists.mp ?_
        have hcls : e.cls = .part := of_decide_eq_true hpart
        unfold Entry.sound at hsound
        rw [hcls] at hsound
        cases hheld : e.held with
        | none => rw [hheld] at hsound; exact hsound
        | some g => rw [hheld] at hsound; exact (Bool.and_eq_true_iff.mp (Bool.and_eq_true_iff.mp hsound).1).1
      rw [hn]
      exact List.mem_map.mpr ⟨n, List.mem_range.mpr (by have := partSort_le hn; omega), rfl⟩
    have hlength := hsorts.length_le_of_subset hsub
    rwa [PortState.sorts, List.length_map, List.length_map, List.length_range] at hlength
  have hsplit : (q.queue.filter Entry.isPart).length + q.forwardCount = q.queue.length := length_filter_add_not _ _
  exact ⟨by omega, hforward, hparts⟩

/-! ### Entries and their places -/

/-- A part entry with a sort, and nothing pending, is sound. -/
theorem Entry.sound_part (h : (partSort f).isSome = true) : Entry.sound ⟨.part, f, none⟩ = true := h

theorem Entry.partSort_isSome (hs : e.sound = true) (hp : e.isPart = true) : (partSort e.frame).isSome = true := by
  have hcls : e.cls = .part := of_decide_eq_true hp
  unfold Entry.sound at hs
  rw [hcls] at hs
  cases hheld : e.held with
  | none => rw [hheld] at hs; exact hs
  | some g => rw [hheld] at hs; exact (Bool.and_eq_true_iff.mp (Bool.and_eq_true_iff.mp hs).1).1

/-- Pending content stands only in a part entry, is of its sort, and is no REPLY (R18). -/
theorem Entry.sort_held (hs : e.sound = true) (hg : e.held = some g) :
    e.cls = .part ∧ (partSort e.frame).isSome = true ∧ partSort g = partSort e.frame ∧ partSort g ≠ some 7 := by
  unfold Entry.sound at hs
  rw [hg] at hs
  cases hcls : e.cls with
  | forward => rw [hcls] at hs; cases hs
  | part =>
    rw [hcls] at hs
    simp only [Bool.and_eq_true, decide_eq_true_eq] at hs
    exact ⟨rfl, hs.1.1, hs.1.2, hs.2⟩

/-- The entry that has taken its pending content is sound, and keeps its mark. -/
theorem Entry.takeHeld_sound (hs : e.sound = true) (hg : e.held = some g) :
    (e.takeHeld g).sound = true ∧ (e.takeHeld g).mark = e.mark := by
  obtain ⟨hcls, hsome, hsort, -⟩ := Entry.sort_held hs hg
  unfold Entry.takeHeld Entry.sound Entry.mark Entry.isPart
  simp only [hcls, hsort, hsome, and_self]

namespace PortState

/-- An entry replaced by a sound one of the same mark. -/
theorem sound_set {i : Nat} {tx : Tx} {drops : Word16} (h : q.sound = true) (he : q.queue[i]? = some e)
    (hd : d.sound = true) (hmark : d.mark = e.mark)
    (htx : ∀ ph j n, tx = .active ph j n → j < q.queue.length) :
    ({ q with queue := q.queue.set i d, tx := tx, collisionDrops := drops } : PortState).sound = true := by
  obtain ⟨hentries, hsorts, hforward, -⟩ := sound_iff.mp h
  have hmarks : ({ q with queue := q.queue.set i d, tx := tx, collisionDrops := drops } : PortState).marks = q.marks := by
    unfold marks
    rw [List.map_set, hmark]
    obtain ⟨hi, rfl⟩ := List.getElem?_eq_some_iff.mp he
    have := List.set_getElem_self (as := q.queue.map Entry.mark) (i := i) (by simpa using hi)
    rwa [List.getElem_map] at this
  rw [sound_iff, hmarks]
  refine ⟨fun x hx => ?_, hsorts, hforward, ?_⟩
  · rcases List.mem_or_eq_of_mem_set hx with hx | rfl
    · exact hentries x hx
    · exact hd
  · cases tx with
    | idle => rfl
    | active ph j n =>
      have := htx ph j n rfl
      simpa [progressSound] using this

/-- The transmitter's place and the counters are all that changes. -/
theorem sound_tx {r : PortState} (h : q.sound = true) (hq : r.queue = q.queue)
    (htx : ∀ ph j n, r.tx = .active ph j n → j < q.queue.length) : r.sound = true := by
  obtain ⟨hentries, hsorts, hforward, -⟩ := sound_iff.mp h
  have hmarks : r.marks = q.marks := by rw [marks, marks, hq]
  rw [sound_iff, hmarks, hq]
  refine ⟨hentries, hsorts, hforward, ?_⟩
  unfold progressSound
  split
  · rfl
  · rw [hq]
    exact decide_eq_true (htx _ _ _ ‹_›)

theorem tx_lt {ph : TxPhase} {i n : Nat} (h : q.sound = true) (htx : q.tx = .active ph i n) : i < q.queue.length := by
  have hprogress := (sound_iff.mp h).2.2.2
  unfold progressSound at hprogress
  rw [htx] at hprogress
  exact of_decide_eq_true hprogress

/-- An entry behind the newest. -/
theorem sound_append (h : q.sound = true) (hd : d.sound = true)
    (hsort : ∀ x, d.mark = some x → some x ∉ q.marks) (hforward : d.mark = none → q.forwardCount < 16) :
    ({ q with queue := q.queue ++ [d] } : PortState).sound = true := by
  obtain ⟨hentries, hsorts, hcount, hprogress⟩ := sound_iff.mp h
  have hmarks : ({ q with queue := q.queue ++ [d] } : PortState).marks = q.marks ++ [d.mark] := List.map_append
  rw [sound_iff, hmarks, List.filterMap_append, List.filter_append]
  refine ⟨fun x hx => ?_, ?_, ?_, ?_⟩
  · rcases List.mem_append.mp hx with hx | hx
    · exact hentries x hx
    · rw [List.mem_singleton.mp hx]; exact hd
  · cases hm : d.mark with
    | none => simpa using hsorts
    | some x =>
      have hx := hsort x hm
      refine List.nodup_append.mpr ⟨hsorts, List.pairwise_singleton _ x, fun y hy y' hy' heq => hx ?_⟩
      rw [heq, show y' = x from List.mem_singleton.mp hy'] at hy
      obtain ⟨z, hz, hzy⟩ := List.mem_filterMap.mp hy
      rw [show z = some x from hzy] at hz
      exact hz
  · cases hm : d.mark with
    | none =>
      have := hforward hm
      rw [forwardCount_eq] at this
      rw [List.length_append]
      exact this
    | some x => simpa using hcount
  · unfold progressSound at hprogress ⊢
    split
    · rfl
    · rename_i ph i n htx
      have := tx_lt h htx
      simp
      omega

/-- An entry gone, and the transmitter idle. -/
theorem sound_leave (h : q.sound = true) (i : Nat) : (q.leave i).sound = true := by
  obtain ⟨hentries, hsorts, hforward, -⟩ := sound_iff.mp h
  have hsub : (q.leave i).queue.Sublist q.queue := List.eraseIdx_sublist _ _
  have hmarks : (q.leave i).marks.Sublist q.marks := hsub.map _
  exact sound_iff.mpr ⟨fun e he => hentries e (hsub.mem he), hsorts.sublist (hmarks.filterMap _),
    Nat.le_trans (hmarks.filter _).length_le hforward, rfl⟩

end PortState

end Sys2Proof.Machine
end

section
/-! PROOF. The operations on a transmit queue keep it sound, and so does every effect (O14). -/

namespace Sys2Proof.Machine

variable {s t u : State} {q : PortState} {f g : Frame} {e d : Entry}

theorem modify_eq_set_of_getElem? {α : Type} {l : List α} {i : Nat} {a : α} {f : α → α} (h : l[i]? = some a) :
    l.modify i f = l.set i (f a) := by
  refine List.ext_getElem? fun j => ?_
  rw [List.getElem?_modify, List.getElem?_set]
  by_cases hij : i = j
  · subst hij
    have hlt : i < l.length := (List.getElem?_eq_some_iff.mp h).1
    simp only [if_pos, h, hlt, Option.map_eq_map, Option.map_some]
  · simp only [if_neg hij, Option.map_eq_map, Option.map_id']

/-! ### The operations on a queue -/

namespace PortState

/-- A frame that has a sort and is no REPLY joins a queue, or takes the place of the one of its sort (R18). -/
theorem sound_joinPart (h : q.sound = true) (hf : (partSort f).isSome = true) (h7 : partSort f ≠ some 7) :
    (q.joinPart f).sound = true := by
  have hentries := (sound_iff.mp h).1
  unfold PortState.joinPart PortState.replaced
  cases hfind : q.queue.findIdx? (fun e => e.isPart && replaces f e.frame) with
  | none =>
    refine sound_append h (Entry.sound_part hf) (fun x hx hmem => ?_) nofun
    obtain ⟨e, he, hmark⟩ := List.mem_map.mp hmem
    have hnone := List.findIdx?_eq_none_iff.mp hfind e he
    have hx' : partSort f = x := by simpa [Entry.mark, Entry.isPart] using hx
    unfold Entry.mark at hmark
    split at hmark
    · rename_i hpart
      have hsame : replaces f e.frame = true :=
        (replaces_iff hf (Entry.partSort_isSome (hentries e he) hpart)).mpr ⟨hx'.trans (Option.some.inj hmark).symm, h7⟩
      rw [hpart, hsame] at hnone
      cases hnone
    · cases hmark
  | some i =>
    obtain ⟨hi, hsame, -⟩ := List.findIdx?_eq_some_iff_getElem.mp hfind
    have hget := List.getElem?_eq_getElem hi
    generalize q.queue[i] = e at hsame hget
    have hmem : e ∈ q.queue := List.mem_of_getElem? hget
    obtain ⟨hpart, hreplaces⟩ := Bool.and_eq_true_iff.mp hsame
    have hsome := Entry.partSort_isSome (hentries e hmem) hpart
    obtain ⟨hsort, -⟩ := (replaces_iff hf hsome).mp hreplaces
    have hmark : Entry.mark ⟨.part, f, none⟩ = e.mark := by
      rw [Entry.mark, Entry.mark, if_pos hpart, ← hsort]
      rfl
    have hset (tx : Tx) (htx : ∀ ph j n, tx = .active ph j n → j < q.queue.length) :=
      sound_set (drops := q.collisionDrops) h hget (Entry.sound_part hf) hmark htx
    dsimp only
    split
    · rename_i hidle
      exact hset q.tx fun ph j n htx => by rw [hidle] at htx; cases htx
    · rename_i j n htx
      have hj := tx_lt h htx
      split
      · rename_i hij
        subst hij
        have hmodify : q.queue.modify i (fun e => { e with held := some f }) = q.queue.set i { e with held := some f } := by
          rw [modify_eq_set_of_getElem? hget]
        rw [hmodify]
        refine sound_set (drops := q.collisionDrops) h hget ?_ rfl fun ph j n => tx_lt h
        have hcls : e.cls = .part := of_decide_eq_true hpart
        simp [Entry.sound, hcls, hsome, hsort, hsort ▸ h7]
      · exact hset _ fun ph k m hk => by cases hk; exact hj
    · rename_i j n htx
      exact hset _ fun ph k m hk => by cases hk; exact tx_lt h htx

/-- A REPLY joins a queue that holds none (R19). -/
theorem sound_joinReply (h : q.sound = true) (hf : partSort f = some 7) (hr : q.hasReply = false) :
    (q.joinPart f).sound = true := by
  have hkind := partSort_eq_seven.mp hf
  have hreplaces (g : Frame) : replaces f g = false := by simp [replaces, hkind]
  have hnone : q.queue.findIdx? (fun e => e.isPart && replaces f e.frame) = none := by
    refine List.findIdx?_eq_none_iff.mpr fun e _ => ?_
    rw [hreplaces, Bool.and_false]
  unfold PortState.joinPart PortState.replaced
  rw [hnone]
  refine sound_append h (Entry.sound_part (by rw [hf]; rfl)) (fun x hx hmem => ?_) nofun
  have hx' : some 7 = x := by simpa [Entry.mark, Entry.isPart, hf] using hx
  obtain ⟨e, he, hmark⟩ := List.mem_map.mp hmem
  unfold Entry.mark at hmark
  split at hmark
  · rename_i hpart
    have hreply := List.any_eq_false.mp hr e he
    have hseven := partSort_eq_seven.mp ((Option.some.inj hmark).trans hx'.symm)
    simp [hpart, hseven] at hreply
  · cases hmark

theorem sound_joinForward (h : q.sound = true) : (q.joinForward f).sound = true := by
  unfold PortState.joinForward
  split
  · exact sound_append h rfl (fun x hx => by simp [Entry.mark, Entry.isPart] at hx) (fun _ => ‹_›)
  · exact sound_tx h rfl fun ph j n => tx_lt h

/-- The transmitter chooses an entry of the queue (R20). -/
theorem choice_lt {i : Nat} (h : q.choice = some i) : i < q.queue.length := by
  unfold PortState.choice at h
  split at h
  · rename_i j hj
    obtain rfl := Option.some.inj h
    exact (List.findIdx?_eq_some_iff_getElem.mp hj).1
  · split at h
    · cases h
    · rename_i hne
      obtain rfl := Option.some.inj h
      exact List.length_pos_iff.mpr fun he => hne (by rw [he]; rfl)

theorem sound_choose (h : q.sound = true) : q.choose.sound = true := by
  unfold PortState.choose
  split
  · rename_i i _ hchoice
    exact sound_tx h rfl fun ph j n hj => by cases hj; exact choice_lt hchoice
  · exact h

theorem sound_resend (h : q.sound = true) : q.resend.sound = true := by
  unfold PortState.resend
  split
  · rename_i i n htx
    exact sound_tx h rfl fun ph j n hj => by cases hj; exact tx_lt h htx
  · exact h

theorem sound_takeHeld {i : Nat} {tx : Tx} {drops : Word16} (h : q.sound = true) (he : q.queue[i]? = some e)
    (hg : e.held = some g) (htx : ∀ ph j n, tx = .active ph j n → j = i) :
    ({ q with queue := q.queue.set i (e.takeHeld g), tx := tx, collisionDrops := drops } : PortState).sound = true := by
  obtain ⟨hsound, hmark⟩ := Entry.takeHeld_sound ((sound_iff.mp h).1 e (List.mem_of_getElem? he)) hg
  exact sound_set h he hsound hmark fun ph j n hj => htx ph j n hj ▸ (List.getElem?_eq_some_iff.mp he).1

theorem sound_backOff {i n failed : Nat} (h : q.sound = true) (htx : q.tx = .active .sending i n)
    (he : q.queue[i]? = some e) : (q.backOff i e failed).sound = true := by
  unfold PortState.backOff
  split
  · exact sound_takeHeld (drops := q.collisionDrops) h he ‹_› fun ph j n hj => by cases hj; rfl
  · exact sound_tx h rfl fun ph j n hj => by cases hj; exact tx_lt h htx

theorem sound_dropFrame {i : Nat} (h : q.sound = true) (he : q.queue[i]? = some e) :
    (q.dropFrame i e).sound = true := by
  unfold PortState.dropFrame
  dsimp only
  split
  · exact sound_takeHeld h he ‹_› fun ph j n hj => by cases hj; rfl
  · exact sound_leave (q := { q with collisionDrops := satInc16 q.collisionDrops })
      (sound_tx h rfl fun ph j n => tx_lt h) i

end PortState

/-! ### The two ports -/

theorem queuesSound_iff : s.queuesSound = true ↔ ∀ p, (s.port p).sound = true := by
  rw [State.queuesSound, Bool.and_eq_true]
  exact ⟨fun h p => by cases p <;> simp [h], fun h => ⟨h .s, h .m⟩⟩

theorem queuesSound_of_link (h : t.link.ports = s.link.ports) (hs : s.queuesSound = true) : t.queuesSound = true := by
  unfold State.queuesSound State.port at *
  rw [h]
  exact hs

theorem queuesSound_of_touches {T : List Block} (h : OnlyTouches T s t) (hT : Block.link ∉ T)
    (hs : s.queuesSound = true) : t.queuesSound = true := queuesSound_of_link (by rw [h.link hT]) hs

/-- A port changed into a sound one. -/
theorem queuesSound_updPort {p : Port} {k : PortState → PortState} (hs : s.queuesSound = true)
    (h : (s.port p).sound = true → (k (s.port p)).sound = true) : (updPort p k s).queuesSound = true := by
  rw [queuesSound_iff] at hs ⊢
  intro r
  unfold State.port updPort
  rw [State.withLink_link, PerPort.get_set]
  split
  · exact h (hs p)
  · exact hs r

theorem queuesSound_queuePart (hf : (partSort f).isSome = true) (h7 : partSort f ≠ some 7) (hs : s.queuesSound = true) :
    (queuePart f s).queuesSound = true := queuesSound_updPort hs fun h => PortState.sound_joinPart h hf h7

theorem partSort_setFrame (own drive : Byte) (st : Setting) (target : Word16) (tag : Tag) :
    partSort (setFrame own drive st target tag) = some st.num := by cases st <;> rfl

theorem queuesSound_queueSet (st : Setting) (hs : s.queuesSound = true) : (queueSet st s).queuesSound = true := by
  unfold queueSet
  split
  · refine queuesSound_queuePart ?_ ?_ hs <;> rw [partSort_setFrame] <;> cases st <;> decide
  · exact hs

theorem queuesSound_askIdent (st : Setting) (hs : s.queuesSound = true) : (askIdent st s).queuesSound = true := by
  unfold askIdent
  split
  · exact queuesSound_queuePart rfl (show some 5 ≠ some 7 by decide) hs
  · exact hs

theorem queuesSound_raiseNotice (kind : NoticeKind) (subject : Nat) (detail : Word16) (hs : s.queuesSound = true) :
    (raiseNotice kind subject detail s).queuesSound = true := by
  unfold raiseNotice sendAttention
  split
  · split
    · exact hs
    · dsimp only
      split
      · split
        · exact queuesSound_queuePart rfl (show some 6 ≠ some 7 by decide) hs
        · exact hs
      · exact hs
  · exact hs

theorem queuesSound_broad : Broad (fun s => s.queuesSound = true) where
  frame h hs := queuesSound_of_touches h (by decide) hs
  mgmt _ h := h
  safeOut _ {_} h := h
  publish h := h
  notice kind subject detail {_} h := queuesSound_raiseNotice kind subject detail h
  setQueued st {_} h := queuesSound_queueSet st h
  asked st {_} h := queuesSound_askIdent st h

theorem queuesSound_handOver (p : Port) (hs : s.queuesSound = true) : (handOver p s).queuesSound = true := by
  unfold handOver
  split
  · exact hs
  · rename_i hfree
    split
    · exact hs
    · rename_i r hr
      have hport : s.portFor r.asker.station = p := by
        have hfound := List.find?_some (p := fun r : Reply => decide (s.portFor r.asker.station = p)) hr
        exact of_decide_eq_true hfound
      refine queuesSound_updPort (p := s.portFor r.asker.station) hs fun h => PortState.sound_joinReply h rfl ?_
      rw [hport]
      exact Bool.eq_false_iff.mpr fun h => hfree (by rw [show (s.port p).hasReply = true from h]; rfl)

theorem queuesSound_reportLeft (p : Port) (e : Entry) (hs : s.queuesSound = true) :
    (reportLeft p e s).queuesSound = true :=
  queuesSound_of_touches (touches_reportLeft (T := [.mgmt]) (by decide) (.refl _ s) p e) (by decide) hs

/-- Every effect keeps the queues sound. -/
theorem Effect.queuesSound {T : List Block} (h : Effect T s t) (hs : s.queuesSound = true) : t.queuesSound = true := by
  have hbroad := queuesSound_broad
  by_cases hnarrow : T ∉ Broad.narrowTouches
  · exact hbroad.effect h hnarrow hs
  by_cases hT : Block.link ∉ T
  · exact queuesSound_of_touches h.onlyTouches hT hs
  have hrest := not_or.mpr ⟨hnarrow, hT⟩
  cases h with
  | count p k hk =>
    exact queuesSound_updPort hs fun h =>
      PortState.sound_tx h (hk _).1 fun ph j n htx => PortState.tx_lt h ((hk _).2 ▸ htx)
  | learn => exact hs
  | forward p f => exact queuesSound_updPort hs fun h => PortState.sound_joinForward h
  | choose p => exact queuesSound_updPort hs fun h => PortState.sound_choose h
  | resend p => exact queuesSound_updPort hs fun h => PortState.sound_resend h
  | sent p i n e htx he =>
    unfold sentFrame
    split
    · exact queuesSound_updPort hs fun h =>
        PortState.sound_takeHeld (drops := (s.port p).collisionDrops) h he ‹_› fun ph j n => nofun
    · exact queuesSound_reportLeft p e (queuesSound_updPort hs fun h => PortState.sound_leave h i)
  | collided p i n e htx he =>
    unfold collideFrame dropInProgress
    split
    · exact queuesSound_updPort hs fun h => PortState.sound_backOff h htx he
    · refine keeps_triple (P := fun s => s.queuesSound = true)
        (fun _ => queuesSound_updPort (k := fun ps => ps.dropFrame i e) hs fun h => PortState.sound_dropFrame h he)
        (fun _ => hbroad.notice _ _ _) (fun _ => hbroad.wide.takeEvent _) (fun _ => queuesSound_reportLeft p e)
  | reply r => exact queuesSound_handOver _ hs
  | handOver p => exact queuesSound_handOver p hs
  | reset straps =>
    unfold resetPart judgeStore
    have hreset : (resetBlocks straps (cutShort s)).queuesSound = true := queuesSound_iff.mpr fun p => by cases p <;> rfl
    split
    · exact hbroad.notice _ _ _ hreset
    · exact hreset
  | _ => exact absurd (by decide) hrest

/-- Settles O14: every effect keeps the two queues sound, and a sound queue is bounded by its marks. -/
theorem stepsKeepTheQueuesBounded : Obligations.StepsKeepTheQueuesBounded := by
  refine ⟨fun s t hs h => ?_, fun q hq => PortState.bounds hq⟩
  exact step_keeps (P := fun s => s.queuesSound = true) (fun _ _ h => h) (fun _ _ _ h => h.queuesSound) hs h

end Sys2Proof.Machine
end

section
/-! PROOF. The cycle's invariant (O8) does not stand by itself: it does not exclude a checking record while the part
regulates, and the end of that checking leaves REGULATING under a regulator in FOLLOW. -/

namespace Sys2Proof.Machine

/-- A part that regulates, in FOLLOW, while a checking record stands whose drive has been asked twice and whose answer
timer has run out. -/
def checkingWhileRegulating : State :=
  { State.reset with
    regulator := { resetRegulator with state := .follow }
    mgmt := { State.reset.mgmt with
      partState := .regulating, owner := some 2#8, checking := some ⟨.drum, 2, ⟨0#32, 0⟩⟩ }
    pending := [.answerTimerExpiry] }

theorem checkingWhileRegulating_cycleSound : checkingWhileRegulating.cycleSound = true := by decide

/-- The answer timer fails the drive: the part is in AWAIT_LAYOUT, and the regulator still in FOLLOW (R189). -/
theorem step_checkingWhileRegulating :
    ∃ t, step checkingWhileRegulating = .next t ∧ t.cycleSound = false := ⟨_, rfl, by decide⟩

/-- Refutes O8: cycleSound alone is not inductive. In a state that is in order but for a checking record that stands
while the part regulates (which ownerSound would exclude), the answer timer takes the part to AWAIT_LAYOUT. -/
theorem not_stepsKeepTheCycleInOrder : ¬ Obligations.StepsKeepTheCycleInOrder := by
  intro h
  obtain ⟨t, ht, hbroken⟩ := step_checkingWhileRegulating
  have hkept := h checkingWhileRegulating t checkingWhileRegulating_cycleSound ht
  rw [hbroken] at hkept
  cases hkept

end Sys2Proof.Machine
end

section
/-! PROOF. The move records through every step (O13). A record may enter FAULT before DRIVE_FAULT is judged: the records
are sound throughout, and one of the handings makes the condition agree with them. -/

namespace Sys2Proof.Machine

variable {P Q : State → Prop} {s t u : State} {r r' : MoveRecord} {st o : Setting}

/-- Among handings that all keep `P` and keep `Q`, one makes `Q` of `P`: in every order, `Q` holds in the end. -/
theorem interleave_establishes {chains : List (List Handing)} (start : ∀ o, P (s.withOrder o))
    (keepP : ∀ c ∈ chains, ∀ g ∈ c, ∀ t, P t → P (g t)) (keepQ : ∀ c ∈ chains, ∀ g ∈ c, ∀ t, Q t → Q (g t))
    (makes : ∃ c ∈ chains, ∃ g ∈ c, ∀ t, P t → Q (g t)) : Q (interleave chains s) := by
  obtain ⟨c, hc, g, hg, hmakes⟩ := makes
  have hall := mem_mergeChains (x := g) chains.flatten.length s.order chains
  have hperm := mergeChains_perm chains.flatten.length s.order chains (Nat.le_refl _)
  have hmem : g ∈ (mergeChains chains.flatten.length s.order chains).1 :=
    hperm.mem_iff.mpr (List.mem_flatten.mpr ⟨c, hc, hg⟩)
  have hfrom : ∀ h ∈ (mergeChains chains.flatten.length s.order chains).1, ∃ c ∈ chains, h ∈ c :=
    fun h hh => mem_mergeChains _ _ _ hh
  unfold interleave
  dsimp only
  generalize (mergeChains chains.flatten.length s.order chains).1 = l at hmem hfrom
  have hstart := start (mergeChains chains.flatten.length s.order chains).2
  generalize s.withOrder (mergeChains chains.flatten.length s.order chains).2 = t at hstart
  have hkeep {K : State → Prop} (hK : ∀ c ∈ chains, ∀ g ∈ c, ∀ t, K t → K (g t)) (l : List Handing) (t : State)
      (hl : ∀ h ∈ l, ∃ c ∈ chains, h ∈ c) (ht : K t) : K (l.foldl (fun t h => h t) t) := by
    induction l generalizing t with
    | nil => exact ht
    | cons h hs ih =>
      obtain ⟨c, hc, hh⟩ := hl h List.mem_cons_self
      exact ih _ (fun h hh => hl h (List.mem_cons_of_mem _ hh)) (hK c hc h hh t ht)
  obtain ⟨l₁, l₂, rfl⟩ := List.append_of_mem hmem
  rw [List.foldl_append, List.foldl_cons]
  refine hkeep keepQ l₂ _ (fun h hh => hfrom h (List.mem_append_right _ (List.mem_cons_of_mem _ hh))) (hmakes _ ?_)
  exact hkeep keepP l₁ _ (fun h hh => hfrom h (List.mem_append_left _ hh)) hstart

/-! ### One record -/

theorem MoveRecord.sound_iff : r.sound = true ↔
    (r.acceptTimer.isSome = true ↔ r.state = .issued) ∧ (r.moveTimer.isSome = true ↔ r.state = .moving) ∧
    (r.cause = .none ↔ r.state ≠ .fault) ∧
    (r.state = .idle ∨ r.state = .fault ∨ (r.goal.isSome = true ∧ r.leg.isSome = true ∧ r.manual = false)) := by
  simp only [MoveRecord.sound, Bool.and_eq_true, Bool.or_eq_true, decide_eq_true_eq, beq_iff_eq, Bool.not_eq_true',
    and_assoc, or_assoc]
  refine and_congr ?_ (and_congr ?_ (and_congr ?_ Iff.rfl))
  · rw [Bool.eq_iff_iff, decide_eq_true_eq]
  · rw [Bool.eq_iff_iff, decide_eq_true_eq]
  · rw [Bool.eq_iff_iff, decide_eq_true_eq, beq_iff_eq]

theorem PerSetting.get_set {α : Type} (p : PerSetting α) (a b : Setting) (x : α) :
    (p.set a x).get b = if b = a then x else p.get b := by
  cases a <;> cases b <;> rfl

theorem PerSetting.get_tabulate {α : Type} (f : Setting → α) (a : Setting) : (PerSetting.tabulate f).get a = f a := by
  cases a <;> rfl

theorem Setting.mem_all (a : Setting) : a ∈ Setting.all := by cases a <;> decide

@[simp] theorem setRecord_record (a b : Setting) (r : MoveRecord) (s : State) :
    (setRecord a r s).record b = if b = a then r else s.record b := PerSetting.get_set _ _ _ _

/-! ### The records and DRIVE_FAULT -/

/-- Every record of the move unit is sound. -/
def MoveUnit.recordsSound (m : MoveUnit) : Prop := ∀ st, (m.records.get st).sound = true

/-- The DRIVE_FAULT condition is the one of the records. -/
def MoveUnit.faultJudged (m : MoveUnit) : Prop := m.driveFault = true ↔ ∃ st, (m.records.get st).state = .fault

theorem anyFault_iff : s.anyFault = true ↔ ∃ st, (s.record st).state = .fault := by
  simp only [State.anyFault, List.any_eq_true, decide_eq_true_eq]
  exact ⟨fun ⟨st, _, h⟩ => ⟨st, h⟩, fun ⟨st, h⟩ => ⟨st, Setting.mem_all st, h⟩⟩

theorem movesSound_iff : s.movesSound = true ↔ s.moves.recordsSound ∧ s.moves.faultJudged := by
  simp only [State.movesSound, Bool.and_eq_true, List.all_eq_true, beq_iff_eq]
  refine and_congr ⟨fun h st => h st (Setting.mem_all st), fun h st _ => h st⟩ ?_
  rw [Bool.eq_iff_iff, anyFault_iff]
  rfl

/-- A record replaced by a sound one that is in FAULT exactly when the old one was. -/
def Succeeds (m n : MoveUnit) (st : Setting) : Prop :=
  (∀ o, o ≠ st → n.records.get o = m.records.get o) ∧ n.driveFault = m.driveFault ∧
  ((m.records.get st).sound = true → (n.records.get st).sound = true) ∧
  ((n.records.get st).state = .fault ↔ (m.records.get st).state = .fault)

theorem Succeeds.recordsSound {m n : MoveUnit} (h : Succeeds m n st) (hm : m.recordsSound) : n.recordsSound := by
  intro o
  by_cases ho : o = st
  · exact ho ▸ h.2.2.1 (hm st)
  · rw [h.1 o ho]; exact hm o

theorem Succeeds.faultJudged {m n : MoveUnit} (h : Succeeds m n st) (hm : m.faultJudged) : n.faultJudged := by
  unfold MoveUnit.faultJudged
  rw [h.2.1]
  refine hm.trans (exists_congr fun o => ?_)
  by_cases ho : o = st
  · exact ho ▸ h.2.2.2.symm
  · rw [h.1 o ho]

theorem succeeds_setRecord (hsound : (s.record st).sound = true → r.sound = true)
    (hfault : r.state = .fault ↔ (s.record st).state = .fault) : Succeeds s.moves (setRecord st r s).moves st := by
  have hst : (setRecord st r s).moves.records.get st = r := records_set_get _ _ _
  refine ⟨fun o ho => ?_, rfl, by rw [hst]; exact hsound, by rw [hst]; exact hfault⟩
  exact (PerSetting.get_set _ _ _ _).trans (if_neg ho)

@[simp] theorem queueSet_moves : (queueSet st s).moves = s.moves := by
  unfold queueSet
  split <;> rfl

theorem issueSet_moves {g : Goal} (hg : (s.record st).goal = some g) : (issueSet st s).moves =
    (setRecord st ((s.record st).issue s.mgmt.params st s.partTime g.value) s).moves := by
  unfold issueSet
  rw [hg]
  exact queueSet_moves

theorem issueSet_of_no_goal (hg : (s.record st).goal = none) : issueSet st s = s := by
  unfold issueSet
  rw [hg]

/-- A SET issued for a goal that no fault and no hand stands against, whatever the exchange before it left. -/
theorem MoveRecord.sound_issue {p : Params} {now : Word32} {goal : Word16} (hc : r.cause = .none)
    (hm : r.manual = false) (hg : r.goal.isSome = true) : (r.issue p st now goal).sound = true := by
  simp [MoveRecord.sound_iff, MoveRecord.issue, hc, hm, hg]

theorem MoveRecord.sound_goal (h : r.sound = true) (g : Goal) (d : Option Word16) :
    ({ r with goal := some g, deferred := d } : MoveRecord).sound = true := by
  rw [MoveRecord.sound_iff] at h ⊢
  obtain ⟨ha, hm, hc, hx⟩ := h
  exact ⟨ha, hm, hc, hx.imp id (Or.imp id fun k => ⟨rfl, k.2⟩)⟩

theorem MoveRecord.sound_deferred (h : r.sound = true) (d : Option Word16) :
    ({ r with deferred := d } : MoveRecord).sound = true := h

/-- A SET issued where no fault and no hand stands against it. -/
theorem succeeds_issueSet (hsound : (s.record st).sound = true) (hf : (s.record st).state ≠ .fault)
    (hm : (s.record st).manual = false) : Succeeds s.moves (issueSet st s).moves st := by
  cases hg : (s.record st).goal with
  | none => rw [issueSet_of_no_goal hg]; exact ⟨fun _ _ => rfl, rfl, id, Iff.rfl⟩
  | some g =>
    rw [issueSet_moves hg]
    have hc := (MoveRecord.sound_iff.mp hsound).2.2.1.mpr hf
    exact succeeds_setRecord (fun _ => MoveRecord.sound_issue hc hm (by rw [hg]; rfl))
      (iff_of_false nofun hf)

theorem not_goalKept (h : ¬ s.goalKept st = true) : (s.record st).state ≠ .fault ∧ (s.record st).manual = false := by
  simp only [State.goalKept, Bool.or_eq_true, decide_eq_true_eq, not_or] at h
  exact ⟨h.1.2, Bool.eq_false_iff.mpr h.1.1⟩

theorem Succeeds.trans {m n k : MoveUnit} (h : Succeeds m n st) (h' : Succeeds n k st) : Succeeds m k st :=
  ⟨fun o ho => (h'.1 o ho).trans (h.1 o ho), h'.2.1.trans h.2.1, fun hm => h'.2.2.1 (h.2.2.1 hm),
    h'.2.2.2.trans h.2.2.2⟩

theorem succeeds_storeGoal (g : Goal) : Succeeds s.moves (storeGoal st g s).moves st :=
  succeeds_setRecord (fun h => MoveRecord.sound_goal h g none) Iff.rfl

theorem succeeds_issueStored (g : Goal) (hsound : (s.record st).sound = true) (h : ¬ s.goalKept st = true) :
    Succeeds s.moves (issueSet st (storeGoal st g s)).moves st := by
  obtain ⟨hf, hm⟩ := not_goalKept h
  have hrecord : (storeGoal st g s).record st = { s.record st with goal := some g, deferred := none } :=
    records_set_get _ _ _
  refine (succeeds_storeGoal g).trans (succeeds_issueSet ?_ ?_ ?_) <;> rw [hrecord]
  · exact MoveRecord.sound_goal hsound g none
  · exact hf
  · exact hm

theorem succeeds_giveGoal (g : Goal) (hsound : (s.record st).sound = true) :
    Succeeds s.moves (giveGoal st g s).moves st := by
  unfold giveGoal
  split
  · exact succeeds_storeGoal g
  · split
    · exact succeeds_setRecord (fun h => MoveRecord.sound_deferred h _) Iff.rfl
    · exact succeeds_issueStored g hsound ‹_›

/-! ### The two predicates -/

theorem recordsSound_quiet : Quiet (fun s => s.moves.recordsSound) where
  touches h hs := by rw [h.moves (by decide)]; exact hs
  regulator _ {_} _ h := h
  result _ {_} h := h
  openGate h := h
  closeGate h := h
  safeOut _ {_} h := h
  publish h := h
  notice kind subject detail {s} h := by
    rw [(touches_raiseNotice (T := touchNotices) (by decide) (.refl _ s) kind subject detail).moves (by decide)]
    exact h
  goal st g {_} h := (succeeds_giveGoal g (h st)).recordsSound h

theorem movesSound_quiet : Quiet (fun s => s.movesSound = true) where
  touches h hs := by rw [movesSound_iff, h.moves (by decide)]; exact movesSound_iff.mp hs
  regulator _ {_} _ h := h
  result _ {_} h := h
  openGate h := h
  closeGate h := h
  safeOut _ {_} h := h
  publish h := h
  notice kind subject detail {s} h := by
    rw [movesSound_iff, (touches_raiseNotice (T := touchNotices) (by decide) (.refl _ s) kind subject detail).moves (by decide)]
    exact movesSound_iff.mp h
  goal st g {_} h := by
    obtain ⟨hr, hj⟩ := movesSound_iff.mp h
    exact movesSound_iff.mpr ⟨(succeeds_giveGoal g (hr st)).recordsSound hr, (succeeds_giveGoal g (hr st)).faultJudged hj⟩

/-- What a succeeding record leaves. -/
theorem movesSound_of_succeeds (hs : s.movesSound = true) (h : Succeeds s.moves t.moves st) : t.movesSound = true := by
  obtain ⟨hr, hj⟩ := movesSound_iff.mp hs
  exact movesSound_iff.mpr ⟨h.recordsSound hr, h.faultJudged hj⟩

theorem movesSound_heard : Heard (fun s => s.movesSound = true) where
  toSteady := movesSound_quiet.steady
  channels _ h := h

/-- Judging DRIVE_FAULT makes it agree with the records (R105). -/
theorem movesSound_judgeDriveFault (h : s.moves.recordsSound) : (judgeDriveFault s).movesSound = true := by
  unfold judgeDriveFault
  split
  · rename_i he
    exact movesSound_iff.mpr ⟨h, by rw [MoveUnit.faultJudged, ← he, anyFault_iff]; rfl⟩
  · refine movesSound_heard.setCondition _ _ (movesSound_iff.mpr ⟨h, ?_⟩)
    exact anyFault_iff

theorem recordsSound_judgeDriveFault (h : s.moves.recordsSound) : (judgeDriveFault s).moves.recordsSound :=
  (movesSound_iff.mp (movesSound_judgeDriveFault h)).1

/-- Handings one of which judges DRIVE_FAULT, the others leaving the records to it. -/
theorem movesSound_interleave {a b : List (List Handing)} (hs : s.moves.recordsSound)
    (hrecords : ∀ c ∈ a ++ b, ∀ g ∈ c, ∀ t : State, t.moves.recordsSound → (g t).moves.recordsSound)
    (hmoves : ∀ c ∈ a ++ b, ∀ g ∈ c, ∀ t : State, t.movesSound = true → (g t).movesSound = true) :
    (interleave (a ++ [[judgeDriveFault]] ++ b) s).movesSound = true := by
  have hmem {c : List Handing} (hc : c ∈ a ++ [[judgeDriveFault]] ++ b) : c ∈ a ++ b ∨ c = [judgeDriveFault] := by
    rcases List.mem_append.mp hc with hc | hc
    · rcases List.mem_append.mp hc with hc | hc
      · exact .inl (List.mem_append_left _ hc)
      · exact .inr (List.mem_singleton.mp hc)
    · exact .inl (List.mem_append_right _ hc)
  refine interleave_establishes (P := fun s => s.moves.recordsSound) (Q := fun s => s.movesSound = true)
    (fun _ => hs) (fun c hc g hg t ht => ?_) (fun c hc g hg t ht => ?_) ?_
  · rcases hmem hc with hc | rfl
    · exact hrecords c hc g hg t ht
    · obtain rfl := List.mem_singleton.mp hg; exact recordsSound_judgeDriveFault ht
  · rcases hmem hc with hc | rfl
    · exact hmoves c hc g hg t ht
    · obtain rfl := List.mem_singleton.mp hg
      exact movesSound_judgeDriveFault (movesSound_iff.mp ht).1
  · exact ⟨_, by simp, _, List.mem_singleton.mpr rfl, fun t ht => movesSound_judgeDriveFault ht⟩

/-! ### The operations of the move unit -/

/-- A record that enters FAULT is sound, whatever its exchange was (R105). -/
theorem MoveRecord.sound_fail {cause : FaultCause} (h : cause ≠ .none) : (r.fail cause).sound = true := by
  simp [MoveRecord.sound_iff, MoveRecord.fail, h]

/-- Entering FAULT asks nothing of the record itself. -/
theorem movesSound_enterFault {cause : FaultCause} (hc : cause ≠ .none) (hf : (s.record st).state ≠ .fault)
    (hs : ∀ o, o ≠ st → (s.record o).sound = true) : (enterFault st cause s).movesSound = true := by
  unfold enterFault
  dsimp only
  rw [if_neg hf]
  have hrecords : (setRecord st ((s.record st).fail cause) s).moves.recordsSound := by
    intro o
    change ((setRecord st _ s).record o).sound = true
    rw [setRecord_record]
    split
    · exact MoveRecord.sound_fail hc
    · exact hs o ‹_›
  have hboth {P : State → Prop} (hP : Steady P) : ∀ c ∈ ([[raiseNotice .driveFault st.num (BitVec.ofNat 16 cause.code)],
      [takeExclusion st]] ++ newlySettled (s.record st).settled st : List (List Handing)), ∀ g ∈ c, ∀ t, P t → P (g t) := by
    intro c hc g hg t ht
    rcases List.mem_append.mp hc with hc | hc
    · simp only [List.mem_cons, List.not_mem_nil, or_false] at hc
      rcases hc with rfl | rfl <;> obtain rfl := List.mem_singleton.mp hg
      · exact hP.notice _ _ _ ht
      · exact hP.exclusion _ ht
    · exact hP.newlySettled _ _ c hc g hg t ht
  exact movesSound_interleave (a := [[raiseNotice .driveFault st.num (BitVec.ofNat 16 cause.code)], [takeExclusion st]])
    (b := newlySettled (s.record st).settled st) hrecords (hboth recordsSound_quiet.steady) (hboth movesSound_quiet.steady)

/-- A record in FAULT already stays, and another enters it. -/
theorem movesSound_enterFault_of_sound {cause : FaultCause} (hc : cause ≠ .none) (hs : s.movesSound = true) :
    (enterFault st cause s).movesSound = true := by
  by_cases hf : (s.record st).state = .fault
  · unfold enterFault
    dsimp only
    rw [if_pos hf]
    exact hs
  · exact movesSound_enterFault hc hf fun o _ => (movesSound_iff.mp hs).1 o

theorem movesSound_takeAccept (tag : Tag) (hs : s.movesSound = true) : (takeAccept st tag s).movesSound = true := by
  unfold takeAccept
  dsimp only
  split
  · rename_i h
    refine movesSound_of_succeeds hs (succeeds_setRecord (fun hr => ?_) ?_)
    · rw [MoveRecord.sound_iff] at hr ⊢
      obtain ⟨-, -, hcause, hgoal⟩ := hr
      rw [h.1] at hcause hgoal
      exact ⟨by simp, by simp, by simpa using hcause, .inr (.inr (by simpa using hgoal))⟩
    · rw [h.1]; exact ⟨nofun, nofun⟩
  · exact hs

/-- The end of an exchange in MOVING, whatever stands in the timers of the record (R98). -/
theorem movesSound_endMove {limited : Bool} {extra : List (List Handing)}
    (hs : ∀ o, o ≠ st → (s.record o).sound = true) (hj : s.moves.faultJudged) (hstate : (s.record st).state = .moving)
    (ha : (s.record st).acceptTimer = none) (hm : (s.record st).moveTimer = none) (hc : (s.record st).cause = .none)
    (hextra : ∀ c ∈ extra, ∀ g ∈ c, ∀ t : State, t.movesSound = true → (g t).movesSound = true) :
    (endMove st limited extra s).movesSound = true := by
  have hend : (setRecord st { s.record st with state := .idle, limited := limited || (s.record st).limited } s).movesSound
      = true := by
    refine movesSound_iff.mpr ⟨fun o => ?_, ?_⟩
    · change ((setRecord st _ s).record o).sound = true
      rw [setRecord_record]
      split
      · simp [MoveRecord.sound_iff, ha, hm, hc]
      · exact hs o ‹_›
    · refine hj.trans (exists_congr fun o => ?_)
      change (s.record o).state = .fault ↔ ((setRecord st _ s).record o).state = .fault
      rw [setRecord_record]
      split
      · rename_i ho; rw [ho, hstate]; exact ⟨nofun, nofun⟩
      · rfl
  unfold endMove
  dsimp only
  refine keeps_interleave (P := fun s => s.movesSound = true) (movesSound_heard.order hend) fun c hmem => ?_
  rcases List.mem_append.mp hmem with hmem | hmem
  · exact hextra c hmem
  · split at hmem
    · exact movesSound_heard.newlySettled _ _ c hmem
    · cases hmem

/-- The record of a leg that is done, its exchange not yet ended (R98). -/
def MoveRecord.legDone (r : MoveRecord) (actual : Word16) : MoveRecord :=
  { r with moveTimer := none, lastActual := some actual }

/-- Another record of the same state leaves DRIVE_FAULT as it is judged. -/
theorem faultJudged_setRecord (h : s.moves.faultJudged) (hf : r.state = .fault ↔ (s.record st).state = .fault) :
    (setRecord st r s).moves.faultJudged := by
  refine h.trans (exists_congr fun o => ?_)
  change (s.record o).state = .fault ↔ ((setRecord st r s).record o).state = .fault
  rw [setRecord_record]
  split
  · rename_i ho; rw [ho]; exact hf.symm
  · rfl

/-- A record replaced by a sound one, the others being sound. -/
theorem recordsSound_setRecord (hs : ∀ o, o ≠ st → (s.record o).sound = true) (hr : r.sound = true) :
    (setRecord st r s).moves.recordsSound := by
  intro o
  change ((setRecord st r s).record o).sound = true
  rw [setRecord_record]
  split
  · exact hr
  · exact hs o ‹_›

/-- A leg done that another follows (R98): its SET makes the record whole. -/
theorem movesSound_issueSet (hs : ∀ o, o ≠ st → (s.record o).sound = true) (hj : s.moves.faultJudged)
    (hf : (s.record st).state ≠ .fault) (hc : (s.record st).cause = .none) (hm : (s.record st).manual = false)
    (hg : (s.record st).goal.isSome = true) : (issueSet st s).movesSound = true := by
  obtain ⟨g, hgoal⟩ := Option.isSome_iff_exists.mp hg
  rw [movesSound_iff, issueSet_moves hgoal]
  exact ⟨recordsSound_setRecord hs (MoveRecord.sound_issue hc hm hg),
    faultJudged_setRecord hj (iff_of_false nofun hf)⟩

/-- What is known of a sound record in MOVING. -/
theorem MoveRecord.sound_moving (h : r.sound = true) (hmoving : r.state = .moving) :
    r.acceptTimer = none ∧ r.cause = .none ∧ r.goal.isSome = true ∧ r.manual = false := by
  obtain ⟨haccept, -, hcause, hgoal⟩ := MoveRecord.sound_iff.mp h
  rw [hmoving] at haccept hcause hgoal
  obtain ⟨hg, -, hm⟩ := (hgoal.resolve_left nofun).resolve_left nofun
  exact ⟨by simpa using haccept, hcause.mpr nofun, hg, hm⟩

theorem movesSound_finishLeg (outcome : Nat) (actual : Word16) (hs : s.movesSound = true)
    (hmoving : (s.record st).state = .moving) : (finishLeg st outcome actual s).movesSound = true := by
  obtain ⟨hr, hj⟩ := movesSound_iff.mp hs
  obtain ⟨ha, hc, hg, hm⟩ := MoveRecord.sound_moving (hr st) hmoving
  have hrecord : (setRecord st ((s.record st).legDone actual) s).record st = (s.record st).legDone actual :=
    records_set_get _ _ _
  have hothers (o : Setting) (ho : o ≠ st) : ((setRecord st ((s.record st).legDone actual) s).record o).sound = true := by
    rw [setRecord_record, if_neg ho]; exact hr o
  have hjudged : (setRecord st ((s.record st).legDone actual) s).moves.faultJudged := faultJudged_setRecord hj Iff.rfl
  have hf : ((setRecord st ((s.record st).legDone actual) s).record st).state ≠ .fault := by
    rw [hrecord]; exact fun h => nomatch hmoving.symm.trans h
  have hcause : ((setRecord st ((s.record st).legDone actual) s).record st).cause = .none := by rw [hrecord]; exact hc
  have hmanual : ((setRecord st ((s.record st).legDone actual) s).record st).manual = false := by rw [hrecord]; exact hm
  have hgoal : ((setRecord st ((s.record st).legDone actual) s).record st).goal.isSome = true := by rw [hrecord]; exact hg
  have hend (limited : Bool) {extra : List (List Handing)}
      (hextra : ∀ c ∈ extra, ∀ g ∈ c, ∀ t : State, t.movesSound = true → (g t).movesSound = true) :
      (endMove st limited extra (setRecord st ((s.record st).legDone actual) s)).movesSound = true :=
    movesSound_endMove hothers hjudged (by rw [hrecord]; exact hmoving) (by rw [hrecord]; exact ha)
      (by rw [hrecord]; rfl) hcause hextra
  unfold finishLeg
  dsimp only
  split
  · split
    · exact hend false fun c hc => absurd hc (by simp)
    · exact movesSound_issueSet hothers hjudged hf hcause hmanual hgoal
  · refine hend true fun c hc g hg t ht => ?_
    obtain rfl := List.mem_singleton.mp hc
    obtain rfl := List.mem_singleton.mp hg
    exact movesSound_heard.notice _ _ _ ht
  · exact movesSound_enterFault nofun hf hothers

theorem movesSound_takeDone (tag : Tag) (outcome : Nat) (actual : Word16) (hs : s.movesSound = true) :
    (takeDone st tag outcome actual s).movesSound = true := by
  unfold takeDone
  dsimp only
  split
  · rename_i h; exact movesSound_finishLeg _ _ hs h.1
  · exact hs

/-- A drive taken over by hand leaves its exchange (R104). -/
theorem MoveRecord.sound_takeManual (h : r.sound = true) : r.takeManual.sound = true := by
  rw [MoveRecord.sound_iff] at h ⊢
  obtain ⟨ha, hm, hc, -⟩ := h
  unfold MoveRecord.takeManual
  cases hstate : r.state <;> simp_all

theorem MoveRecord.takeManual_fault : r.takeManual.state = .fault ↔ r.state = .fault := by
  unfold MoveRecord.takeManual
  cases hstate : r.state <;> simp_all

/-- A sound record under the hand may be given back. -/
theorem MoveRecord.sound_letGo (h : r.sound = true) (hmanual : r.manual = true) :
    ({ r with manual := false } : MoveRecord).sound = true := by
  rw [MoveRecord.sound_iff] at h ⊢
  obtain ⟨ha, hm, hc, hx⟩ := h
  refine ⟨ha, hm, hc, hx.imp id (Or.imp id fun k => ?_)⟩
  exact absurd (hmanual.symm.trans k.2.2) nofun

theorem movesSound_judgeManual (bit : Bool) (actual : Word16) (hs : s.movesSound = true) :
    (judgeManual st bit actual s).movesSound = true := by
  unfold judgeManual
  dsimp only
  split
  · have hmanual := movesSound_of_succeeds (t := setRecord st (s.record st).takeManual s) hs
      (succeeds_setRecord MoveRecord.sound_takeManual MoveRecord.takeManual_fault)
    refine keeps_interleave (P := fun s => s.movesSound = true) (movesSound_heard.order hmanual) fun c hc => ?_
    rcases List.mem_append.mp hc with hc | hc
    · intro g hg t ht
      simp only [List.mem_cons, List.not_mem_nil, or_false] at hc
      rcases hc with rfl | rfl <;> obtain rfl := List.mem_singleton.mp hg
      · exact movesSound_heard.notice _ _ _ ht
      · exact movesSound_heard.exclusion _ ht
    · exact movesSound_heard.newlySettled _ _ c hc
  · rename_i hmanual
    have hfree := movesSound_heard.notice .manualOff st.num actual (movesSound_of_succeeds
      (t := setRecord st { s.record st with manual := false } s) hs
      (succeeds_setRecord (fun h => MoveRecord.sound_letGo h hmanual) Iff.rfl))
    split
    · exact movesSound_quiet.goal _ _ hfree
    · exact hfree
  · exact hs

theorem movesSound_takeReport (actual : Word16) (status : Byte) (hs : s.movesSound = true) :
    (takeReport st actual status s).movesSound = true := by
  unfold takeReport
  dsimp only
  have hheard := movesSound_judgeManual (st := st) (status.getLsbD 3) actual (movesSound_of_succeeds
    (t := setRecord st { (s.record st).heard (s.moves.roster.get st).period s.partTime with
      lastActual := some actual, flagMoving := status.getLsbD 0, flagAtLimit := status.getLsbD 1 } s) hs
    (succeeds_setRecord id Iff.rfl))
  split
  · exact movesSound_enterFault_of_sound nofun hheard
  · exact hheard

theorem movesSound_takeDriveFrame (f : Frame) (hs : s.movesSound = true) : (takeDriveFrame f s).movesSound = true := by
  unfold takeDriveFrame
  split
  · split
    · exact movesSound_takeAccept _ hs
    · exact hs
  · split
    · exact movesSound_takeReport _ _ hs
    · exact hs
  · split
    · split
      · exact hs
      · exact movesSound_takeDone _ _ _ hs
    · exact hs
  · exact hs

theorem movesSound_acceptExpires (hi : (s.record st).state = .issued) (hs : s.movesSound = true) :
    (acceptExpires st s).movesSound = true := by
  unfold acceptExpires
  split
  · exact movesSound_enterFault_of_sound nofun hs
  · refine movesSound_of_succeeds (st := st) hs ?_
    unfold resendSet
    dsimp only
    rw [queueSet_moves]
    refine succeeds_setRecord (fun h => ?_) Iff.rfl
    rw [MoveRecord.sound_iff] at h ⊢
    obtain ⟨-, hm, hc, hx⟩ := h
    refine ⟨iff_of_true rfl hi, hm, hc, ?_⟩
    simpa using hx

theorem movesSound_trackingExpires (hs : s.movesSound = true) : (trackingExpires st s).movesSound = true := by
  unfold trackingExpires
  dsimp only
  split
  · exact movesSound_of_succeeds (st := st) hs (succeeds_setRecord id Iff.rfl)
  · exact movesSound_enterFault_of_sound nofun (movesSound_of_succeeds (st := st) hs (succeeds_setRecord id Iff.rfl))
  · exact movesSound_of_succeeds (st := st) hs (succeeds_setRecord id Iff.rfl)

/-- A sound record in FAULT that leaves it (R106). -/
theorem MoveRecord.sound_repaired (h : r.sound = true) (hf : r.state = .fault) : r.repaired.sound = true := by
  rw [MoveRecord.sound_iff] at h ⊢
  obtain ⟨ha, hm, -, -⟩ := h
  rw [hf] at ha hm
  refine ⟨ha.trans ?_, hm.trans ?_, iff_of_true rfl nofun, .inl rfl⟩ <;> exact iff_of_false nofun nofun

theorem MoveUnit.recordsSound_repair {m : MoveUnit} (h : m.recordsSound) : m.repair.recordsSound := by
  intro o
  unfold MoveUnit.repair
  rw [PerSetting.get_tabulate]
  split
  · exact MoveRecord.sound_repaired (h o) ‹_›
  · exact h o

theorem movesSound_repairMoves (hs : s.movesSound = true) : (repairMoves s).movesSound = true := by
  have hjudged := movesSound_judgeDriveFault (s := s.withMoves s.moves.repair)
    (MoveUnit.recordsSound_repair (movesSound_iff.mp hs).1)
  refine keeps_foldl (P := fun s => s.movesSound = true) _ hjudged fun st t ht => ?_
  unfold giveAgain
  split
  · exact movesSound_quiet.goal _ _ ht
  · exact ht

theorem MoveRecord.sound_fresh (tag : Tag) : (MoveRecord.fresh tag).sound = true := rfl

theorem MoveUnit.recordsSound_relayout {m : MoveUnit} (roster : PerSetting RosterEntry) (h : m.recordsSound) :
    (m.relayout roster).recordsSound := by
  intro o
  unfold MoveUnit.relayout
  rw [PerSetting.get_tabulate]
  split
  · exact h o
  · exact MoveRecord.sound_fresh _

theorem movesSound_relayoutMoves (roster : PerSetting RosterEntry) (hs : s.movesSound = true) :
    (relayoutMoves roster s).movesSound = true := by
  unfold relayoutMoves
  exact movesSound_interleave (a := []) (MoveUnit.recordsSound_relayout roster (movesSound_iff.mp hs).1)
    (recordsSound_quiet.steady.settledOf _) (movesSound_quiet.steady.settledOf _)

theorem movesSound_discardDeferred (hs : s.movesSound = true) : (discardDeferred s).movesSound = true := by
  have hdrop : (s.withMoves s.moves.dropDeferred).movesSound = true := by
    obtain ⟨hr, hj⟩ := movesSound_iff.mp hs
    have hrecord (o : Setting) : s.moves.dropDeferred.records.get o = { s.moves.records.get o with deferred := none } :=
      PerSetting.get_tabulate _ o
    refine movesSound_iff.mpr ⟨fun o => ?_, hj.trans (exists_congr fun o => ?_)⟩
    · rw [State.withMoves_moves, hrecord]; exact hr o
    · rw [State.withMoves_moves, hrecord]
  exact keeps_interleave (P := fun s => s.movesSound = true) (movesSound_heard.order hdrop) (movesSound_heard.settledOf _)

theorem movesSound_releaseDeferred (hs : s.movesSound = true) : (releaseDeferred st s).movesSound = true := by
  unfold releaseDeferred
  split
  · exact movesSound_quiet.goal _ _ (movesSound_of_succeeds (st := st) hs (succeeds_setRecord id Iff.rfl))
  · exact hs

theorem movesSound_releaseDeferredOnce (hs : s.movesSound = true) : (releaseDeferredOnce st s).movesSound = true := by
  unfold releaseDeferredOnce issueOverHold
  split
  · dsimp only
    split
    · exact movesSound_of_succeeds hs (succeeds_storeGoal _)
    · exact movesSound_of_succeeds hs (succeeds_issueStored _ ((movesSound_iff.mp hs).1 st) ‹_›)
  · exact hs

theorem movesSound_cycled : Cycled (fun s => s.movesSound = true) where
  toQuiet := movesSound_quiet
  keep k {s} h := by
    rw [movesSound_iff, (touches_handKeep (T := [.map, .keep, .order]) (by decide) (.refl _ s) k).moves (by decide)]
    exact movesSound_iff.mp h
  lossAlarm := movesSound_heard.takeEvent _
  discard := movesSound_discardDeferred
  letGo h := movesSound_discardDeferred h
  orphaned h := h
  duty _ {_} h := h

/-- Every effect keeps the move records sound. -/
theorem Effect.movesSound {T : List Block} (h : Effect T s t) (hs : s.movesSound = true) : t.movesSound = true := by
  by_cases hmoves : Block.moves ∉ T
  · rw [movesSound_iff, h.onlyTouches.moves hmoves]
    exact movesSound_iff.mp hs
  by_cases hclass : T = touchClass
  · exact movesSound_heard.listening.effect h hclass hs
  by_cases hcycle : T ∈ cycleTouches
  · exact movesSound_cycled.effect h hcycle hs
  have hrest := not_or.mpr ⟨hmoves, not_or.mpr ⟨hclass, hcycle⟩⟩
  cases h with
  | collided p i n e =>
    unfold collideFrame dropInProgress
    split
    · exact hs
    · refine keeps_triple (P := fun s => s.movesSound = true) (fun _ => hs) (fun _ => movesSound_heard.notice _ _ _)
        (fun _ => movesSound_heard.takeEvent _) (fun u hu => ?_)
      rw [movesSound_iff, (touches_reportLeft (T := [.mgmt]) (by decide) (.refl _ u) p e).moves (by decide)]
      exact movesSound_iff.mp hu
  | clash p => exact movesSound_heard.stationClash p hs
  | drive f => exact movesSound_takeDriveFrame f hs
  | settle => exact movesSound_heard.settleGuards hs
  | acceptExpires st hi => exact movesSound_acceptExpires hi hs
  | moveExpires st => exact movesSound_enterFault_of_sound nofun hs
  | trackingExpires st => exact movesSound_trackingExpires hs
  | repair => exact movesSound_repairMoves hs
  | hold => exact hs
  | releaseDeferred => exact movesSound_releaseDeferred hs
  | releaseOnce => exact movesSound_releaseDeferredOnce hs
  | relayout roster => exact movesSound_relayoutMoves roster hs
  | condition n active => exact movesSound_heard.setCondition n active hs
  | slipTimer w x => exact movesSound_heard.setSlipTimer w x hs
  | release n cause => exact movesSound_heard.settleGuards (movesSound_heard.removeGuard n cause hs)
  | releaseNamed n => exact movesSound_heard.settleRaised _ _ (movesSound_heard.removeGuard n 0 hs)
  | configure n f => exact movesSound_heard.configureGuard n f hs
  | masks mask => exact movesSound_heard.settleGuards hs
  | floor floor => exact movesSound_heard.settleGuards hs
  | raiseOperator => exact movesSound_heard.settleGuards hs
  | reset straps =>
    unfold resetPart judgeStore
    have hreset : (resetBlocks straps (cutShort s)).movesSound = true := rfl
    split
    · exact movesSound_heard.notice _ _ _ hreset
    · exact hreset
  | _ => exact absurd (by decide) hrest

/-- Settles O13: every effect keeps the move records sound, and DRIVE_FAULT judged. -/
theorem stepsKeepTheMoveRecordsInOrder : Obligations.StepsKeepTheMoveRecordsInOrder := fun _ _ hs h =>
  step_keeps (P := fun s => s.movesSound = true) (fun _ _ h => h) (fun _ _ _ h => h.movesSound) hs h

end Sys2Proof.Machine
end

section
/-! PROOF. What a command does to the configuration in force and to the images: the parameters, the store and the image
a SAVE writes. -/

namespace Sys2Proof.Machine

/-- What an effect does to the parameters, to the store and to the image being written. -/
inductive ConfigStep : State → State → Prop where
  | same {s t} (params : t.mgmt.params = s.mgmt.params) (saving : t.mgmt.saving = s.mgmt.saving)
      (store : t.store = s.store) : ConfigStep s t
  | tuned {s} (settle measure recheck : Word16) :
      ConfigStep s (s.withMgmt { s.mgmt with params := s.mgmt.params.tune settle measure recheck })
  | closed {s} (h : paramConflict s.mgmt.pendingParams s.safe.substitute s.map = none) : ConfigStep s (closeParams s)
  | saving {s} (r : Sender) : ConfigStep s (startSave r s)
  | saved {s} (j : SaveJob) (h : s.mgmt.saving = some j) :
      ConfigStep s ((s.withStore (.written j.image)).withMgmt { s.mgmt with saving := none, imageHeld := true })
  | reset {s} (straps : BitVec 3) : ConfigStep s (resetPart straps s)
  | driven {s} : ConfigStep s ((cutShort s).withPins { (cutShort s).pins with inReset := true, safeOut := false })

variable {s t u : State}

theorem Effect.configStep {T : List Block} (h : Effect T s t) : ConfigStep s t := by
  by_cases hT : Block.mgmt ∉ T ∧ Block.store ∉ T
  · have hm := h.onlyTouches.mgmt hT.1
    exact .same (by rw [hm]) (by rw [hm]) (h.onlyTouches.store hT.2)
  have htouches := h.onlyTouches
  have hduties (hd : SameDuties s t) (hstore : Block.store ∉ T) : ConfigStep s t :=
    .same hd.params hd.saving (htouches.store hstore)
  have hmgmt {x : Mgmt} (hx : t.mgmt = x) (hp : x.params = s.mgmt.params) (hsaving : x.saving = s.mgmt.saving)
      (hstore : Block.store ∉ T) : ConfigStep s t :=
    .same (by rw [hx, hp]) (by rw [hx, hsaving]) (htouches.store hstore)
  cases h with
  | sent => exact hduties (.sentFrame _ _ _ _) (by decide)
  | collided => exact hduties (.collideFrame _ _ _ _ _) (by decide)
  | ident f =>
    rcases takeIdent_mgmt f s with hm | ⟨-, ⟨c, hm⟩ | ⟨p, -, -, hm⟩⟩ <;> exact hmgmt hm rfl rfl (by decide)
  | inbox => exact .same rfl rfl rfl
  | claim => exact .same rfl rfl rfl
  | reply => exact hduties (.readyReply _ _) (by decide)
  | handOver => exact hduties (.handOver _ _) (by decide)
  | loseOwner => exact hmgmt (loseOwner_after s).1 rfl rfl (by decide)
  | pendingParams => exact .same rfl rfl rfl
  | closeParams h => exact .closed h
  | enterAwaitParam => exact .same rfl rfl rfl
  | tune => exact .tuned _ _ _
  | startChecking =>
    obtain ⟨c, hm⟩ := startChecking_mgmt s
    exact hmgmt hm rfl rfl (by decide)
  | answerExpires c =>
    rcases answerExpires_mgmt c s with ⟨c, hm⟩ | ⟨p, -, -, hm⟩ <;> exact hmgmt hm rfl rfl (by decide)
  | start => exact hmgmt (startRegulating_after s).1 rfl rfl (by decide)
  | stop => exact hmgmt (stopRegulating_after s).1 rfl rfl (by decide)
  | reading => exact .same rfl rfl rfl
  | startSave => exact .saving _
  | saved j h => exact .saved j h
  | reset => exact .reset _
  | resetDriven => exact .driven
  | _ => exact absurd (by decide) hT

/-! ### The images -/

theorem State.mem_images {i : Image} : i ∈ s.images ↔
    s.store.content = .image i ∨ ∃ j, s.mgmt.saving = some j ∧ j.image = i := by
  unfold State.images
  rw [List.mem_append]
  refine or_congr ?_ ?_
  · split
    · rename_i j hj
      rw [hj, List.mem_singleton]
      exact ⟨fun h => by rw [h], fun h => (StoreContent.image.inj h).symm⟩
    · rename_i hno
      exact ⟨nofun, fun h => absurd h (hno i)⟩
  · cases s.mgmt.saving with
    | none => exact ⟨nofun, fun ⟨_, hk, _⟩ => nomatch hk⟩
    | some j =>
      rw [List.mem_singleton]
      exact ⟨fun h => ⟨j, rfl, h.symm⟩, fun ⟨_, hk, h⟩ => by rw [← h, Option.some.inj hk]⟩

theorem mem_images_cutShort {i : Image} (h : i ∈ (cutShort s).images) : i ∈ s.images := by
  unfold cutShort at h
  split at h
  · rcases State.mem_images.mp h with h | ⟨j, h, -⟩ <;> cases h
  · exact h

/-- The configuration a reset loads is the default one, or the image in the store (R202). -/
theorem State.loaded_mem_images (s : State) : s.store.loaded = defaultImage ∨ s.store.loaded ∈ s.images := by
  unfold Store.loaded
  split
  · rename_i i hfound
    refine .inr (State.mem_images.mpr (.inl ?_))
    unfold Store.found at hfound
    split at hfound
    · split at hfound <;> cases hfound
    · rename_i hcontent
      split at hfound
      · rw [← StoreCondition.valid.inj hfound]; exact hcontent
      · cases hfound
    · cases hfound
  · exact .inl rfl
  · exact .inl rfl

theorem resetPart_images (straps : BitVec 3) : (resetPart straps s).images = (cutShort s).images := by
  have h := touches_judgeStore (T := touchNotices) (by decide) (.refl _ (resetBlocks straps (cutShort s)))
  unfold State.images
  rw [resetPart, h.mgmt (by decide), h.store (by decide)]
  rw [cutShort_mgmt]
  rfl

/-- An image after an effect was there before, or it is the configuration as it stood. -/
theorem ConfigStep.mem_images (h : ConfigStep s t) {i : Image} (hi : i ∈ t.images) : i ∈ s.images ∨ i = s.snapshot := by
  cases h with
  | same _ hsaving hstore => exact .inl (by unfold State.images at hi ⊢; rwa [← hsaving, ← hstore])
  | tuned => exact .inl hi
  | closed => exact .inl hi
  | saving r =>
    rcases State.mem_images.mp hi with hi | ⟨j, hj, hi⟩
    · exact .inl (State.mem_images.mpr (.inl hi))
    · obtain rfl := Option.some.inj hj
      exact .inr hi.symm
  | saved j hj =>
    rcases State.mem_images.mp hi with hi | ⟨k, hk, -⟩
    · exact .inl (State.mem_images.mpr (.inr ⟨j, hj, StoreContent.image.inj hi⟩))
    · cases hk
  | reset straps => exact .inl (mem_images_cutShort (by rwa [← resetPart_images straps]))
  | driven => exact .inl (mem_images_cutShort hi)

/-- What holds of every image, and of the configuration as it stands, holds of every image after an effect. -/
theorem Effect.images {T : List Block} {K : Image → Bool} (h : Effect T s t) (hs : s.images.all K = true)
    (hsnapshot : K s.snapshot = true) : t.images.all K = true := by
  rw [List.all_eq_true] at hs ⊢
  intro i hi
  rcases h.configStep.mem_images hi with hi | rfl
  · exact hs i hi
  · exact hsnapshot

/-- What holds of the default image and of every image holds of the one a reset loads. -/
theorem State.loaded_of_images {K : Image → Bool} (hs : s.images.all K = true) (hdefault : K defaultImage = true) :
    K (cutShort s).store.loaded = true := by
  rcases (cutShort s).loaded_mem_images with h | h
  · rw [h]; exact hdefault
  · exact List.all_eq_true.mp hs _ (mem_images_cutShort h)

end Sys2Proof.Machine
end

section
/-! PROOF. The bands of the classifier through every step (O10). -/

namespace Sys2Proof.Machine

variable {s t : State} {c : Classifier} {a : Axis} {x : AxisState} {d : AxisDef}

/-! ### The range of a band -/

theorem risenBand_range {ts : List Word16} {b n k : Nat} {h v : Int} (hk : risenBand b h v n ts = some k) :
    k < n + ts.length := by
  induction ts generalizing n k with
  | nil => cases hk
  | cons t ts ih =>
    rw [List.length_cons]
    rw [risenBand] at hk
    split at hk
    · rename_i j hj
      have hlt := ih hj
      obtain rfl := Option.some.inj hk
      omega
    · split at hk
      · obtain rfl := Option.some.inj hk
        omega
      · cases hk

theorem fallenBand_le {ts : List Word16} {b n k : Nat} {h v : Int} (hk : fallenBand b h v n ts = some k) : k ≤ b := by
  induction ts generalizing n with
  | nil => cases hk
  | cons t ts ih =>
    rw [fallenBand] at hk
    split at hk
    · rename_i hle
      obtain rfl := Option.some.inj hk
      exact hle.1
    · exact ih hk

theorem hysteresisBand_le {ts : List Word16} {h v : Int} {b m : Nat} (hts : ts.length ≤ m) (hb : b ≤ m) :
    hysteresisBand ts h b v ≤ m := by
  unfold hysteresisBand
  split
  · rename_i k hk
    have := risenBand_range hk
    omega
  · split
    · rename_i k hk
      have := fallenBand_le hk
      omega
    · exact hb

theorem axisFits_iff : axisFits a d = true ↔ d.thresholds.length = a.highest ∧ d.defaultBand ≤ a.highest := by
  rw [axisFits, Bool.and_eq_true, beq_iff_eq, decide_eq_true_eq]

theorem AxisState.bandFor_le (hfits : axisFits a x.defn = true) (hc : x.candidate ≤ a.highest) (v : Word16) :
    x.bandFor v ≤ a.highest := by
  obtain ⟨hlen, -⟩ := axisFits_iff.mp hfits
  unfold AxisState.bandFor
  split
  · exact hlen ▸ plainBand_le_length _ _
  · exact hysteresisBand_le (Nat.le_of_eq hlen) hc

/-! ### One axis -/

/-- An axis beside its adopted band (R55, R62). -/
structure AxisState.Sound (a : Axis) (x : AxisState) (band : Nat) : Prop where
  fits : axisFits a x.defn = true
  candidate : x.candidate ≤ a.highest
  adopted : band ≤ a.highest
  value : x.frozen = x.value.isNone
  kept : x.frozen = true → x.candidate = band

theorem Classifier.axisSound_iff : c.axisSound a = true ↔ (c.axes.get a).Sound a (c.adopted.get a) := by
  simp only [Classifier.axisSound, Bool.and_eq_true, decide_eq_true_eq, beq_iff_eq, Bool.or_eq_true, Bool.not_eq_true']
  refine ⟨fun ⟨⟨⟨⟨hf, hc⟩, ha⟩, hv⟩, hk⟩ => ⟨hf, hc, ha, hv, fun h => hk.resolve_left (by simp [h])⟩,
    fun h => ⟨⟨⟨⟨h.fits, h.candidate⟩, h.adopted⟩, h.value⟩, ?_⟩⟩
  cases hx : (c.axes.get a).frozen
  · exact .inl rfl
  · exact .inr (h.kept hx)

/-! ### The classifier -/

/-- Every axis is sound, and the dwell runs exactly while the candidate class differs from the adopted one (R58). -/
structure Classifier.Sound (c : Classifier) : Prop where
  axes : ∀ a, (c.axes.get a).Sound a (c.adopted.get a)
  dwell : c.dwell.isSome = true ↔ c.candidate ≠ c.adopted

theorem Axis.mem_all (a : Axis) : a ∈ Axis.all := by cases a <;> decide

theorem axesFit_iff {axes : PerAxis AxisDef} :
    (Axis.all.all fun a => axisFits a (axes.get a)) = true ↔ ∀ a, axisFits a (axes.get a) = true :=
  List.all_eq_true.trans ⟨fun h a => h a (Axis.mem_all a), fun h a _ => h a⟩

theorem classSound_iff : s.classSound = true ↔ s.classifier.Sound ∧
    s.images.all (fun i => Axis.all.all fun a => axisFits a (i.axes.get a)) = true := by
  unfold State.classSound
  rw [Bool.and_eq_true, Bool.and_eq_true]
  refine and_congr_left fun _ => (and_congr List.all_eq_true (by rw [beq_iff_eq, Bool.eq_iff_iff, decide_eq_true_eq])).trans
    ⟨fun h => ⟨fun a => Classifier.axisSound_iff.mp (h.1 a (Axis.mem_all a)), h.2⟩,
    fun h => ⟨fun a _ => Classifier.axisSound_iff.mpr (h.axes a), h.dwell⟩⟩

theorem PerAxis.get_tabulate {α : Type} (f : Axis → α) (a : Axis) : (PerAxis.tabulate f).get a = f a := by
  cases a <;> rfl

theorem Classifier.candidate_get (c : Classifier) (a : Axis) : c.candidate.get a = (c.axes.get a).candidate :=
  PerAxis.get_tabulate _ a

/-- The dwell after it has acted runs exactly while the classes differ (R59). -/
theorem Classifier.dwell_actDwell (c : Classifier) (now : Word32) (length : Nat) :
    (c.actDwell now length).dwell.isSome = true ↔ c.candidate ≠ c.adopted := by
  unfold Classifier.actDwell
  by_cases h : c.candidate = c.adopted
  · simp [h]
  · simp [h]

theorem classifierSound_changeAxis (hs : s.classifier.Sound) (hx : x.Sound a (s.classifier.adopted.get a)) :
    (changeAxis a x s).classifier.Sound := by
  refine ⟨fun b => ?_, ?_⟩
  · rw [changeAxis_axes, changeAxis_adopted, PerAxis.get_set]
    split
    · rename_i hb; exact hb ▸ hx
    · exact hs.axes b
  · rw [changeAxis_dwell, changeAxis_adopted]
    split
    · rename_i hsame
      rw [hsame]
      exact hs.dwell
    · split
      · rename_i hsame
        exact iff_of_false nofun (fun h => h hsame)
      · exact iff_of_true rfl ‹_›

theorem classifierSound_takeAxisValue (a : Axis) (v : Word16) (hs : s.classifier.Sound) :
    (takeAxisValue a v s).classifier.Sound :=
  have h := hs.axes a
  classifierSound_changeAxis hs
    ⟨h.fits, AxisState.bandFor_le h.fits h.candidate v, h.adopted, rfl, nofun⟩

theorem classifierSound_freezeAxis (a : Axis) (hs : s.classifier.Sound) : (freezeAxis a s).classifier.Sound := by
  unfold freezeAxis
  dsimp only
  split
  · exact hs
  · have h := hs.axes a
    exact classifierSound_changeAxis hs ⟨h.fits, h.adopted, h.adopted, rfl, fun _ => rfl⟩

/-- A classifier whose adopted class becomes its candidate class is sound, the dwell stopped (R61). -/
theorem classifierSound_adoptCandidate (hs : s.classifier.Sound) : (adoptCandidate s).classifier.Sound := by
  unfold adoptCandidate
  rw [(touches_handAdoption (T := touchCycle) (List.Subset.refl _) (.refl _ _)).classifier (by decide)]
  refine ⟨fun a => ?_, iff_of_false nofun fun h => h rfl⟩
  have h := hs.axes a
  rw [State.withClassifier_classifier, Classifier.candidate_get]
  exact ⟨h.fits, h.candidate, h.candidate, h.value, fun _ => rfl⟩

theorem classifierSound_rewriteAxis (hfits : axisFits a d = true) {v : Word16}
    (hv : (s.classifier.axes.get a).value = some v) (hs : s.classifier.Sound) :
    (rewriteAxis a d v s).classifier.Sound := by
  have h := hs.axes a
  have hfrozen : (s.classifier.axes.get a).frozen = false := by rw [h.value, hv]; rfl
  refine classifierSound_changeAxis hs ⟨hfits, ?_, h.adopted, h.value, fun k => ?_⟩
  · exact (axisFits_iff.mp hfits).1 ▸ plainBand_le_length _ _
  · exact nomatch hfrozen.symm.trans k

/-- A frozen axis rewritten, its candidate and its adopted band the new default band (R53). -/
theorem classifierSound_axes_rewritten (hfits : axisFits a d = true)
    (hfrozen : (s.classifier.axes.get a).frozen = true) (hs : s.classifier.Sound) (b : Axis) :
    ((s.classifier.axes.set a { s.classifier.axes.get a with defn := d, candidate := d.defaultBand }).get b).Sound b
      ((s.classifier.adopted.set a d.defaultBand).get b) := by
  rw [PerAxis.get_set, PerAxis.get_set]
  split
  · rename_i hb
    subst hb
    have hdefault := (axisFits_iff.mp hfits).2
    exact ⟨hfits, hdefault, hdefault, (hs.axes b).value, fun _ => rfl⟩
  · exact hs.axes b

theorem PerAxis.set_get {α : Type} (p : PerAxis α) (a : Axis) : p.set a (p.get a) = p := by cases a <;> rfl

/-- The dwell of a rewritten axis acts when the candidate class changes; when it does not, the adopted class does not
change either, and the dwell stays right (R53, R59). -/
theorem classifierSound_rewriteFrozenAxis (hfits : axisFits a d = true)
    (hfrozen : (s.classifier.axes.get a).frozen = true) (hs : s.classifier.Sound) :
    (rewriteFrozenAxis a d s).classifier.Sound := by
  have haxes := classifierSound_axes_rewritten hfits hfrozen hs
  unfold rewriteFrozenAxis
  dsimp only
  split
  · rename_i hsame
    have hband : d.defaultBand = s.classifier.adopted.get a := by
      have hget := congrArg (fun p => p.get a) hsame
      rw [Classifier.candidate_get, Classifier.candidate_get, Classifier.withAxis, PerAxis.get_set, if_pos rfl,
        (hs.axes a).kept hfrozen] at hget
      exact hget
    have hadopted : s.classifier.adopted.set a d.defaultBand = s.classifier.adopted := by
      rw [hband, PerAxis.set_get]
    rw [if_pos hadopted]
    refine ⟨fun b => ?_, ?_⟩
    · rw [hadopted] at haxes
      exact haxes b
    · rw [State.withClassifier_classifier, hsame]
      exact hs.dwell
  · refine ⟨fun b => ?_, Classifier.dwell_actDwell _ _ _⟩
    rw [State.withClassifier_classifier]
    split
    · rename_i hadopted
      rw [hadopted] at haxes
      exact haxes b
    · rw [(touches_handAdoption (T := touchCycle) (List.Subset.refl _) (.refl _ _)).classifier (by decide)]
      exact haxes b

theorem classifierSound_writeAxis (hfits : axisFits a d = true) (hs : s.classifier.Sound) :
    (writeAxis a d s).classifier.Sound := by
  unfold writeAxis
  split
  · rename_i hv
    exact classifierSound_rewriteAxis hfits hv hs
  · rename_i hno
    refine classifierSound_rewriteFrozenAxis hfits ?_ hs
    have hvalue := (hs.axes a).value
    cases hv : (s.classifier.axes.get a).value with
    | none => rw [hvalue, hv]; rfl
    | some v => exact absurd hv (hno v (by rw [hvalue, hv]; rfl))

theorem classifierSound_of_touches {T : List Block} (h : OnlyTouches T s t) (hT : Block.classifier ∉ T)
    (hs : s.classifier.Sound) : t.classifier.Sound := by
  rwa [h.classifier hT]

/-- Judging the CHANNEL_LOST indicator reaches the arbiter, not the classifier (R39). -/
theorem touches_judgeLost_guards (s : State) : OnlyTouches touchGuards s (judgeLost s) := by
  unfold judgeLost
  split
  · exact .refl _ s
  · exact touches_setCondition (List.Subset.refl _) (touches_withChannels (by decide) (.refl _ s) _) _ _

theorem classifierSound_listening : Listening (fun s => s.classifier.Sound) where
  order h _ := h
  notice _ _ _ {s} h := classifierSound_of_touches (touches_raiseNotice (List.Subset.refl _) (.refl _ s) _ _ _) (by decide) h
  channels _ h := h
  judge {s} h := classifierSound_of_touches (touches_judgeLost_guards s) (by decide) h
  value a v {_} := classifierSound_takeAxisValue a v
  freeze a {_} := classifierSound_freezeAxis a
  kept _ _ {s} h := classifierSound_of_touches (touches_takeKept (List.Subset.refl _) (.refl _ s) _ _) (by decide) h
  examine {s} h := classifierSound_of_touches (touches_settleWaiting (List.Subset.refl _) (.refl _ s)) (by decide) h
  adopt := classifierSound_adoptCandidate
  axis _ _ {_} hfits := classifierSound_writeAxis hfits

/-! ### Every effect -/

theorem defaultImage_axesFit : (Axis.all.all fun a => axisFits a (defaultImage.axes.get a)) = true := by decide

theorem classifierSound_reset {i : Image} (hi : (Axis.all.all fun a => axisFits a (i.axes.get a)) = true) :
    (resetClassifier i).Sound := by
  refine ⟨fun a => ?_, iff_of_false nofun fun h => h ?_⟩
  · have hfits := axesFit_iff.mp hi a
    have hdefault := (axisFits_iff.mp hfits).2
    rw [resetClassifier, PerAxis.get_tabulate, PerAxis.get_tabulate]
    exact ⟨hfits, hdefault, hdefault, rfl, fun _ => rfl⟩
  · rfl

theorem Effect.classifierSound {T : List Block} (h : Effect T s t) (hs : s.classSound = true) : t.classifier.Sound := by
  obtain ⟨hc, himages⟩ := classSound_iff.mp hs
  by_cases hT : Block.classifier ∉ T
  · exact classifierSound_of_touches h.onlyTouches hT hc
  by_cases hclass : T = touchClass
  · exact classifierSound_listening.effect h hclass hc
  have hrest := not_or.mpr ⟨hT, hclass⟩
  cases h with
  | reset straps =>
    have hreset := State.loaded_of_images himages defaultImage_axesFit
    exact classifierSound_of_touches (touches_judgeStore (T := touchNotices) (by decide) (.refl _ _)) (by decide)
      (classifierSound_reset hreset)
  | _ => exact absurd (by decide) hrest

theorem Effect.classSound {T : List Block} (h : Effect T s t) (hs : s.classSound = true) : t.classSound = true := by
  obtain ⟨hc, himages⟩ := classSound_iff.mp hs
  refine classSound_iff.mpr ⟨h.classifierSound hs, h.images himages (axesFit_iff.mpr fun a => ?_)⟩
  rw [State.snapshot, PerAxis.get_tabulate]
  exact (hc.axes a).fits

/-- Settles O10: every effect keeps the classifier sound, and the axes of the images. -/
theorem stepsKeepTheClassesInRange : Obligations.StepsKeepTheClassesInRange := fun _ _ hs h =>
  step_keeps (P := fun s => s.classSound = true) (fun _ _ h => h) (fun _ _ _ h => h.classSound) hs h

end Sys2Proof.Machine
end

section
/-! PROOF. The limits of R28 and the CHANNEL_LOST indicator through every step (O12). An entry may enter or leave LOST
before the indicator is judged: the limits hold throughout, and one of the handings makes the indicator agree. -/

namespace Sys2Proof.Machine

variable {s t : State} {u v : ChannelUnit} {i : Fin 24} {d : ChannelDef}

/-! ### What the limits and the indicator read -/

/-- What the limits and the indicator read of an entry. -/
def Channel.mark (c : Channel) : ChannelDef × Bool := (c.defn, decide (c.rt.lock = .lost))

/-- The marks of the table. -/
def ChannelUnit.marks (u : ChannelUnit) : List (ChannelDef × Bool) := u.entries.list.map Channel.mark

/-- The table obeys R28. -/
def ChannelUnit.obeys (u : ChannelUnit) : Prop := channelsObey (u.entries.list.map Channel.defn) = true

/-- The indicator is the one of R39. -/
def ChannelUnit.judged (u : ChannelUnit) : Prop := u.lostIndicator = u.lostNow

theorem ChannelUnit.defns_eq (u : ChannelUnit) : u.entries.list.map Channel.defn = u.marks.map Prod.fst := by
  rw [ChannelUnit.marks, List.map_map]
  rfl

theorem ChannelUnit.lostNow_eq (u : ChannelUnit) : u.lostNow = u.marks.any (fun m => m.1.enabled && m.1.required && m.2) := by
  rw [ChannelUnit.marks, List.any_map]
  rfl

theorem ChannelUnit.obeys_of_marks (h : v.marks = u.marks) (hu : u.obeys) : v.obeys := by
  rwa [ChannelUnit.obeys, ChannelUnit.defns_eq, h, ← ChannelUnit.defns_eq]

theorem ChannelUnit.judged_of_marks (h : v.marks = u.marks) (hi : v.lostIndicator = u.lostIndicator) (hu : u.judged) :
    v.judged := by
  rwa [ChannelUnit.judged, ChannelUnit.lostNow_eq, h, hi, ← ChannelUnit.lostNow_eq]

theorem channelsSound_iff : s.channelsSound = true ↔ s.channels.obeys ∧ s.channels.judged ∧
    s.images.all (fun i => channelsObey i.channels.list) = true := by
  rw [State.channelsSound, Bool.and_eq_true, Bool.and_eq_true, beq_iff_eq, and_assoc]
  rfl

/-- A record replaced by one of which the same is read. -/
theorem Table.map_set_of_eq {α β : Type} {n : Nat} {tb : Table α n} {k : Fin n} {a : α} {f : α → β}
    (h : f a = f (tb.get k)) : (tb.set k a).list.map f = tb.list.map f := by
  unfold Table.set
  rw [List.map_set, h]
  refine List.ext_getElem (by simp) fun j hj _ => ?_
  rw [List.getElem_set]
  split
  · rename_i hkj
    subst hkj
    simp [Table.get]
  · rfl

/-- A runtime record changed, the lock entering or leaving LOST or not. -/
theorem obeys_updRuntime {f : ChannelRt → ChannelRt} (h : s.channels.obeys) : (updRuntime i f s).channels.obeys := by
  unfold ChannelUnit.obeys
  rw [show (updRuntime i f s).channels.entries.list.map Channel.defn = s.channels.entries.list.map Channel.defn from
    Table.map_set_of_eq rfl]
  exact h

theorem ChannelUnit.marks_openGate : u.openGate.marks = u.marks := by
  unfold ChannelUnit.openGate ChannelUnit.marks Table.map
  rw [List.map_map]
  rfl

theorem ChannelUnit.marks_clearLatches : u.clearLatches.marks = u.marks := by
  unfold ChannelUnit.clearLatches ChannelUnit.marks Table.map
  rw [List.map_map]
  rfl

/-! ### R28 after a write -/

/-- R28 of a list of definitions, the counts read off the whole list. -/
theorem channelsObey_iff {l : List ChannelDef} : channelsObey l = true ↔ ∀ d ∈ l, d.enabled = true →
    l.countP (fun e => (decide (e.station = d.station) && decide (e.sub = d.sub)) && e.enabled) ≤ 1 ∧
    ∀ n, d.role.limit = some n → l.countP (fun e => decide (e.role = d.role) && e.enabled) ≤ n := by
  simp only [channelsObey, List.all_eq_true, List.mem_filter, Bool.and_eq_true, decide_eq_true_eq, ← List.countP_eq_length_filter,
    List.countP_filter, and_imp]
  refine forall_congr' fun d => imp_congr_right fun _ => imp_congr_right fun _ => and_congr_right fun _ => ?_
  cases d.role.limit with
  | none => exact iff_of_true rfl nofun
  | some n => exact decide_eq_true_iff.trans ⟨fun h m hm => Option.some.inj hm ▸ h, fun h => h n rfl⟩

/-- A definition put in place of another, which does not count, counts for nothing. -/
theorem countP_set_le {l : List ChannelDef} {p : ChannelDef → Bool} (h : p d = false) (k : Nat) :
    (l.set k d).countP p ≤ l.countP p := by
  by_cases hk : k < l.length
  · rw [List.countP_set hk]
    simp [h]
  · exact Nat.le_of_eq (congrArg _ (List.set_eq_of_length_le (Nat.le_of_not_lt hk)))

/-- A write that breaks no limit leaves the table within them (R28). -/
theorem ChannelUnit.obeys_write (hu : u.obeys) (h : u.breaksLimit i d = false) :
    channelsObey (((u.entries.map Channel.defn).set i d).list) = true := by
  unfold ChannelUnit.obeys at hu
  rw [channelsObey_iff] at hu ⊢
  simp only [ChannelUnit.breaksLimit, ChannelUnit.keyClash, ChannelUnit.roleClash, ChannelUnit.enabledAfter,
    ← List.countP_eq_length_filter, List.countP_filter] at h
  intro e he hon
  rcases List.mem_or_eq_of_mem_set he with he | rfl
  · obtain ⟨hkey, hrole⟩ := hu e he hon
    cases hd : d.enabled with
    | false =>
      exact ⟨Nat.le_trans (countP_set_le (by simp [hd]) _) hkey, fun n hn => Nat.le_trans (countP_set_le (by simp [hd]) _) (hrole n hn)⟩
    | true =>
      rw [hd, Bool.true_and, Bool.or_eq_false_iff, decide_eq_false_iff_not, Nat.not_lt] at h
      obtain ⟨hnokey, hnorole⟩ := h
      refine ⟨?_, fun n hn => ?_⟩
      · by_cases hsame : d.station = e.station ∧ d.sub = e.sub
        · rwa [hsame.1, hsame.2] at hnokey
        · exact Nat.le_trans (countP_set_le (by simpa [hd] using hsame) _) hkey
      · by_cases hsame : d.role = e.role
        · rw [hsame, hn] at hnorole
          simpa using hnorole
        · exact Nat.le_trans (countP_set_le (by simpa [hd] using hsame) _) (hrole n hn)
  · rw [hon, Bool.true_and, Bool.or_eq_false_iff, decide_eq_false_iff_not, Nat.not_lt] at h
    obtain ⟨hnokey, hnorole⟩ := h
    refine ⟨hnokey, fun n hn => ?_⟩
    rw [hn] at hnorole
    simpa using hnorole

/-! ### Predicates on the channel unit that the gate leaves -/

/-- A predicate on the channel unit that reads marks and indicator. -/
def ReadsMarks (K : ChannelUnit → Prop) : Prop :=
  ∀ u v : ChannelUnit, v.marks = u.marks → v.lostIndicator = u.lostIndicator → K u → K v

theorem readsMarks_obeys : ReadsMarks ChannelUnit.obeys := fun _ _ h _ => ChannelUnit.obeys_of_marks h

theorem readsMarks_both : ReadsMarks (fun u => u.obeys ∧ u.judged) := fun _ _ h hi hu =>
  ⟨ChannelUnit.obeys_of_marks h hu.1, ChannelUnit.judged_of_marks h hi hu.2⟩

namespace ReadsMarks

variable {K : ChannelUnit → Prop} (hK : ReadsMarks K)
include hK

omit hK in
theorem of_touches {T : List Block} (h : OnlyTouches T s t) (hT : Block.channels ∉ T) (hs : K s.channels) :
    K t.channels := by
  rwa [h.channels hT]

theorem quiet : Quiet (fun s => K s.channels) where
  touches h := of_touches h (by decide)
  regulator _ {_} _ h := h
  result _ {_} h := h
  openGate h := hK _ _ ChannelUnit.marks_openGate rfl h
  closeGate {s} h := hK s.channels s.channels.closeGate rfl rfl h
  safeOut _ {_} h := h
  publish h := h
  notice _ _ _ {s} := of_touches (touches_raiseNotice (List.Subset.refl _) (.refl _ s) _ _ _) (by decide)
  goal _ _ {s} := of_touches (touches_giveGoal (List.Subset.refl _) (.refl _ s) _ _) (by decide)

theorem moved : Moved (fun s => K s.channels) where
  toSteady := hK.quiet.steady
  moves _ {_} h := h
  goal := hK.quiet.goal
  issue _ {s} := of_touches (touches_issueSet (List.Subset.refl _) (.refl _ s) _) (by decide)
  resend _ {s} := of_touches (touches_resendSet (List.Subset.refl _) (.refl _ s) _) (by decide)

theorem cycled : Cycled (fun s => K s.channels) where
  toQuiet := hK.quiet
  keep _ {s} := of_touches (touches_handKeep (T := [.map, .keep, .order]) (by decide) (.refl _ s) _) (by decide)
  lossAlarm := hK.quiet.steady.takeEvent _
  discard := hK.moved.moving.discardDeferred
  letGo h := hK.moved.moving.discardDeferred h
  orphaned h := h
  duty _ {_} h := h

theorem runtime {f : ChannelRt → ChannelRt} (hf : (f (s.channel i).rt).lock = .lost ↔ (s.channel i).rt.lock = .lost)
    (hs : K s.channels) : K (updRuntime i f s).channels :=
  hK s.channels _ (Table.map_set_of_eq (Prod.ext rfl (decide_eq_decide.mpr hf))) rfl hs

end ReadsMarks

/-! ### The indicator judged -/

/-- The limits and the indicator. -/
abbrev State.channelsJudged (s : State) : Prop := s.channels.obeys ∧ s.channels.judged

theorem judgeLost_judges (h : s.channels.obeys) : (judgeLost s).channelsJudged := by
  unfold judgeLost
  split
  · exact ⟨h, Eq.symm ‹_›⟩
  · exact readsMarks_both.quiet.steady.setCondition 6 s.channels.lostNow
      (s := s.withChannels { s.channels with lostIndicator := s.channels.lostNow }) ⟨h, rfl⟩

/-- The indicator judged among handings that leave the channel unit's marks. -/
theorem judges_interleave {a b : List (List Handing)} (hs : s.channels.obeys)
    (hab : ∀ {K}, ReadsMarks K → ∀ c ∈ a ++ b, ∀ g ∈ c, ∀ t : State, K t.channels → K (g t).channels) :
    (interleave (a ++ [[judgeLost]] ++ b) s).channelsJudged := by
  have hmem {c : List Handing} (hc : c ∈ a ++ [[judgeLost]] ++ b) : c ∈ a ++ b ∨ c = [judgeLost] := by
    simp only [List.mem_append, List.mem_singleton] at hc ⊢
    exact hc.elim (fun h => h.elim (fun h => .inl (.inl h)) .inr) fun h => .inl (.inr h)
  refine interleave_establishes (P := fun s => s.channels.obeys) (Q := State.channelsJudged) (fun _ => hs)
    (fun c hc g hg t ht => ?_) (fun c hc g hg t ht => ?_)
    ⟨[judgeLost], by simp, judgeLost, List.mem_singleton.mpr rfl, fun t ht => judgeLost_judges ht⟩
  · rcases hmem hc with hc | rfl
    · exact hab readsMarks_obeys c hc g hg t ht
    · obtain rfl := List.mem_singleton.mp hg
      exact (judgeLost_judges ht).1
  · rcases hmem hc with hc | rfl
    · exact hab readsMarks_both c hc g hg t ht
    · obtain rfl := List.mem_singleton.mp hg
      exact judgeLost_judges ht.1

/-! ### The operations of the channel unit -/

/-- The handings of a value and of a loss reach the classifier and the arbiter (R38). -/
theorem ReadsMarks.valueHandings {K : ChannelUnit → Prop} (hK : ReadsMarks K) (r : Role) (v : Word16) :
    ∀ c ∈ valueHandings r v, ∀ g ∈ c, ∀ t : State, K t.channels → K (g t).channels := by
  intro c hc g hg t ht
  unfold Machine.valueHandings at hc
  rcases List.mem_append.mp hc with hc | hc <;> split at hc <;> cases hc
  · obtain rfl := List.mem_singleton.mp hg; exact hK.quiet.steady.takeAxisValue _ _ ht
  · contradiction
  · obtain rfl := List.mem_singleton.mp hg; exact hK.quiet.steady.takeKept _ _ ht
  · contradiction

theorem ReadsMarks.unusableHandings {K : ChannelUnit → Prop} (hK : ReadsMarks K) (r : Role) :
    ∀ c ∈ unusableHandings r, ∀ g ∈ c, ∀ t : State, K t.channels → K (g t).channels := by
  intro c hc g hg t ht
  unfold Machine.unusableHandings at hc
  rcases List.mem_append.mp hc with hc | hc <;> split at hc <;> cases hc
  · obtain rfl := List.mem_singleton.mp hg; exact hK.quiet.steady.freezeAxis _ ht
  · contradiction
  · obtain rfl := List.mem_singleton.mp hg; exact hK.quiet.steady.takeKept _ _ ht
  · contradiction

theorem ReadsMarks.noticeHanding {K : ChannelUnit → Prop} (hK : ReadsMarks K) (kind : NoticeKind) (subject : Nat)
    (detail : Word16) : ∀ c ∈ [[raiseNotice kind subject detail]], ∀ g ∈ c, ∀ t : State, K t.channels →
    K (g t).channels := by
  intro c hc g hg t ht
  obtain rfl := List.mem_singleton.mp hc
  obtain rfl := List.mem_singleton.mp hg
  exact hK.quiet.notice _ _ _ ht

theorem channelsJudged_countArrival (i : Fin 24) (hs : s.channelsJudged) : (countArrival i s).channelsJudged := by
  unfold countArrival
  dsimp only
  split
  · exact judges_interleave (a := [[raiseNotice .channelLocked i.val (BitVec.ofNat 16 (s.channel i).defn.role.code)]])
      (b := []) (obeys_updRuntime hs.1) fun hK => hK.noticeHanding _ _ _
  · rename_i hlost
    exact readsMarks_both.runtime (iff_of_false nofun hlost) hs

theorem ChannelRt.accumulate_lock (r : ChannelRt) (v : Word16) : (r.accumulate v).lock = r.lock := by
  unfold ChannelRt.accumulate
  split <;> rfl

theorem channelsJudged_takeValue (i : Fin 24) (v : Word16) (hs : s.channelsJudged) : (takeValue i v s).channelsJudged := by
  have hboth := readsMarks_both
  have hsame {f : ChannelRt → ChannelRt} (hf : ∀ r, (f r).lock = r.lock) : (updRuntime i f s).channelsJudged :=
    hboth.runtime (by rw [hf]) hs
  unfold takeValue
  dsimp only
  split
  · refine keeps_interleave (hboth.quiet.order (hsame fun r => ?_)) (hboth.valueHandings _ _)
    split
    · exact ChannelRt.accumulate_lock _ _
    · rfl
  · refine hsame fun r => ?_
    split
    · exact ChannelRt.accumulate_lock _ _
    · rfl

theorem channelsJudged_takeSample (f : Frame) (hs : s.channelsJudged) : (takeSample f s).channelsJudged := by
  have hboth := readsMarks_both
  unfold takeSample
  split
  · split
    · rename_i i _
      have harrived := channelsJudged_countArrival i hs
      unfold takeArrival
      dsimp only
      split
      · unfold takeFaulted
        dsimp only
        split
        · exact hboth.runtime Iff.rfl harrived
        · exact hboth.quiet.notice _ _ _ (hboth.runtime Iff.rfl harrived)
      · split
        · exact channelsJudged_takeValue _ _ harrived
        · unfold rejectValue
          dsimp only
          split
          · exact hboth.runtime Iff.rfl harrived
          · exact hboth.quiet.notice _ _ _ (hboth.runtime Iff.rfl harrived)
    · exact hs
  · exact hs

theorem ReadsMarks.usableIf {K : ChannelUnit → Prop} (hK : ReadsMarks K) (b : Bool) (r : Role) :
    ∀ c ∈ (if b then Machine.unusableHandings r else []), ∀ g ∈ c, ∀ t : State, K t.channels → K (g t).channels := by
  split
  · exact hK.unusableHandings r
  · exact fun c hc => absurd hc (by simp)

theorem channelsJudged_enterLost (i : Fin 24) (hs : s.channels.obeys) : (enterLost i s).channelsJudged := by
  unfold enterLost
  exact judges_interleave (a := [[raiseNotice .channelLost i.val (BitVec.ofNat 16 (s.channel i).defn.role.code)]])
    (obeys_updRuntime hs) fun hK => List.forall_mem_append.mpr ⟨hK.noticeHanding _ _ _, hK.usableIf _ _⟩

theorem channelsJudged_channelExpires (i : Fin 24) (hs : s.channelsJudged) : (channelExpires i s).channelsJudged := by
  unfold channelExpires
  split
  · rename_i hlocked
    exact readsMarks_both.runtime (iff_of_false nofun (by rw [hlocked]; nofun)) hs
  · exact channelsJudged_enterLost i hs.1
  · exact readsMarks_both.runtime Iff.rfl hs

theorem channelsJudged_writeChannel (h : s.channels.breaksLimit i d = false) (hs : s.channelsJudged) :
    (writeChannel i d s).channelsJudged := by
  unfold writeChannel
  refine readsMarks_both.quiet.steady.settleWaiting (judges_interleave (a := []) ?_ fun hK => hK.usableIf _ _)
  have hwritten := ChannelUnit.obeys_write hs.1 h
  unfold ChannelUnit.obeys
  rwa [show (setChannel i ⟨d, freshRuntime (s.channels.gate && d.measured)⟩ s).channels.entries.list.map Channel.defn =
    ((s.channels.entries.map Channel.defn).set i d).list from List.map_set]

theorem Table.map_imap_of_eq {α β : Type} {n : Nat} {g : Nat → α → α} {f : α → β} (h : ∀ k a, f (g k a) = f a)
    (tb : Table α n) : (tb.imap g).list.map f = tb.list.map f := by
  have hfrom (k : Nat) (l : List α) : (Table.mapFrom g k l).map f = l.map f := by
    induction l generalizing k with
    | nil => rfl
    | cons a as ih => rw [Table.mapFrom, List.map_cons, List.map_cons, h, ih]
  exact hfrom 0 tb.list

theorem channelsJudged_restartChannels (which : Option Nat) (hs : s.channelsJudged) :
    (restartChannels which s).channelsJudged := by
  unfold restartChannels
  refine readsMarks_both.quiet.steady.settleWaiting (judges_interleave (a := []) ?_ fun hK c hc => ?_)
  · unfold ChannelUnit.obeys
    rw [State.withChannels_channels, ChannelUnit.restart, Table.map_imap_of_eq fun k c => by split <;> rfl]
    exact hs.1
  · obtain ⟨cs, hcs, hmem⟩ := List.mem_flatten.mp hc
    obtain ⟨i, -, rfl⟩ := List.mem_map.mp hcs
    exact hK.unusableHandings _ c hmem

/-! ### Every effect -/

theorem channelsJudged_reset {i : Image} (hi : channelsObey i.channels.list = true) :
    (resetChannels i).obeys ∧ (resetChannels i).judged := by
  constructor
  · unfold ChannelUnit.obeys resetChannels Table.map
    rwa [List.map_map, show Channel.defn ∘ (fun d => (⟨d, freshRuntime false⟩ : Channel)) = id from rfl, List.map_id]
  · unfold ChannelUnit.judged ChannelUnit.lostNow resetChannels Table.map
    rw [List.any_map]
    exact (List.any_eq_false.mpr fun d _ => by simp [freshRuntime]).symm

theorem Effect.channelsJudged {T : List Block} (h : Effect T s t) (hs : s.channelsSound = true) : t.channelsJudged := by
  obtain ⟨hobeys, hjudged, himages⟩ := channelsSound_iff.mp hs
  have hcore : s.channelsJudged := ⟨hobeys, hjudged⟩
  have hboth := readsMarks_both
  by_cases hT : Block.channels ∉ T
  · exact ReadsMarks.of_touches (K := fun u => u.obeys ∧ u.judged) h.onlyTouches hT hcore
  by_cases hmoves : T = touchGuards ∨ T = touchMoves
  · exact hboth.moved.moving.effect h hmoves hcore
  by_cases hcycle : T ∈ cycleTouches
  · exact hboth.cycled.effect h hcycle hcore
  have hrest := not_or.mpr ⟨hT, not_or.mpr ⟨hmoves, hcycle⟩⟩
  cases h with
  | collided p i n e =>
    unfold collideFrame dropInProgress
    split
    · exact hcore
    · refine keeps_triple (P := State.channelsJudged) (fun _ => hcore) (fun _ => hboth.quiet.notice _ _ _)
        (fun _ => hboth.quiet.steady.takeEvent _) (fun u hu => ?_)
      exact ReadsMarks.of_touches (K := fun u => u.obeys ∧ u.judged)
        (touches_reportLeft (T := [.mgmt]) (by decide) (.refl _ u) p e) (by decide) hu
  | sample f => exact channelsJudged_takeSample f hcore
  | channelExpires i => exact channelsJudged_channelExpires i hcore
  | writeChannel i d hfree => exact channelsJudged_writeChannel hfree hcore
  | restartChannels which => exact channelsJudged_restartChannels which hcore
  | clearLatches => exact hboth s.channels _ ChannelUnit.marks_clearLatches rfl hcore
  | adopt => exact hboth.quiet.steady.adoptCandidate hcore
  | writeAxis a d => exact hboth.quiet.steady.writeAxis a d hcore
  | reset straps =>
    have hloaded := State.loaded_of_images (K := fun i => channelsObey i.channels.list) himages (by decide)
    exact ReadsMarks.of_touches (K := fun u => u.obeys ∧ u.judged)
      (touches_judgeStore (T := touchNotices) (by decide) (.refl _ (resetBlocks straps (cutShort s)))) (by decide)
      (channelsJudged_reset hloaded)
  | _ => exact absurd (by decide) hrest

theorem Effect.channelsSound {T : List Block} (h : Effect T s t) (hs : s.channelsSound = true) :
    t.channelsSound = true := by
  obtain ⟨hobeys, -, himages⟩ := channelsSound_iff.mp hs
  obtain ⟨hobeys', hjudged'⟩ := h.channelsJudged hs
  exact channelsSound_iff.mpr ⟨hobeys', hjudged', h.images himages hobeys⟩

/-- Settles O12: every effect keeps the limits of R28 and the indicator, and the limits in the images. -/
theorem stepsKeepOneRoleOneKey : Obligations.StepsKeepOneRoleOneKey := fun _ _ hs h =>
  step_keeps (P := fun s => s.channelsSound = true) (fun _ _ h => h) (fun _ _ _ h => h.channelsSound) hs h

end Sys2Proof.Machine
end

section
/-! PROOF. The guards through every step (O9): what one event leaves of the stack, and the effective action judged
at the end of it. -/

namespace Sys2Proof.Machine

variable {s t : State} {a : Arbiter} {n : Fin 12} {g : Guard}

/-! ### The table -/

theorem Table.get_set {α : Type} {m : Nat} (tb : Table α m) (i k : Fin m) (x : α) :
    (tb.set i x).get k = if k = i then x else tb.get k := by
  simp only [Table.get, Table.set, List.get_eq_getElem, List.getElem_set, Fin.ext_iff, eq_comm (a := i.val)]

theorem Table.forall_mem_list {α : Type} {m : Nat} {tb : Table α m} {p : α → Prop} :
    (∀ x ∈ tb.list, p x) ↔ ∀ k, p (tb.get k) := by
  refine ⟨fun h k => h _ (List.get_mem _ _), fun h x hx => ?_⟩
  obtain ⟨k, hk, rfl⟩ := List.mem_iff_getElem.mp hx
  exact h ⟨k, tb.size ▸ hk⟩

@[simp] theorem Arbiter.guard_withGuard (a : Arbiter) (n k : Fin 12) (g : Guard) :
    (a.withGuard n g).guard k = if k = n then g else a.guard k := Table.get_set _ _ _ _

theorem Fin12.mem_allSources (n : Fin 12) : n ∈ allSources := by revert n; decide

/-! ### The stack -/

theorem Arbiter.nested_iff {l : List (Fin 12)} : a.nested l = true ↔
    l.Pairwise (fun n k => (a.guard k).config.priority < (a.guard n).config.priority) := by
  induction l with
  | nil => exact iff_of_true rfl .nil
  | cons n l ih => simp [Arbiter.nested, List.pairwise_cons, ih]

/-- What the arbiter keeps: priorities in range, the floor, and a stack nested and made of the ACTING guards. -/
structure Arbiter.Sound (a : Arbiter) : Prop where
  priority : ∀ n, (a.guard n).config.priority ≤ 7
  floor : 1 ≤ a.floor ∧ a.floor ≤ 8
  nested : a.stack.Pairwise (fun n k => (a.guard k).config.priority < (a.guard n).config.priority)
  acting : ∀ n, n ∈ a.stack ↔ (a.guard n).state = .acting

/-- The effective action is the most severe one, or its judgement is put off (log 39). -/
def Arbiter.judged (a : Arbiter) : Prop := a.examineDue ≠ .no ∨ a.effective = a.severest

theorem prioritiesOk_iff {tb : Table GuardConfig 12} : prioritiesOk tb.list = true ↔ ∀ n, (tb.get n).priority ≤ 7 := by
  simp only [prioritiesOk, List.all_eq_true, decide_eq_true_eq]
  exact Table.forall_mem_list

theorem Table.get_map {α β : Type} {m : Nat} (tb : Table α m) (f : α → β) (k : Fin m) :
    (tb.map f).get k = f (tb.get k) := by
  simp [Table.get, Table.map]

theorem guardsSound_iff : s.guardsSound = true ↔ s.guards.Sound ∧ s.guards.judged ∧
    s.images.all (fun i => prioritiesOk i.guards.list) = true := by
  have hpriority : prioritiesOk (s.guards.table.list.map Guard.config) = true ↔
      ∀ n, (s.guards.guard n).config.priority ≤ 7 := by
    refine (prioritiesOk_iff (tb := s.guards.table.map Guard.config)).trans (forall_congr' fun n => ?_)
    rw [Table.get_map]
    rfl
  have hacting : (allSources.all fun n => s.guards.stack.contains n == decide ((s.guards.guard n).state = .acting)) = true
      ↔ ∀ n, n ∈ s.guards.stack ↔ (s.guards.guard n).state = .acting := by
    rw [List.all_eq_true]
    refine ⟨fun h n => ?_, fun h n _ => ?_⟩
    · have hn := h n (Fin12.mem_allSources n)
      rwa [beq_iff_eq, Bool.eq_iff_iff, List.contains_iff_mem, decide_eq_true_eq] at hn
    · rw [beq_iff_eq, Bool.eq_iff_iff, List.contains_iff_mem, decide_eq_true_eq]
      exact h n
  unfold State.guardsSound
  dsimp only
  simp only [Bool.and_eq_true, Bool.or_eq_true, decide_eq_true_eq, hpriority, hacting, Arbiter.nested_iff]
  exact ⟨fun ⟨⟨⟨⟨⟨⟨hp, hi⟩, h1⟩, h8⟩, hn⟩, ha⟩, hj⟩ => ⟨⟨hp, ⟨h1, h8⟩, hn, ha⟩, hj, hi⟩,
    fun ⟨⟨hp, ⟨h1, h8⟩, hn, ha⟩, hj, hi⟩ => ⟨⟨⟨⟨⟨⟨hp, hi⟩, h1⟩, h8⟩, hn⟩, ha⟩, hj⟩⟩

/-- Priorities 0 to 7 that fall strictly: at most eight guards. -/
theorem Arbiter.Sound.stack_length (h : a.Sound) : a.stack.length ≤ 8 := by
  have hnodup : (a.stack.map fun n => (a.guard n).config.priority).Nodup :=
    (List.pairwise_map.mpr h.nested).imp fun h => Nat.ne_of_gt h
  have hrange : (a.stack.map fun n => (a.guard n).config.priority) ⊆ List.range 8 := by
    intro p hp
    obtain ⟨n, -, rfl⟩ := List.mem_map.mp hp
    exact List.mem_range.mpr (Nat.lt_succ_of_le (h.priority n))
  have hlength := hnodup.length_le_of_subset hrange
  rwa [List.length_map, List.length_range] at hlength

/-! ### A guard changed -/

/-- A guard changed under the same priority, that stays ACTING if it was and becomes ACTING in no other way. -/
theorem Arbiter.Sound.withGuard (h : a.Sound) (hp : g.config.priority = (a.guard n).config.priority)
    (hs : g.state = .acting ↔ (a.guard n).state = .acting) : (a.withGuard n g).Sound := by
  have hpriority (k : Fin 12) : ((a.withGuard n g).guard k).config.priority = (a.guard k).config.priority := by
    rw [Arbiter.guard_withGuard]
    split
    · rename_i hk; rw [hk, hp]
    · rfl
  refine ⟨fun k => by rw [hpriority]; exact h.priority k, h.floor, ?_, fun k => (h.acting k).trans ?_⟩
  · simp only [hpriority]
    exact h.nested
  · rw [Arbiter.guard_withGuard]
    split
    · rename_i hk; rw [hk, hs]
    · rfl

theorem Guard.change_config (g : Guard) (now : Word32) (active : Bool) : (g.change now active).config = g.config := by
  unfold Guard.change Guard.levelRise Guard.levelFall Guard.edgeRise Guard.edgeFall
  repeat' split
  all_goals rfl

theorem Guard.change_acting (g : Guard) (now : Word32) (active : Bool) :
    (g.change now active).state = .acting ↔ g.state = .acting := by
  unfold Guard.change Guard.levelRise Guard.levelFall Guard.edgeRise Guard.edgeFall
  repeat' split
  all_goals simp_all

theorem Guard.event_config (g : Guard) (now : Word32) : (g.edgeRise now).edgeFall.config = g.config := by
  unfold Guard.edgeRise Guard.edgeFall
  repeat' split
  all_goals rfl

theorem Guard.event_acting (g : Guard) (now : Word32) :
    (g.edgeRise now).edgeFall.state = .acting ↔ g.state = .acting := by
  unfold Guard.edgeRise Guard.edgeFall
  repeat' split
  all_goals simp_all

/-- A guard taken off the stack, and given what priority in range (R154, R162). -/
theorem Arbiter.Sound.remove (h : a.Sound) (hp : g.config.priority ≤ 7) (hs : g.state ≠ .acting) :
    ({ a.withGuard n g with stack := a.stack.filter (fun k => decide (k ≠ n)) } : Arbiter).Sound := by
  have hguard (k : Fin 12) : ({ a.withGuard n g with stack := a.stack.filter (fun k => decide (k ≠ n)) } : Arbiter).guard k
      = if k = n then g else a.guard k := Arbiter.guard_withGuard a n k g
  refine ⟨fun k => ?_, h.floor, ?_, fun k => ?_⟩
  · rw [hguard]
    split
    · exact hp
    · exact h.priority k
  · refine (h.nested.filter _).imp_of_mem fun hj hk hjk => ?_
    have hj := of_decide_eq_true (List.mem_filter.mp hj).2
    have hk := of_decide_eq_true (List.mem_filter.mp hk).2
    rwa [hguard, hguard, if_neg hj, if_neg hk]
  · rw [hguard, List.mem_filter, decide_eq_true_eq, h.acting]
    split
    · rename_i hk
      exact iff_of_false (fun hc => hc.2 hk) hs
    · exact and_iff_left ‹_›

theorem Guard.released_not_acting (g : Guard) : g.released.state ≠ .acting := by
  unfold Guard.released
  split <;> exact fun h => nomatch h

/-! ### The examination and the judgement -/

theorem Arbiter.better_qualifies {l : List (Fin 12)} {b : Option (Fin 12)} (hb : ∀ k, b = some k → a.qualifies k = true)
    (h : l.foldl a.better b = some n) : a.qualifies n = true := by
  induction l generalizing b with
  | nil => exact hb n h
  | cons k l ih =>
    refine ih (fun j hj => ?_) h
    unfold Arbiter.better at hj
    split at hj
    · rename_i hq
      split at hj
      · obtain rfl := Option.some.inj hj; exact hq
      · split at hj <;> obtain rfl := Option.some.inj hj
        · exact hq
        · exact hb _ rfl
    · exact hb _ hj

theorem Arbiter.nextActing_qualifies (h : a.nextActing = some n) : a.qualifies n = true :=
  Arbiter.better_qualifies (b := none) (fun _ hk => nomatch hk) h

/-- The guard that the examination makes ACTING goes on top of the stack (R160). -/
theorem Arbiter.Sound.push (h : a.Sound) (hq : a.qualifies n = true) (now : Word32) :
    ({ a.withGuard n ((a.guard n).act now) with stack := a.stack ++ [n] } : Arbiter).Sound := by
  simp only [Arbiter.qualifies, Bool.and_eq_true, decide_eq_true_eq, List.all_eq_true] at hq
  obtain ⟨⟨⟨hpending, -⟩, -⟩, hbelow⟩ := hq
  have hguard (k : Fin 12) : (({ a.withGuard n ((a.guard n).act now) with stack := a.stack ++ [n] } : Arbiter).guard k)
      = if k = n then (a.guard n).act now else a.guard k := Arbiter.guard_withGuard a n k _
  have hpriority (k : Fin 12) : (({ a.withGuard n ((a.guard n).act now) with stack := a.stack ++ [n] } : Arbiter).guard
      k).config.priority = (a.guard k).config.priority := by
    rw [hguard]
    split
    · rename_i hk; rw [hk]; rfl
    · rfl
  refine ⟨fun k => by rw [hpriority]; exact h.priority k, h.floor, ?_, fun k => ?_⟩
  · simp only [hpriority]
    refine List.pairwise_append.mpr ⟨h.nested, List.pairwise_singleton _ _, fun j hj k hk => ?_⟩
    rw [List.mem_singleton.mp hk]
    exact hbelow j hj
  · rw [hguard, List.mem_append, List.mem_singleton, h.acting]
    split
    · rename_i hk
      exact iff_of_true (.inr hk) rfl
    · exact or_iff_left ‹_›

theorem guards_raiseNotice (kind : NoticeKind) (subject : Nat) (detail : Word16) (s : State) :
    (raiseNotice kind subject detail s).guards = s.guards :=
  (touches_raiseNotice (T := touchNotices) (List.Subset.refl _) (.refl _ s) _ _ _).guards (by decide)

theorem arbiterSound_examineGuards (hs : s.guards.Sound) : (examineGuards s).guards.Sound := by
  unfold examineGuards
  split
  · rename_i n hn
    unfold actGuard
    rw [guards_raiseNotice]
    exact hs.push (Arbiter.nextActing_qualifies hn) _
  · exact hs

/-- The arbiter is sound, and the effective action is judged. -/
abbrev State.guardsJudged (s : State) : Prop := s.guards.Sound ∧ s.guards.judged

/-- The judgement makes the effective action the most severe one (R161). -/
theorem guardsJudged_judgeAction (hs : s.guards.Sound) : (judgeAction s).guardsJudged := by
  unfold judgeAction
  dsimp only
  split
  · exact ⟨hs, .inr (Eq.symm ‹_›)⟩
  · have htouches : OnlyTouches touchCycle (s.withGuards { s.guards with effective := s.guards.severest })
        (interleave [[takeAction s.guards.severest], [publish]]
          (s.withGuards { s.guards with effective := s.guards.severest })) := by
      refine touches_interleave (by decide) (.refl _ _) ?_
      simp only [List.mem_cons, List.not_mem_nil, or_false, forall_eq_or_imp, forall_eq]
      exact ⟨fun _ h => touches_takeAction (List.Subset.refl _) h _, fun _ h => touches_publish (by decide) h⟩
    rw [State.guardsJudged, htouches.guards (by decide)]
    exact ⟨⟨hs.priority, hs.floor, hs.nested, hs.acting⟩, .inr rfl⟩

theorem guardsJudged_settleGuards (hs : s.guards.Sound) : (settleGuards s).guardsJudged :=
  guardsJudged_judgeAction (arbiterSound_examineGuards (s := endWait s) ⟨hs.priority, hs.floor, hs.nested, hs.acting⟩)

theorem guardsJudged_settleRaised {due : ExamineDue} (hdue : due ≠ .no) (n : Fin 12) (hs : s.guards.Sound) :
    (settleRaised due n s).guardsJudged := by
  rcases settleRaised_spec due n s with h | h | ⟨-, -, h⟩ <;> rw [h]
  · exact guardsJudged_settleGuards hs
  · exact guardsJudged_settleGuards (s := s.withOrder s.order.tail) hs
  · exact ⟨⟨hs.priority, hs.floor, hs.nested, hs.acting⟩, .inl hdue⟩

theorem guardsJudged_settleWaiting (hs : s.guardsJudged) : (settleWaiting s).guardsJudged := by
  unfold settleWaiting
  split
  · exact hs
  · exact guardsJudged_settleGuards hs.1

/-! ### The operations of the arbiter -/

theorem guardsJudged_setCondition (n : Fin 12) (active : Bool) (hs : s.guardsJudged) :
    (setCondition n active s).guardsJudged := by
  have hchanged : (updGuard n (fun g => g.change s.partTime active) s).guards.Sound :=
    hs.1.withGuard (by rw [Guard.change_config]) (Guard.change_acting _ _ _)
  unfold setCondition
  split
  · exact hs
  · split
    · exact guardsJudged_settleRaised (due := .raised) (by decide) n hchanged
    · exact guardsJudged_settleGuards hchanged

theorem arbiterSound_raiseEvent (n : Fin 12) (hs : s.guards.Sound) : (raiseEvent n s).guards.Sound :=
  hs.withGuard (by rw [Guard.event_config]) (Guard.event_acting _ _)

theorem guardsJudged_takeEvent (n : Fin 12) (hs : s.guardsJudged) : (takeEvent n s).guardsJudged :=
  guardsJudged_settleRaised (due := .raised) (by decide) n (arbiterSound_raiseEvent n hs.1)

theorem arbiterSound_removeGuard (n : Fin 12) (cause : Nat) (hs : s.guards.Sound) :
    (removeGuard n cause s).guards.Sound := by
  unfold removeGuard
  rw [guards_raiseNotice]
  exact hs.remove (hs.priority n) (Guard.released_not_acting _)

theorem guardsJudged_setSlipTimer (w : Rotor) (x : Option Timer) (hs : s.guardsJudged) :
    (setSlipTimer w x s).guardsJudged := by
  obtain ⟨⟨hp, hf, hn, ha⟩, hj⟩ := hs
  cases w <;> exact ⟨⟨hp, hf, hn, ha⟩, hj⟩

theorem guardsJudged_judgeSlip (w : Rotor) (hs : s.guardsJudged) : (judgeSlip w s).guardsJudged := by
  unfold judgeSlip
  split
  · split
    · exact hs
    · split
      · exact hs
      · exact guardsJudged_setSlipTimer w _ hs
  · exact guardsJudged_setCondition _ _ (guardsJudged_setSlipTimer w none hs)

theorem guardsJudged_takeKept (r : Role) (v : Option Word16) (hs : s.guardsJudged) : (takeKept r v s).guardsJudged := by
  have hkept : (s.withGuards { s.guards with kept := s.guards.kept.put r v }).guardsJudged := by
    obtain ⟨⟨hp, hf, hn, ha⟩, hj⟩ := hs
    exact ⟨⟨hp, hf, hn, ha⟩, hj⟩
  unfold takeKept judgeRole
  split
  · exact guardsJudged_setCondition _ _ hkept
  · exact guardsJudged_setCondition _ _ hkept
  · exact guardsJudged_setCondition _ _ hkept
  · exact guardsJudged_setCondition _ _ hkept
  · exact guardsJudged_judgeSlip _ hkept
  · exact guardsJudged_judgeSlip _ hkept
  · exact hkept

theorem Guard.configured_not_acting (g : Guard) (c : GuardConfig) : (g.configured c).state ≠ .acting := by
  unfold Guard.configured
  split <;> exact fun h => nomatch h

/-- A guard that is off the stack, set afresh under a new record (R154). -/
theorem Arbiter.Sound.configure (h : a.Sound) (hidle : (a.guard n).state ≠ .acting) (hp : g.config.priority ≤ 7)
    (hs : g.state ≠ .acting) : (a.withGuard n g).Sound := by
  have hout : n ∉ a.stack := fun hn => hidle ((h.acting n).mp hn)
  have hstack : a.stack.filter (fun k => decide (k ≠ n)) = a.stack :=
    List.filter_eq_self.mpr fun k hk => decide_eq_true fun hkn => hout (hkn ▸ hk)
  have hremoved := h.remove (n := n) hp hs
  rw [hstack] at hremoved
  exact hremoved

theorem guardsJudged_configureGuard {f : GuardFields} (n : Fin 12) (hf : guardFieldsBad n f = false)
    (hs : s.guardsJudged) : (configureGuard n f s).guardsJudged := by
  have hp : (guardOfFields f).priority ≤ 7 := by
    simp only [guardFieldsBad, Bool.or_eq_false_iff, decide_eq_false_iff_not, Nat.not_lt] at hf
    exact hf.1.1.1.1
  unfold configureGuard
  dsimp only
  refine guardsJudged_settleGuards ?_
  split
  · have hremoved := arbiterSound_removeGuard n 3 hs.1
    refine hremoved.configure (fun hn => ?_) hp (Guard.configured_not_acting _ _)
    have hmem := (hremoved.acting n).mpr hn
    unfold removeGuard at hmem
    rw [guards_raiseNotice] at hmem
    exact of_decide_eq_true (List.mem_filter.mp hmem).2 rfl
  · exact hs.1.configure ‹_› hp (Guard.configured_not_acting _ _)

theorem Table.get_imap {α β : Type} {m : Nat} (tb : Table α m) (f : Nat → α → β) (k : Fin m) :
    (tb.imap f).get k = f k.val (tb.get k) := by
  have hfrom (j : Nat) (l : List α) (i : Nat) : (Table.mapFrom f j l)[i]? = (l[i]?).map (f (j + i)) := by
    induction l generalizing j i with
    | nil => rfl
    | cons x xs ih =>
      cases i with
      | zero => rfl
      | succ i => rw [Table.mapFrom, List.getElem?_cons_succ, ih, List.getElem?_cons_succ, Nat.add_right_comm, Nat.add_assoc]
  refine Option.some.inj ?_
  have h := hfrom 0 tb.list k.val
  rw [List.getElem?_eq_getElem (by rw [Table.length_mapFrom, tb.size]; exact k.isLt),
    List.getElem?_eq_getElem (by rw [tb.size]; exact k.isLt), Nat.zero_add] at h
  exact h

theorem guardsJudged_writeMasks (mask : Word16) (hs : s.guardsJudged) : (writeMasks mask s).guardsJudged := by
  have hguard (k : Fin 12) : (s.guards.maskAll mask).guard k = (s.guards.guard k).mask (mask.getLsbD k.val) :=
    Table.get_imap _ _ _
  refine guardsJudged_settleGuards ⟨fun k => ?_, hs.1.floor, ?_, fun k => ?_⟩ <;>
    simp only [State.withGuards_guards, hguard]
  · exact hs.1.priority k
  · exact hs.1.nested
  · exact hs.1.acting k

theorem guardsJudged_of_touches {T : List Block} (h : OnlyTouches T s t) (hT : Block.guards ∉ T)
    (hs : s.guardsJudged) : t.guardsJudged := by
  rwa [State.guardsJudged, h.guards hT]

theorem guardsJudged_raiseNotice (kind : NoticeKind) (subject : Nat) (detail : Word16) (hs : s.guardsJudged) :
    (raiseNotice kind subject detail s).guardsJudged := by
  rwa [State.guardsJudged, guards_raiseNotice]

theorem guardsJudged_arbitrated : Arbitrated State.guardsJudged where
  clash _ {_} h := keeps_pair (P := State.guardsJudged) (fun _ => h) (fun _ => guardsJudged_raiseNotice _ _ _)
    (fun _ => guardsJudged_takeEvent _)
  settle h := guardsJudged_settleGuards h.1
  condition n active {_} := guardsJudged_setCondition n active
  slip w x {_} := guardsJudged_setSlipTimer w x
  release n cause {_} h := guardsJudged_settleGuards (arbiterSound_removeGuard n cause h.1)
  releaseNamed n {_} h := guardsJudged_settleRaised (due := .released) (by decide) n (arbiterSound_removeGuard n 0 h.1)
  configure n _ {_} hf := guardsJudged_configureGuard n hf
  masks mask {_} := guardsJudged_writeMasks mask
  floor _ {_} hfloor h := guardsJudged_settleGuards ⟨h.1.priority, hfloor, h.1.nested, h.1.acting⟩
  operator h := guardsJudged_settleGuards (arbiterSound_raiseEvent 11 h.1)

theorem guardsJudged_moving : Moving State.guardsJudged where
  toArbitrated := guardsJudged_arbitrated
  order h _ := h
  publish h := h
  notice kind subject detail {_} := guardsJudged_raiseNotice kind subject detail
  settled st {s} := guardsJudged_of_touches (touches_takeSettled (List.Subset.refl _) (.refl _ s) st) (by decide)
  exclusion st {s} := guardsJudged_of_touches (touches_takeExclusion (List.Subset.refl _) (.refl _ s) st) (by decide)
  moves _ {_} h := h
  goal st g {s} := guardsJudged_of_touches (touches_giveGoal (List.Subset.refl _) (.refl _ s) st g) (by decide)
  issue st {s} := guardsJudged_of_touches (touches_issueSet (List.Subset.refl _) (.refl _ s) st) (by decide)
  resend st {s} := guardsJudged_of_touches (touches_resendSet (List.Subset.refl _) (.refl _ s) st) (by decide)

/-- An adoption reaches the regulator, the picture unit and the notice unit, and not the arbiter (R63). -/
theorem touches_adoptCandidate_cycle (s : State) : OnlyTouches (.classifier :: touchCycle) s (adoptCandidate s) :=
  touches_handAdoption (by decide) (touches_withClassifier (by decide) (.refl _ s) _)

theorem touches_writeAxis_cycle (x : Axis) (d : AxisDef) (s : State) :
    OnlyTouches (.classifier :: touchCycle) s (writeAxis x d s) := by
  unfold writeAxis
  split
  · exact touches_changeAxis (by decide) (.refl _ s) _ _
  · have hwritten (c c' : Classifier) (b : Prop) [Decidable b] :
        OnlyTouches (.classifier :: touchCycle) s (if b then s.withClassifier c else handAdoption (s.withClassifier c')) := by
      split
      · exact touches_withClassifier (by decide) (.refl _ s) _
      · exact touches_handAdoption (by decide) (touches_withClassifier (by decide) (.refl _ s) _)
    unfold rewriteFrozenAxis
    dsimp only
    split
    · exact hwritten _ _ _
    · exact touches_withClassifier (by decide) (hwritten _ _ _) _

theorem guardsJudged_listening : Listening State.guardsJudged where
  order h _ := h
  notice kind subject detail {_} := guardsJudged_raiseNotice kind subject detail
  channels _ h := h
  judge {s} h := by
    unfold judgeLost
    split
    · exact h
    · exact guardsJudged_setCondition _ _ h
  value a v {s} := guardsJudged_of_touches (touches_takeAxisValue (T := [.classifier]) (by decide) (.refl _ s) a v) (by decide)
  freeze a {s} := guardsJudged_of_touches (touches_freezeAxis (List.Subset.refl _) (.refl _ s) a) (by decide)
  kept r v {_} := guardsJudged_takeKept r v
  examine := guardsJudged_settleWaiting
  adopt {s} := guardsJudged_of_touches (touches_adoptCandidate_cycle s) (by decide)
  axis a d {s} _ := guardsJudged_of_touches (touches_writeAxis_cycle a d s) (by decide)

/-! ### Every effect -/

/-- A trial kept reaches the map, and not the arbiter (R131). -/
theorem guards_keepTrial (x : Trial) (w : WindowResult) (s : State) : (keepTrial x w s).guards = s.guards := by
  have htouches : OnlyTouches (.map :: .keep :: touchCycle) s (keepTrial x w s) := by
    unfold keepTrial
    dsimp only
    have hkept := touches_withRegulator (T := .map :: .keep :: touchCycle) (by decide) (touches_raiseNotice (by decide)
      (touches_handKeep (by decide) (.refl _ s) ⟨x.bank, x.cell, x.setting, x.amount⟩) .trialKept x.cell x.detail)
      { (raiseNotice .trialKept x.cell x.detail (handKeep ⟨x.bank, x.cell, x.setting, x.amount⟩ s)).regulator with
        cursor := x.position + 1, trial := none, baseline := some w }
    split
    · exact touches_enterHold (by decide) hkept
    · exact touches_tryOrHold (by decide) hkept
  exact htouches.guards (by decide)

theorem guards_afterResult (w : WindowResult) (s : State) : (afterResult w s).guards = s.guards := by
  unfold afterResult judgeTrial
  split
  · exact (touches_decideMeasure (List.Subset.refl _) (.refl _ s) w).guards (by decide)
  · split
    · exact (touches_enterHold (T := touchCycle) (by decide) (.refl _ s)).guards (by decide)
    · split
      · exact guards_keepTrial _ _ _
      · exact (touches_revertTrial (List.Subset.refl _) (.refl _ s) _).guards (by decide)

theorem guardsJudged_windowBEnds (hs : s.guardsJudged) : (windowBEnds s).guardsJudged := by
  unfold windowBEnds
  refine keeps_interleave (P := State.guardsJudged) (fun _ => hs) fun c hc g hg t ht => ?_
  simp only [List.mem_cons, List.not_mem_nil, or_false] at hc
  rcases hc with rfl | rfl
  · obtain rfl := List.mem_singleton.mp hg
    exact ht
  · simp only [List.mem_cons, List.not_mem_nil, or_false] at hg
    rcases hg with rfl | rfl
    · rwa [State.guardsJudged, guards_afterResult]
    · unfold handLossAlarm
      split
      · exact guardsJudged_takeEvent _ ht
      · exact ht

theorem guardsJudged_reset {i : Image} (hi : prioritiesOk i.guards.list = true) :
    (resetGuards i).Sound ∧ (resetGuards i).judged := by
  have hguard (k : Fin 12) : (resetGuards i).guard k = resetGuard (i.guards.get k) := Table.get_map _ _ _
  refine ⟨⟨fun k => ?_, ⟨Nat.le_add_left 1 7, Nat.le_refl 8⟩, .nil, fun k => ?_⟩, .inr rfl⟩
  · rw [hguard]; exact prioritiesOk_iff.mp hi k
  · rw [hguard]; exact iff_of_false nofun nofun

theorem Effect.guardsJudged {T : List Block} (h : Effect T s t) (hs : s.guardsSound = true) : t.guardsJudged := by
  obtain ⟨hsound, hjudged, himages⟩ := guardsSound_iff.mp hs
  have hcore : s.guardsJudged := ⟨hsound, hjudged⟩
  by_cases hT : Block.guards ∉ T
  · exact guardsJudged_of_touches h.onlyTouches hT hcore
  by_cases hmoves : T = touchGuards ∨ T = touchMoves
  · exact guardsJudged_moving.effect h hmoves hcore
  by_cases hclass : T = touchClass
  · exact guardsJudged_listening.effect h hclass hcore
  have hrest := not_or.mpr ⟨hT, not_or.mpr ⟨hmoves, hclass⟩⟩
  cases h with
  | collided p i n e =>
    unfold collideFrame dropInProgress
    split
    · exact hcore
    · exact keeps_triple (P := State.guardsJudged) (fun _ => hcore) (fun _ => guardsJudged_raiseNotice _ _ _)
        (fun _ => guardsJudged_takeEvent _)
        (fun u => guardsJudged_of_touches (touches_reportLeft (T := [.mgmt]) (by decide) (.refl _ u) p e) (by decide))
  | windowB => exact guardsJudged_windowBEnds hcore
  | reset straps =>
    have hloaded := State.loaded_of_images (K := fun i => prioritiesOk i.guards.list) himages (by decide)
    exact guardsJudged_of_touches
      (touches_judgeStore (T := touchNotices) (by decide) (.refl _ (resetBlocks straps (cutShort s)))) (by decide)
      (guardsJudged_reset hloaded)
  | _ => exact absurd (by decide) hrest

theorem Effect.guardsSound {T : List Block} (h : Effect T s t) (hs : s.guardsSound = true) : t.guardsSound = true := by
  obtain ⟨hsound, -, himages⟩ := guardsSound_iff.mp hs
  obtain ⟨hsound', hjudged'⟩ := h.guardsJudged hs
  refine guardsSound_iff.mpr ⟨hsound', hjudged', h.images himages (prioritiesOk_iff.mpr fun n => ?_)⟩
  rw [State.snapshot, Table.get_map]
  exact hsound.priority n

/-- Settles O9: every effect keeps the guards sound; strictly falling priorities 0 to 7 are at most eight. -/
theorem stepsKeepTheGuardsNested : Obligations.StepsKeepTheGuardsNested :=
  ⟨fun _ _ hs h => step_keeps (P := fun s => s.guardsSound = true) (fun _ _ h => h) (fun _ _ _ h => h.guardsSound) hs h,
    fun _ hs => (guardsSound_iff.mp hs).1.stack_length⟩

end Sys2Proof.Machine
end

section
/-! PROOF. The targets and the substitute values inside the limits through every step (O11). -/

namespace Sys2Proof.Machine

variable {s t : State} {p q : Params} {b : Bank} {st o : Setting}

/-! ### A cell, a bank and the substitute set that fit -/

theorem inLimits_iff {v : Nat} : p.inLimits st v = true ↔ p.globalMin st ≤ v ∧ v ≤ p.globalMax st := by
  rw [Params.inLimits, Bool.and_eq_true, decide_eq_true_eq, decide_eq_true_eq]

theorem cellFits_iff {c : CellRecord} : cellFits p c = true ↔ ∀ st,
    p.inLimits st (c.targets.get st).toNat = true ∧ (c.trimOffset st).natAbs ≤ p.trimBound st := by
  simp only [cellFits, List.all_eq_true, Bool.and_eq_true, decide_eq_true_eq]
  exact ⟨fun h st => h st (Setting.mem_all st), fun h st _ => h st⟩

theorem substituteFits_iff {u : Substitute} : substituteFits p u = true ↔ ∀ st v, u.values.get st = some v →
    p.inLimits st v.toNat = true := by
  simp only [substituteFits, List.all_eq_true]
  refine ⟨fun h st v hv => ?_, fun h st _ => ?_⟩
  · have hst := h st (Setting.mem_all st)
    rwa [hv] at hst
  · split
    · exact h st _ ‹_›
    · rfl

/-- Both banks fit parameters. -/
def SettingMap.Fits (p : Params) (m : SettingMap) : Prop := ∀ k, bankFits p (m.bank k) = true

theorem SettingMap.fits_iff {m : SettingMap} : m.Fits p ↔ bankFits p m.bankA = true ∧ bankFits p m.bankB = true :=
  ⟨fun h => ⟨h .a, h .b⟩, fun h k => match k with
    | .a => h.1
    | .b => h.2⟩

theorem configFits_iff {u : Substitute} {m : SettingMap} :
    configFits p u m.bankA m.bankB = true ↔ substituteFits p u = true ∧ m.Fits p := by
  rw [configFits, Bool.and_eq_true, Bool.and_eq_true, and_assoc, SettingMap.fits_iff]

theorem SettingMap.Fits.withBank {m : SettingMap} {k : BankId} (h : m.Fits p) (hb : bankFits p b = true) :
    (m.withBank k b).Fits p := by
  rw [SettingMap.fits_iff] at h ⊢
  cases k with
  | a => exact ⟨hb, h.2⟩
  | b => exact ⟨h.1, hb⟩

theorem limitsSound_iff : s.limitsSound = true ↔
    substituteFits s.mgmt.params s.safe.substitute = true ∧ s.map.Fits s.mgmt.params ∧
    s.images.all (fun i => configFits i.params i.substitute i.bankA i.bankB) = true := by
  rw [State.limitsSound, Bool.and_eq_true, configFits_iff, and_assoc]

/-! ### Parameters that give the same limits -/

/-- Two parameter blocks with the same limits and trim bounds. -/
def SameLimits (p q : Params) : Prop := ∀ j, j < 25 → q.item j = p.item j

theorem settingNum_lt (st : Setting) : st.num < 5 := by cases st <;> decide

theorem SameLimits.inLimits (h : SameLimits p q) (st : Setting) (v : Nat) : q.inLimits st v = p.inLimits st v := by
  have := settingNum_lt st
  unfold Params.inLimits Params.globalMin Params.globalMax
  rw [h _ (by omega), h _ (by omega)]

theorem SameLimits.trimBound (h : SameLimits p q) (st : Setting) : q.trimBound st = p.trimBound st :=
  h _ (by have := settingNum_lt st; omega)

theorem SameLimits.cellFits (h : SameLimits p q) (c : CellRecord) : cellFits q c = cellFits p c := by
  unfold Machine.cellFits
  simp only [h.inLimits, h.trimBound]

theorem SameLimits.fits {m : SettingMap} (h : SameLimits p q) (hm : m.Fits p) : m.Fits q := by
  intro k
  have hk := hm k
  unfold bankFits at hk ⊢
  simpa only [h.cellFits] using hk

theorem SameLimits.substituteFits {u : Substitute} (h : SameLimits p q) (hu : substituteFits p u = true) :
    substituteFits q u = true := by
  rw [substituteFits_iff] at hu ⊢
  intro st v hv
  rw [h.inLimits]
  exact hu st v hv

theorem sameLimits_tune (a b c : Word16) : SameLimits p (p.tune a b c) :=
  fun j hj => Params.item_tune ⟨by omega, by omega, by omega⟩

/-! ### A keep -/

theorem natAbs_clampInt_le (bound : Nat) (x : Int) : (clampInt (-(bound : Int)) bound x).natAbs ≤ bound := by
  unfold clampInt
  split
  · simp
  · split
    · simp
    · omega

/-- A number within a bound stays within it as a 16-bit word. -/
theorem natAbs_toInt_ofInt_le {x : Int} {bound : Nat} (h : x.natAbs ≤ bound) :
    ((BitVec.ofInt 16 x).toInt).natAbs ≤ bound := by
  rw [BitVec.toInt_ofInt]
  have hle := Int.bmod_le (x := x) (m := 2 ^ 16) (by decide)
  have hge := Int.le_bmod (x := x) (m := 2 ^ 16) (by decide)
  by_cases hx : x.natAbs < 2 ^ 15
  · rw [Int.bmod_eq_of_le (by omega) (by omega)]
    exact h
  · omega

theorem cellFits_keep {c : CellRecord} (amount : Int) (h : cellFits p c = true) :
    cellFits p (c.keep (p.trimBound st) st amount) = true := by
  rw [cellFits_iff] at h ⊢
  intro o
  refine ⟨(h o).1, ?_⟩
  have hold : ((((c.trim.getD emptyTrim).offsets.get o).toInt).natAbs) ≤ p.trimBound o := by
    have ho := (h o).2
    unfold CellRecord.trimOffset at ho
    cases hc : c.trim with
    | some x => rw [hc] at ho; exact ho
    | none =>
      have hzero : (emptyTrim.offsets.get o).toInt = 0 := by cases o <;> rfl
      rw [Option.getD_none, hzero]
      exact Nat.zero_le _
  change ((((c.trim.getD emptyTrim).add (p.trimBound st) st amount).offsets.get o).toInt).natAbs ≤ _
  rw [Trim.add, PerSetting.get_set]
  split
  · rename_i hst
    rw [hst]
    exact natAbs_toInt_ofInt_le (natAbs_clampInt_le _ _)
  · exact hold

theorem Bank.mem_cells_of_cell {n : Nat} {c : CellRecord} (h : b.cell n = some c) : some c ∈ b.cells.list := by
  unfold Bank.cell Table.get? at h
  split at h
  · rw [Option.getD_some] at h
    exact h ▸ List.get_mem _ _
  · cases h

theorem bankFits_keep (n : Nat) (st : Setting) (amount : Int) (h : bankFits p b = true) :
    bankFits p (b.keep (p.trimBound st) n st amount) = true := by
  unfold Bank.keep
  split
  · exact h
  · rename_i c hc
    rw [bankFits_iff] at h ⊢
    intro o ho
    rcases Table.mem_put ho with ho | rfl
    · exact h o ho
    · exact cellFits_keep amount (h _ (Bank.mem_cells_of_cell hc))

/-! ### The banks through the cycle -/

/-- The banks fit the parameters. -/
abbrev State.banksFit (s : State) : Prop := s.map.Fits s.mgmt.params

theorem banksFit_of_eq (hm : t.map = s.map) (hp : t.mgmt.params = s.mgmt.params) (hs : s.banksFit) : t.banksFit := by
  rwa [State.banksFit, hm, hp]

theorem banksFit_of_touches {T : List Block} (h : OnlyTouches T s t) (hT : Block.map ∉ T ∧ Block.mgmt ∉ T)
    (hs : s.banksFit) : t.banksFit :=
  banksFit_of_eq (h.map hT.1) (by rw [h.mgmt hT.2]) hs

theorem banksFit_takeKeep (k : BankId) (n : Nat) (st : Setting) (amount : Int) (hs : s.banksFit) :
    (takeKeep k n st amount s).banksFit := SettingMap.Fits.withBank hs (bankFits_keep n st amount (hs k))

theorem banksFit_takeWaitingKeep (hs : s.banksFit) : (takeWaitingKeep s).banksFit := by
  unfold takeWaitingKeep
  split
  · exact hs
  · exact banksFit_takeKeep _ _ _ _ (s := s.withKeep none) hs

theorem banksFit_handKeep (k : Keep) (hs : s.banksFit) : (handKeep k s).banksFit := by
  unfold handKeep
  dsimp only
  split
  · exact banksFit_takeKeep _ _ _ _ (banksFit_takeWaitingKeep (s := s.withOrder s.order.tail) hs)
  · exact banksFit_takeWaitingKeep (s := s.withOrder s.order.tail) hs

theorem banksFit_cycled : Cycled State.banksFit where
  touches h := banksFit_of_touches h (by decide)
  regulator _ {_} _ h := h
  result _ {_} h := h
  openGate h := h
  closeGate h := h
  safeOut _ {_} h := h
  publish h := h
  notice _ _ _ {s} := banksFit_of_touches (touches_raiseNotice (List.Subset.refl _) (.refl _ s) _ _ _) (by decide)
  goal _ _ {s} := banksFit_of_touches (touches_giveGoal (List.Subset.refl _) (.refl _ s) _ _) (by decide)
  keep k {_} := banksFit_handKeep k
  lossAlarm {s} := banksFit_of_touches (touches_takeEvent (List.Subset.refl _) (.refl _ s) 5) (by decide)
  discard {s} := banksFit_of_touches (touches_discardDeferred (List.Subset.refl _) (.refl _ s)) (by decide)
  letGo {s} := banksFit_of_touches (touches_moveOwnerLoss (List.Subset.refl _) (.refl _ s)) (by decide)
  orphaned h := h
  duty _ {_} h := h

/-- The banks after an effect fit the parameters before it. -/
theorem Effect.keepsBanks {T : List Block} (h : Effect T s t) (hT : T ≠ touchReset) (hs : s.banksFit) :
    t.map.Fits s.mgmt.params := by
  by_cases hmap : Block.map ∉ T
  · rw [h.onlyTouches.map hmap]; exact hs
  cases h with
  | bank k f hf => exact SettingMap.Fits.withBank hs (hf _ (hs k))
  | copyBank => exact SettingMap.Fits.withBank hs (hs s.map.active)
  | activate => exact SettingMap.fits_iff.mpr (SettingMap.fits_iff.mp hs)
  | keepTaken =>
    have hp := (touches_takeWaitingKeep (List.Subset.refl _) (.refl _ s)).mgmt (by decide)
    rw [← hp]
    exact banksFit_takeWaitingKeep hs
  | windowB =>
    have hp := (touches_windowBEnds (List.Subset.refl _) (.refl _ s)).mgmt (by decide)
    rw [← hp]
    exact banksFit_cycled.windowBEnds hs
  | reset => exact absurd rfl hT
  | _ => exact absurd (by decide) hmap

/-! ### The substitute set -/

theorem substituteFits_writeSubstitute {mask : Byte} {values : PerSetting Word16}
    (h : substituteBad p mask values = false) :
    substituteFits p ⟨PerSetting.tabulate (givenValue mask values), true⟩ = true := by
  simp only [substituteBad, Bool.or_eq_false_iff, List.any_eq_false] at h
  rw [substituteFits_iff]
  intro st v hv
  rw [PerSetting.get_tabulate] at hv
  have hst := h.2 st (Setting.mem_all st)
  unfold givenOutside at hst
  rw [hv] at hst
  simpa using hst

theorem Effect.keepsSubstitute {T : List Block} (h : Effect T s t) (hT : T ≠ touchReset)
    (hs : substituteFits s.mgmt.params s.safe.substitute = true) :
    substituteFits s.mgmt.params t.safe.substitute = true := by
  by_cases hsafe : Block.safe ∉ T
  · rw [h.onlyTouches.safe hsafe]; exact hs
  cases h with
  | substitute mask values hok => exact substituteFits_writeSubstitute hok
  | startBeat => exact hs
  | stopBeat => exact hs
  | loadBeat => exact hs
  | loseOwner => rw [(loseOwner_after s).2]; exact hs
  | start => rw [(startRegulating_after s).2]; exact hs
  | stop => rw [(stopRegulating_after s).2]; exact hs
  | tick =>
    have htick : s.safe.tick.substitute = s.safe.substitute := by
      unfold SafeBlock.tick
      split <;> rfl
    exact htick ▸ hs
  | reset => exact absurd rfl hT
  | _ => exact absurd (by decide) hsafe

/-! ### PARAM CLOSE -/

theorem brokenLimit_eq_none {v : Nat} : brokenLimit p st v = none ↔ p.inLimits st v = true := by
  rw [inLimits_iff]
  unfold brokenLimit
  split
  · exact iff_of_false nofun (by omega)
  · split
    · exact iff_of_false nofun (by omega)
    · exact iff_of_true rfl (by omega)

theorem firstInBank_eq_none {item : CellRecord → Setting → Option Nat} {cause : Nat} {k : BankId}
    (h : firstInBank item cause k b = none) {c : CellRecord} (hc : some c ∈ b.cells.list) (st : Setting) :
    item c st = none := by
  have hentry : ∃ j, (j, some c) ∈ b.cells.entries := by
    unfold Table.entries
    have hfrom (k : Nat) (l : List (Option CellRecord)) (hl : some c ∈ l) :
        ∃ j, (j, some c) ∈ Table.mapFrom (fun k a => (k, a)) k l := by
      induction l generalizing k with
      | nil => cases hl
      | cons a as ih =>
        rcases List.mem_cons.mp hl with rfl | hl
        · exact ⟨k, List.mem_cons_self⟩
        · obtain ⟨j, hj⟩ := ih (k + 1) hl
          exact ⟨j, List.mem_cons_of_mem _ hj⟩
    exact hfrom 0 _ hc
  obtain ⟨j, hj⟩ := hentry
  have hcell := List.findSome?_eq_none_iff.mp h (j, some c) hj
  have hst := List.findSome?_eq_none_iff.mp hcell st (Setting.mem_all st)
  exact Option.map_eq_none_iff.mp hst

theorem firstInBanks_eq_none {item : CellRecord → Setting → Option Nat} {cause : Nat} {m : SettingMap}
    (h : firstInBanks item cause m = none) {k : BankId} {c : CellRecord} (hc : some c ∈ (m.bank k).cells.list)
    (st : Setting) : item c st = none := by
  obtain ⟨ha, hb⟩ := Option.or_eq_none_iff.mp h
  cases k with
  | a => exact firstInBank_eq_none ha hc st
  | b => exact firstInBank_eq_none hb hc st

/-- A parameter block that breaks no cross-item constraint fits what stands in the banks and the substitute set (R186). -/
theorem fits_of_no_conflict {u : Substitute} {m : SettingMap} (h : paramConflict p u m = none) :
    substituteFits p u = true ∧ m.Fits p := by
  obtain ⟨hfront, hback⟩ := Option.or_eq_none_iff.mp h
  obtain ⟨hfront, htarget⟩ := Option.or_eq_none_iff.mp hfront
  obtain ⟨-, hsubstitute⟩ := Option.or_eq_none_iff.mp hfront
  obtain ⟨-, htrim⟩ := Option.or_eq_none_iff.mp hback
  refine ⟨substituteFits_iff.mpr fun st v hv => ?_, fun k => bankFits_iff.mpr fun x hx => ?_⟩
  · have hst := List.findSome?_eq_none_iff.mp hsubstitute st (Setting.mem_all st)
    rw [hv] at hst
    exact brokenLimit_eq_none.mp (Option.map_eq_none_iff.mp hst)
  · cases x with
    | none => rfl
    | some c =>
      refine cellFits_iff.mpr fun st => ⟨brokenLimit_eq_none.mp (firstInBanks_eq_none htarget hx st), ?_⟩
      have hst := firstInBanks_eq_none htrim hx st
      split at hst
      · cases hst
      · exact Nat.le_of_not_lt ‹_›

/-! ### Every effect -/

theorem configFits_default : configFits defaultImage.params defaultImage.substitute defaultImage.bankA
    defaultImage.bankB = true := by decide

/-- What a reset loads fits (R202). -/
theorem limits_reset {i : Image} (straps : BitVec 3) (u : State) (hu : u.store.loaded = i)
    (hi : configFits i.params i.substitute i.bankA i.bankB = true) :
    substituteFits (judgeStore (resetBlocks straps u)).mgmt.params (judgeStore (resetBlocks straps u)).safe.substitute
      = true ∧ (judgeStore (resetBlocks straps u)).banksFit := by
  have h := touches_judgeStore (T := touchNotices) (by decide) (.refl _ (resetBlocks straps u))
  rw [State.banksFit, h.mgmt (by decide), h.safe (by decide), h.map (by decide)]
  subst hu
  exact configFits_iff (m := resetMap u.store.loaded).mp hi

theorem Effect.limits {T : List Block} (h : Effect T s t) (hs : s.limitsSound = true) :
    substituteFits t.mgmt.params t.safe.substitute = true ∧ t.banksFit := by
  obtain ⟨hsubstitute, hbanks, himages⟩ := limitsSound_iff.mp hs
  have hreset (straps : BitVec 3) := limits_reset straps (cutShort s) rfl (State.loaded_of_images
    (K := fun i => configFits i.params i.substitute i.bankA i.bankB) himages configFits_default)
  by_cases hT : T = touchReset
  · cases h with
    | reset straps => exact hreset straps
    | _ => exact absurd hT (by decide)
  have hsame (hp : t.mgmt.params = s.mgmt.params) : substituteFits t.mgmt.params t.safe.substitute = true ∧ t.banksFit := by
    rw [State.banksFit, hp]
    exact ⟨h.keepsSubstitute hT hsubstitute, h.keepsBanks hT hbanks⟩
  cases h.configStep with
  | same hp => exact hsame hp
  | tuned a b c => exact ⟨(sameLimits_tune a b c).substituteFits hsubstitute, (sameLimits_tune a b c).fits hbanks⟩
  | closed hfree => exact fits_of_no_conflict hfree
  | saving => exact hsame rfl
  | saved => exact hsame rfl
  | reset straps => exact hreset straps
  | driven => exact hsame (by rw [State.withPins_mgmt, cutShort_mgmt])

theorem Effect.limitsSound {T : List Block} (h : Effect T s t) (hs : s.limitsSound = true) : t.limitsSound = true := by
  obtain ⟨hsubstitute, hbanks, himages⟩ := limitsSound_iff.mp hs
  obtain ⟨hsubstitute', hbanks'⟩ := h.limits hs
  exact limitsSound_iff.mpr ⟨hsubstitute', hbanks', h.images himages (configFits_iff.mpr ⟨hsubstitute, hbanks⟩)⟩

/-- Settles O11: every effect keeps the banks and the substitute set inside the limits, and the images. -/
theorem stepsKeepTheTargetsInsideTheLimits : Obligations.StepsKeepTheTargetsInsideTheLimits := fun _ _ hs h =>
  step_keeps (P := fun s => s.limitsSound = true) (fun _ _ h => h) (fun _ _ _ h => h.limitsSound) hs h

end Sys2Proof.Machine
end

section
/-! PROOF. The empty queue (O3), RESET driven active (O4), the invariants at reset (O5), and the heartbeat's requests
(O48). -/

namespace Sys2Proof.Machine

variable {s t : State} {r : Sender} {c : Instr}

/-! ### The empty queue -/

theorem idle_of_keep {k : Keep} (hworks : s.works) (hk : s.keep = some k) : idle s = takeWaitingKeep s := by
  simp [idle, hworks, hk]

theorem idle_of_unsettled (hworks : s.works) (hk : s.keep = none) (h : ¬ s.settled) : idle s = settleGuards s := by
  simp [idle, hworks, hk, h]

theorem idle_of_quiet (hworks : s.works) (hk : s.keep = none) (h : s.settled) (hnone : s.agendaChains.flatten = []) :
    idle s = tick s := by
  simp [idle, hworks, hk, h, hnone]

theorem idle_of_due (hworks : s.works) (hk : s.keep = none) (h : s.settled) (hsome : s.agendaChains.flatten ≠ []) :
    idle s = takeUp s.agenda.1 s.agenda.2 s := by
  simp [idle, hworks, hk, h, hsome]

/-- The agenda holds each due command once (log 4). -/
theorem agenda_perm (s : State) : s.agenda.1.Perm s.agendaChains.flatten :=
  mergeChains_perm _ _ _ (Nat.le_refl _)

theorem touches_takeUp (l : List Instr) (choices : List Nat) (s : State) :
    OnlyTouches [.mgmt, .order, .pending] s (takeUp l choices s) :=
  touches_withPending (by decide) (touches_withOrder (by decide) (touches_withMgmt (by decide) (.refl _ s) _) _) _

/-- Settles O3: the four branches of the idle step. -/
theorem anEmptyQueueTakesUpWhatIsDue : Obligations.AnEmptyQueueTakesUpWhatIsDue := by
  intro s hpending hworks
  have hstep : step s = .next (idle s) := by rw [step, hpending]
  refine ⟨fun k hk => ?_, fun hk h => ?_, fun hk h hnone => ?_, fun hk h hsome => ?_⟩
  · rw [hstep, idle_of_keep hworks hk, takeWaitingKeep, hk]
    rfl
  · rw [hstep, idle_of_unsettled hworks hk h]
  · rw [hstep, idle_of_quiet hworks hk h hnone, tick, SafeBlock.tick]
    split <;> rfl
  · exact ⟨_, by rw [hstep, idle_of_due hworks hk h hsome], agenda_perm s, rfl, touches_takeUp _ _ s⟩

/-! ### RESET driven active -/

/-- Every command but POWER_ON_RESET has its effect while the part works, and none otherwise (R204; log 16). -/
theorem exec_of_inReset (h : s.pins.inReset = true) (hc : ∀ x, c ≠ .powerOnReset x) : exec c s = .next s := by
  cases c with
  | powerOnReset x => exact absurd rfl (hc x)
  | frameEnd | txSuccess | txCollision | replyHandover | answerTimerExpiry | saveWriteEnd | axisWrite | planWrite | beat
  | resetDrivenActive =>
    simp only [exec, execFrameEnd, execTxSuccess, execTxCollision, execReplyHandover, execAnswerTimerExpiry,
      execSaveWriteEnd, execAxisWrite, execPlanWrite, execBeat, execResetDrivenActive, live_of_inReset h]
  | _ => exact live_of_inReset h

theorem cutShort_store (s : State) : (cutShort s).store =
    if s.mgmt.saving.isSome then { s.store with content := .torn } else s.store := by
  unfold cutShort
  cases s.mgmt.saving <;> rfl

theorem exec_resetDrivenActive (h : s.works) : exec .resetDrivenActive s =
    .next ((cutShort s).withPins { (cutShort s).pins with inReset := true, safeOut := false }) := by
  unfold exec execResetDrivenActive
  exact live_of_works h

/-- Settles O4: only POWER_ON_RESET acts while RESET is driven active; driving it active cuts a store write short. -/
theorem resetDrivenActiveStopsThePart : Obligations.ResetDrivenActiveStopsThePart := by
  refine ⟨fun c s h hc => exec_of_inReset h hc, fun s hworks => ⟨_, exec_resetDrivenActive hworks, ?_, ?_, ?_, ?_, ?_⟩⟩
  · rw [State.withPins_pins, (touches_cutShort (T := [.mgmt, .store]) (by decide) (.refl _ s)).pins (by decide)]
  · rw [State.withPins_mgmt, cutShort_mgmt]
  · rw [State.withPins_store, cutShort_store]
  · rw [State.withPins_store, cutShort_store]
    cases s.mgmt.saving <;> rfl
  · exact touches_withPins (by decide) (touches_cutShort (by decide) (.refl _ s)) _

/-! ### Requests that pass their tests -/

/-- An admitted request that its own body refuses (R181 test 5). -/
theorem exec_refuses {code : Nat} {mode : RequestMode} {column : PartState → Bool} {body : State → State}
    {result : Result} (hexec : exec c s = live (serve c r code mode column body) s) (h : s.admits r mode column)
    (hbody : body (s.taken c) = answer r code result [] (s.taken c)) : s.refuses c r code result := by
  rw [State.refuses, hexec, live_serve_of_admits h, hbody]

theorem taken_safe : (s.taken c).safe = s.safe :=
  (touches_takeRequest (List.Subset.refl _) (.refl _ s) c).safe (by decide)

theorem taken_regulator (h : s.settled) : (s.taken c).regulator = s.regulator := by rw [taken_eq h]; rfl

theorem taken_params : (s.taken c).mgmt.params = s.mgmt.params := by rw [taken_mgmt]

/-! ### The heartbeat's requests -/

theorem highBitsClear_iff (k : Nat) (mask : Byte) : highBitsClear k mask = true ↔ mask.toNat < 2 ^ k := decide_eq_true_iff

theorem substituteBad_iff {p : Params} {mask : Byte} {v : PerSetting Word16} : substituteBad p mask v = true ↔
    32 ≤ mask.toNat ∨ ∃ st : Setting, mask.getLsbD st.num = true ∧ p.inLimits st (v.get st).toNat = false := by
  rw [substituteBad, Bool.or_eq_true, List.any_eq_true, Bool.not_eq_true', ← Bool.not_eq_true, highBitsClear_iff, Nat.not_lt]
  refine or_congr_right ⟨fun ⟨st, _, h⟩ => ⟨st, ?_⟩, fun ⟨st, hm, h⟩ => ⟨st, Setting.mem_all st, ?_⟩⟩
  · unfold givenOutside givenValue at h
    by_cases hm : mask.getLsbD st.num = true
    · rw [if_pos hm] at h
      exact ⟨hm, by simpa using h⟩
    · rw [if_neg hm] at h
      cases h
  · unfold givenOutside givenValue
    rw [if_pos hm]
    exact (Bool.not_eq_true' _).mpr h

theorem exec_substituteWrite {mask : Byte} {v : PerSetting Word16} (h : s.admits r .modifying anyState) :
    exec (.substituteWrite r mask v) s =
      .next (bodySubstituteWrite r mask v (s.taken (.substituteWrite r mask v))) := live_serve_of_admits h

theorem exec_beat (h : s.works) : exec (.beat r) s = .next (judgeRequest r 33 .noClaim anyState
    (refuseOr r 33 none takeBeat) (s.taken (.beat r))) := by
  unfold exec execBeat
  exact live_of_works h

/-- BEAT is taken from the owner only (R176). -/
theorem exec_beat_of_owner (h : s.works) (ho : s.mgmt.owner = some r.station) :
    exec (.beat r) s = .next (answer r 33 .done [] (takeBeat (s.taken (.beat r)))) := by
  rw [exec_beat h, judgeRequest, ownerTest_taken_of_passes (.inr ho)]
  rfl

theorem exec_beat_of_not_owner (h : s.works) (ho : s.mgmt.owner ≠ some r.station) :
    exec (.beat r) s = .next (answer r 33 .notOwner [] (s.taken (.beat r))) := by
  have htest : ownerTest .noClaim r (s.taken (.beat r)) = none := by
    unfold ownerTest
    rw [taken_mgmt]
    cases howner : s.mgmt.owner with
    | none => rfl
    | some o => exact if_neg fun heq => ho (by rw [howner, heq])
  rw [exec_beat h, judgeRequest, htest]

/-- Settles O48: each of the four requests, taken apart by its tests. -/
theorem theHeartbeatIsLoadedByTheOwner : Obligations.TheHeartbeatIsLoadedByTheOwner := by
  refine ⟨fun r mask v s h => ⟨fun hsafe => ?_, fun hsafe hbad => ?_⟩, fun r mask v s h hsafe hmask hin => ?_, fun r s h => ?_,
    fun r s h => ?_, fun r s h => ⟨fun ho hrun => ?_, fun ho hstopped => ?_, exec_beat_of_not_owner h⟩⟩
  · rw [State.refuses, exec_substituteWrite h, bodySubstituteWrite, taken_regulator h.settled, if_pos hsafe]
    rfl
  · rw [State.refuses, exec_substituteWrite h, bodySubstituteWrite, taken_regulator h.settled, if_neg hsafe, taken_params,
      substituteBad_iff.mpr hbad]
    rfl
  · have hgood : substituteBad s.mgmt.params mask v = false := by
      rw [← Bool.not_eq_true, substituteBad_iff]
      rintro (hbig | ⟨st, hm, hout⟩)
      · omega
      · rw [hin st hm] at hout; cases hout
    dsimp only
    rw [exec_substituteWrite h, bodySubstituteWrite, taken_regulator h.settled, if_neg hsafe, taken_params, hgood,
      badWhen_false, refuseOr_none, writeSubstitute, taken_safe]
    rfl
  · rw [show exec (.beatEnable r) s = _ from live_serve_of_admits h, refuseOr_none, startBeat, loadBeat, taken_params,
      taken_safe]
    rfl
  · rw [show exec (.beatDisable r) s = _ from live_serve_of_admits h, refuseOr_none, stopBeat, taken_safe]
  · rw [exec_beat_of_owner h ho, takeBeat, taken_safe, if_pos hrun, loadBeat, taken_safe, taken_params]
    rfl
  · rw [exec_beat_of_owner h ho, takeBeat, taken_safe, if_neg (by rw [hstopped]; nofun)]

/-! ### The invariants at reset -/

/-- Settles O5: the state after reset is one state. -/
theorem theInvariantsHoldAtReset : Obligations.TheInvariantsHoldAtReset := by
  refine ⟨?_, ?_, ?_, ?_, ?_, ?_, ?_, ?_, ?_, ?_⟩ <;> decide

end Sys2Proof.Machine
end

section
/-! PROOF. Frames: read back as sent (O17), a station clash (O19), forwarding and filtering (O20), frames to the own
station (O21). -/

namespace Sys2Proof.Machine

variable {s t : State} {p : Port} {f : Frame} {bytes : List Byte}

/-- Settles O17: a frame made with legal numbers is a good one. -/
theorem framesReadBackAsSent : Obligations.FramesReadBackAsSent := by
  intro dest source kind tag payload hdest hsource hlength hkind
  exact receiveChecks_eq_some.mpr ⟨rfl, ⟨hlength, Frame.check_make .., Nat.lt_succ_of_le hdest, hsource, hkind⟩, rfl⟩

/-! ### A good frame heard -/

/-- A good frame is counted, and then handled (R7, R8). -/
theorem exec_frameEnd_of_hears (h : s.hears p bytes f) : exec (.frameEnd p bytes false) s =
    .next (takeGoodFrame p f (s.withPort p { s.port p with good := satInc16 (s.port p).good })) := by
  obtain ⟨hworks, hidle, hgood⟩ := h
  rw [exec_frameEnd p bytes false hworks hidle, receiveFrame, hgood]
  rfl

/-- A frame of another station is learned from, and then handled by its destination (R9 to R12). -/
theorem exec_frameEnd_of_other (h : s.hears p bytes f) (hsource : f.source ≠ s.ownStation) :
    exec (.frameEnd p bytes false) s = .next (routeFrame p f (s.heard p f)) :=
  (exec_frameEnd_of_hears h).trans (congrArg Host.Outcome.next (if_neg hsource))

/-- Settles O19: the first branch of a good frame. -/
theorem aStationClashIsReported : Obligations.AStationClashIsReported := by
  refine ⟨rfl, fun p bytes s f h hsource => ?_⟩
  exact (exec_frameEnd_of_hears h).trans (congrArg Host.Outcome.next (if_pos hsource))

/-! ### The entry a sample matches -/

theorem mem_allEntries (i : Fin 24) : i ∈ allEntries := by revert i; decide

/-- An entry that a sample may match (R30). -/
def Channel.matches (c : Channel) (source : Byte) (sub : BitVec 2) : Prop :=
  c.defn.enabled = true ∧ c.defn.station = source ∧ c.defn.sub = sub

theorem matchSample_eq_some {source : Byte} {sub : BitVec 2} {i : Fin 24} (h : s.matchSample source sub = some i) :
    (s.channel i).matches source sub := by
  have hfound := List.find?_some (p := fun i => (s.channel i).defn.enabled &&
    decide ((s.channel i).defn.station = source) && decide ((s.channel i).defn.sub = sub)) h
  simp only [Bool.and_eq_true, decide_eq_true_eq, and_assoc] at hfound
  exact hfound

theorem matchSample_eq_none {source : Byte} {sub : BitVec 2} (h : s.matchSample source sub = none) (i : Fin 24) :
    ¬ (s.channel i).matches source sub := by
  have hnot := List.find?_eq_none.mp h i (mem_allEntries i)
  simpa [Channel.matches, and_assoc] using hnot

/-- Of a list in which at most one element passes a test, two that pass are one. -/
theorem eq_of_countP_le_one {α : Type} {l : List α} {q : α → Bool} (h : l.countP q ≤ 1) {i j : Nat} (hi : i < l.length)
    (hj : j < l.length) (hqi : q l[i] = true) (hqj : q l[j] = true) : i = j := by
  have hle {i j : Nat} (hij : i < j) (hj : j < l.length) (hqi : q (l[i]'(Nat.lt_trans hij hj)) = true) (hqj : q l[j] = true) :
      2 ≤ l.countP q := by
    have hfront : 1 ≤ (l.take j).countP q :=
      List.countP_pos_iff.mpr ⟨l[i]'(Nat.lt_trans hij hj), List.mem_take_iff_getElem.mpr ⟨i, by omega, rfl⟩, hqi⟩
    have hback : 1 ≤ (l.drop j).countP q :=
      List.countP_pos_iff.mpr ⟨l[j], List.mem_drop_iff_getElem.mpr ⟨0, by omega, rfl⟩, hqj⟩
    have happend := List.countP_append (p := q) (l₁ := l.take j) (l₂ := l.drop j)
    rw [List.take_append_drop] at happend
    omega
  rcases Nat.lt_trichotomy i j with hij | hij | hij
  · have := hle hij hj hqi hqj; omega
  · exact hij
  · have := hle hij hi hqj hqi; omega

/-- A table that obeys R28 has one entry for a sample's station and sub-channel. -/
theorem matches_unique (hs : s.channels.obeys) {source : Byte} {sub : BitVec 2} {i j : Fin 24}
    (hi : (s.channel i).matches source sub) (hj : (s.channel j).matches source sub) : i = j := by
  have hlen (k : Fin 24) : k.val < (s.channels.entries.list.map Channel.defn).length := by
    rw [List.length_map, s.channels.entries.size]; exact k.isLt
  have hget (k : Fin 24) : (s.channels.entries.list.map Channel.defn)[k.val]'(hlen k) = (s.channel k).defn :=
    List.getElem_map _
  obtain ⟨hon, hstation, hsub⟩ := hi
  obtain ⟨hon', hstation', hsub'⟩ := hj
  have hmem : (s.channel i).defn ∈ s.channels.entries.list.map Channel.defn := hget i ▸ List.getElem_mem _
  have hone := (channelsObey_iff.mp hs _ hmem hon).1
  refine Fin.ext (eq_of_countP_le_one hone (hlen i) (hlen j) ?_ ?_)
  · rw [hget]; simp [hon]
  · rw [hget]; simp [hon', hstation, hstation', hsub, hsub']

/-- In a table that obeys R28, the entry does not mirror exactly when one that matches does not (R11). -/
theorem mirrorOff_iff (hs : s.channels.obeys) {b lo hi : Byte} (hf : f.payload = [b, lo, hi]) :
    s.mirrorOff f = true ↔ ∃ i, (s.channel i).defn.enabled = true ∧ (s.channel i).defn.station = f.source ∧
      (s.channel i).defn.sub = b.setWidth 2 ∧ (s.channel i).defn.mirror = false := by
  have hsub : f.payload.headD 0#8 = b := by rw [hf]; rfl
  unfold State.mirrorOff
  rw [hsub]
  split
  · rename_i i hi
    have hmatch := matchSample_eq_some hi
    rw [Bool.not_eq_true']
    refine ⟨fun h => ⟨i, hmatch.1, hmatch.2.1, hmatch.2.2, h⟩, fun ⟨j, hon, hstation, hsub, h⟩ => ?_⟩
    rw [matches_unique hs hmatch ⟨hon, hstation, hsub⟩, h]
  · rename_i hnone
    exact iff_of_false nofun fun ⟨j, hon, hstation, hsub, _⟩ => matchSample_eq_none hnone j ⟨hon, hstation, hsub⟩

/-! ### The destination -/

theorem PerPort.set_get {α : Type} (x : PerPort α) (p : Port) : x.set p (x.get p) = x := by cases p <;> rfl

theorem heard_port (q : Port) : (s.heard p f).port q =
    if q = p then { s.port p with good := satInc16 (s.port p).good } else s.port q := PerPort.get_set _ _ _ _

theorem otherPort_ne (p : Port) : p.other ≠ p := by cases p <;> decide

theorem sideOf_heard (h : f.source.toNat ≤ 62) : (s.heard p f).sideOf f.source = Side.ofPort p := by
  have hlt : f.source.toNat < 63 := Nat.lt_succ_of_le h
  unfold State.sideOf State.heard learnSide
  rw [State.withLink_link, Table.put, dif_pos hlt, Table.get?, dif_pos hlt, Table.get_set, if_pos rfl]
  rfl

/-- A frame joins the forwarding queue, or is dropped there (R17). -/
theorem joinForward_eq (q : PortState) (f : Frame) : q.joinForward f = q.forwarded f := by
  have hcount : q.forwardCount = (q.queue.filter (fun e => decide (e.cls = .forward))).length := by
    unfold PortState.forwardCount
    congr 1
    refine List.filter_congr fun e _ => ?_
    unfold Entry.isPart
    cases e.cls <;> rfl
  rw [PortState.joinForward, PortState.forwarded, hcount]
  rfl

theorem forwardFrame_eq (p : Port) (f : Frame) (s : State) :
    forwardFrame p f s = s.withPort p.other ((s.port p.other).forwarded f) := by
  rw [← joinForward_eq]
  rfl

/-- The part's own station number is 48 to 55 (R1). -/
theorem station63_ne_ownStation (s : State) : 63#8 ≠ s.ownStation := by
  unfold State.ownStation
  generalize s.pins.straps = straps
  revert straps
  decide

theorem routeBroadcast_eq (p : Port) (f : Frame) (s : State) : routeBroadcast p f s =
    if f.kind ≠ .sample then forwardFrame p f s
    else if s.mirrorOff f then interleave [[updPort p PortState.countFiltered], [takeSample f]] s
    else interleave [[forwardFrame p f], [takeSample f]] s := by
  unfold routeBroadcast
  cases f.kind <;> rfl

/-- Settles O20: the side table after the source is learned decides; a SAMPLE to every station is taken too. -/
theorem framesAreForwardedOrFiltered : Obligations.FramesAreForwardedOrFiltered := by
  refine ⟨fun s f b lo hi hs hf => mirrorOff_iff (channelsSound_iff.mp hs).1 hf,
    fun p bytes s f h hsource hdest hstation => ?_, fun p bytes s f h hsource hdest => ?_⟩
  · obtain ⟨-, hgood, hbytes⟩ := receiveChecks_eq_some.mp h.2.2
    have hnotAll : f.dest ≠ 63#8 := fun heq => by rw [heq] at hstation; exact absurd hstation (by decide)
    have hroute : routeFrame p f (s.heard p f) = routeOther p f (s.heard p f) := by
      rw [routeFrame, if_neg (show f.dest ≠ (s.heard p f).ownStation from hdest), if_neg hnotAll]
    have hother : (s.heard p f).port p.other = s.port p.other := by rw [heard_port, if_neg (otherPort_ne p)]
    rw [exec_frameEnd_of_other h hsource, hroute, routeOther]
    refine ⟨sideOf_heard hgood.source, hbytes.symm, fun hside => ?_, fun hside => ?_⟩
    · rw [if_pos hside, heard_port, if_pos rfl]
      change Host.Outcome.next ((s.heard p f).withPort p ((s.heard p f).port p).countFiltered) = _
      rw [heard_port, if_pos rfl]
      rfl
    · rw [if_neg hside, forwardFrame_eq, hother]
  · have hother : (s.heard p f).port p.other = s.port p.other := by rw [heard_port, if_neg (otherPort_ne p)]
    have hroute : routeFrame p f (s.heard p f) = routeBroadcast p f (s.heard p f) := by
      rw [routeFrame, if_neg (hdest ▸ station63_ne_ownStation _), if_pos hdest]
    have hforward : forwardFrame p f = updPort p.other (fun q => q.forwarded f) :=
      funext fun u => congrArg (fun k => updPort p.other k u) (funext fun q => joinForward_eq q f)
    rw [exec_frameEnd_of_other h hsource, hroute, routeBroadcast_eq, forwardFrame_eq, hother, hforward]
    rfl

/-! ### Frames to the own station -/

/-- A REQUEST carries a code (R5). -/
theorem Frame.Good.request_payload (h : f.Good) (hkind : f.kind = .request) : ∃ code fields, f.payload = code :: fields := by
  have hlength := h.kind
  rw [hkind] at hlength
  cases hp : f.payload with
  | nil => rw [hp] at hlength; cases hlength
  | cons code fields => exact ⟨code, fields, rfl⟩

theorem handRequest_eq (h : f.Good) (hkind : f.kind = .request) : handRequest p f s =
    if (s.port p).hasReply then s
    else s.withMgmt { s.mgmt with
      inbox := s.mgmt.inbox ++ [decodeRequest ⟨f.source, f.tag⟩ (f.payload.headD 0#8) f.payload.tail] } := by
  obtain ⟨code, fields, hpayload⟩ := h.request_payload hkind
  rw [handRequest, hpayload]
  rfl

/-- Settles O21: the kinds one by one; only a REQUEST looks at the queue of its port. -/
theorem framesToTheOwnStationAreHandedOn : Obligations.FramesToTheOwnStationAreHandedOn := by
  intro p bytes s f h hsource hdest
  obtain ⟨-, hgood, -⟩ := receiveChecks_eq_some.mp h.2.2
  have hroute : routeFrame p f (s.heard p f) = consumeFrame p f (s.heard p f) := if_pos hdest
  have hreply : ((s.heard p f).port p).hasReply =
      (s.port p).queue.any (fun e => decide (e.cls = .part) && decide (e.frame.kind = .reply)) := by
    rw [heard_port, if_pos rfl]
    rfl
  rw [exec_frameEnd_of_other h hsource, hroute, consumeFrame]
  cases hkind : f.kind with
  | request =>
    dsimp only
    rw [handRequest_eq hgood hkind, hreply]
    rfl
  | _ => rfl

end Sys2Proof.Machine
end

section
/-! PROOF. The transmitters: the choice of a frame (O22), collisions (O23), a part frame that joins (O24), and the
handing over of replies (O25). -/

namespace Sys2Proof.Machine

variable {s t : State} {p : Port} {f : Frame} {q : PortState} {i n : Nat} {e : Entry}

theorem EntryClass.forward_of_not_part (h : e.isPart = false) : e.cls = .forward := by
  unfold Entry.isPart at h
  cases hc : e.cls with
  | part => rw [hc] at h; cases h
  | forward => rfl

/-! ### The choice -/

/-- The frame an idle transmitter chooses: the oldest PART frame, or the oldest of a queue of FORWARD frames (R20). -/
theorem choice_spec (h : q.queue ≠ []) : ∃ i e, q.choice = some i ∧ q.queue[i]? = some e ∧
    (∀ j d, j < i → q.queue[j]? = some d → d.cls = .forward) ∧
    (e.cls = .part ∨ i = 0 ∧ ∀ d ∈ q.queue, d.cls = .forward) := by
  unfold PortState.choice
  cases hfind : q.queue.findIdx? Entry.isPart with
  | some i =>
    obtain ⟨hi, hpart, hbefore⟩ := List.findIdx?_eq_some_iff_getElem.mp hfind
    refine ⟨i, q.queue[i], rfl, List.getElem?_eq_getElem hi, fun j d hj hd => ?_, .inl (of_decide_eq_true hpart)⟩
    obtain ⟨hjlen, rfl⟩ := List.getElem?_eq_some_iff.mp hd
    exact EntryClass.forward_of_not_part (Bool.eq_false_iff.mpr (hbefore j hj))
  | none =>
    have hall (d : Entry) (hd : d ∈ q.queue) : d.cls = .forward :=
      EntryClass.forward_of_not_part (List.findIdx?_eq_none_iff.mp hfind d hd)
    cases hq : q.queue with
    | nil => exact absurd hq h
    | cons d ds =>
      refine ⟨0, d, rfl, rfl, fun j _ hj => absurd hj (Nat.not_lt_zero j), .inr ⟨rfl, ?_⟩⟩
      rw [← hq]
      exact hall

theorem exec_txChoose (hworks : s.works) (hn : 12 ≤ n) : exec (.txChoose p n) s = .next (updPort p PortState.choose s) :=
  (live_of_works hworks).trans (congrArg Host.Outcome.next (if_pos hn))

theorem exec_txSuccess (hworks : s.works) (htx : (s.port p).tx = .active .sending i n)
    (he : (s.port p).queue[i]? = some e) : exec (.txSuccess p) s = .next (sentFrame p i e s) := by
  have harm : exec (.txSuccess p) s = execTxSuccess p s := rfl
  rw [harm, execTxSuccess, live_of_works hworks, htx]
  dsimp only
  rw [he]

/-! ### A REPLY that has left -/

/-- The port's outstanding reply is gone, and a RESTART's reset is due (R22, R24). -/
theorem reportLeft_mgmt (hpart : e.cls = .part) (hreply : e.frame.kind = .reply) :
    (reportLeft p e s).mgmt.outstanding.get p = none ∧
    (s.mgmt.outstanding.get p = some .restart → (reportLeft p e s).mgmt.restartDue = true) := by
  have hgone (x : PerPort (Option ReplyOrigin)) : (x.set p none).get p = none := by
    rw [PerPort.get_set, if_pos rfl]
  unfold reportLeft replyLeft
  rw [if_pos ⟨decide_eq_true hpart, hreply⟩]
  dsimp only
  split
  · rename_i hpicture
    refine ⟨?_, fun h => nomatch hpicture.symm.trans h⟩
    unfold nextPicturePart
    split
    · exact hgone _
    · split <;> exact hgone _
  · exact ⟨hgone _, fun _ => rfl⟩
  · rename_i hno
    exact ⟨hgone _, fun h => absurd h hno⟩

theorem reportLeft_of_not_reply (h : e.cls = .forward ∨ e.frame.kind ≠ .reply) : reportLeft p e s = s := by
  unfold reportLeft
  refine if_neg fun ⟨hpart, hreply⟩ => ?_
  rcases h with h | h
  · exact nomatch (of_decide_eq_true hpart).symm.trans h
  · exact h hreply

theorem sentFrame_of_none (h : e.held = none) : sentFrame p i e s =
    reportLeft p e (s.withPort p { s.port p with queue := (s.port p).queue.eraseIdx i, tx := .idle }) := by
  rw [sentFrame, h]
  rfl

/-- Settles O22: the choice, and what a success leaves of the queue, of the transmitter and of the reply. -/
theorem theOldestPartFrameIsSentFirst : Obligations.TheOldestPartFrameIsSentFirst := by
  refine ⟨fun p n s hworks hn htx hqueue => ?_, fun p s i n e hworks htx he => ⟨fun g hg => ?_, fun hnone => ?_⟩⟩
  · obtain ⟨i, e, hchoice, he, hbefore, hkind⟩ := choice_spec hqueue
    refine ⟨i, e, he, hbefore, hkind, (exec_txChoose hworks hn).trans ?_⟩
    have hchoose : (s.port p).choose = { s.port p with tx := .active .sending i 0 } := by
      rw [PortState.choose, htx, hchoice]
    exact congrArg (fun x => Host.Outcome.next (s.withPort p x)) hchoose
  · rw [exec_txSuccess hworks htx he, sentFrame, hg]
    rfl
  · have hleft := touches_reportLeft (T := [.mgmt]) (by decide) (.refl _ (s.withPort p
      { s.port p with queue := (s.port p).queue.eraseIdx i, tx := .idle })) p e
    refine ⟨_, (exec_txSuccess hworks htx he).trans (congrArg Host.Outcome.next (sentFrame_of_none hnone)),
      hleft.link (by decide), ?_, fun h => ?_, fun hpart hreply => reportLeft_mgmt hpart hreply⟩
    · exact touches_reportLeft (by decide) (touches_withLink (by decide) (.refl _ s) _) p e
    · rw [reportLeft_of_not_reply h]
      rfl

/-! ### Collisions -/

theorem exec_txCollision (hworks : s.works) (htx : (s.port p).tx = .active .sending i n)
    (he : (s.port p).queue[i]? = some e) : exec (.txCollision p) s = .next (collideFrame p i e n s) := by
  have harm : exec (.txCollision p) s = execTxCollision p s := rfl
  rw [harm, execTxCollision, live_of_works hworks, htx]
  dsimp only
  rw [he]

theorem collideFrame_of_lt (h : n + 1 < 8) :
    collideFrame p i e n s = s.withPort p ((s.port p).backOff i e (n + 1)) := if_pos h

theorem collideFrame_of_eighth (h : 8 ≤ n + 1) : collideFrame p i e n s = dropInProgress p i e s :=
  if_neg (Nat.not_lt.mpr h)

/-- The backoff is the strap value plus 1, in ms: the own station number is 48 plus the straps (R1). -/
theorem backoffMs_eq (s : State) : s.backoffMs = 1 + s.pins.straps.toNat := by
  unfold State.backoffMs State.ownStation
  generalize s.pins.straps = straps
  revert straps
  decide

/-- Settles O23: the two branches of a collision, and the end of the wait. -/
theorem theEighthCollisionDropsTheFrame : Obligations.TheEighthCollisionDropsTheFrame := by
  refine ⟨fun p s i n e hworks htx he => ⟨fun hn hnone => ?_, fun g hn hg => ?_, fun hn => ?_⟩,
    fun p s i n ms hworks htx hms => ?_⟩
  · rw [exec_txCollision hworks htx he, collideFrame_of_lt hn, PortState.backOff, hnone]
  · rw [exec_txCollision hworks htx he, collideFrame_of_lt hn, PortState.backOff, hg]
    rfl
  · rw [exec_txCollision hworks htx he, collideFrame_of_eighth hn]
    refine congrArg (fun x => Host.Outcome.next (interleave _ (s.withPort p x))) ?_
    unfold PortState.dropFrame
    cases e.held <;> rfl
  · have hresend : (s.port p).resend = { s.port p with tx := .active .sending i n } := by
      rw [PortState.resend, htx]
    refine (live_of_works hworks).trans (congrArg Host.Outcome.next ((if_pos (by rw [backoffMs_eq]; exact hms)).trans ?_))
    exact congrArg (fun x => s.withPort p x) hresend

/-! ### A part frame that joins -/

theorem replaces_eq_true (new old : Frame) : replaces new old = true ↔
    (new.kind = .set ∧ old.kind = .set ∧ new.payload.head? = old.payload.head?) ∨
    (new.kind = .identAsk ∧ old.kind = .identAsk) ∨ (new.kind = .attention ∧ old.kind = .attention) := by
  unfold replaces
  split
  · rename_i hn ho
    simp [hn, ho]
  · rename_i hn ho
    simp [hn, ho]
  · rename_i hn ho
    simp [hn, ho]
  · rename_i hset hask hattention
    refine iff_of_false nofun ?_
    rintro (⟨hn, ho, -⟩ | ⟨hn, ho⟩ | ⟨hn, ho⟩)
    · exact hset hn ho
    · exact hask hn ho
    · exact hattention hn ho

theorem joinPart_of_new (h : ∀ e ∈ q.queue, e.cls = .part → replaces f e.frame = false) :
    q.joinPart f = { q with queue := q.queue ++ [⟨.part, f, none⟩] } := by
  have hnone : q.replaced f = none := by
    refine List.findIdx?_eq_none_iff.mpr fun e he => ?_
    cases hp : e.isPart with
    | false => rfl
    | true => rw [Bool.true_and]; exact h e he (of_decide_eq_true hp)
  rw [PortState.joinPart, hnone]

theorem joinPart_of_replaced (he : q.queue[i]? = some e) (hpart : e.cls = .part) (hr : replaces f e.frame = true)
    (hfirst : ∀ j d, j < i → q.queue[j]? = some d → ¬ (d.cls = .part ∧ replaces f d.frame = true)) :
    q.joinPart f = (match q.tx with
      | .active .sending j n =>
        if j = i then { q with queue := q.queue.set i ⟨.part, e.frame, some f⟩ }
        else { q with queue := q.queue.set i ⟨.part, f, none⟩, tx := .active .sending j n }
      | .active .backoff j n =>
        { q with queue := q.queue.set i ⟨.part, f, none⟩, tx := .active .backoff j (if j = i then 0 else n) }
      | .idle => { q with queue := q.queue.set i ⟨.part, f, none⟩ }) := by
  obtain ⟨hi, rfl⟩ := List.getElem?_eq_some_iff.mp he
  have hreplaced : q.replaced f = some i := by
    refine List.findIdx?_eq_some_iff_getElem.mpr ⟨hi, ?_, fun j hj => ?_⟩
    · rw [Bool.and_eq_true]
      exact ⟨decide_eq_true hpart, hr⟩
    · rw [Bool.and_eq_true]
      rintro ⟨hp, hrj⟩
      exact hfirst j _ hj (List.getElem?_eq_getElem (by omega)) ⟨of_decide_eq_true hp, hrj⟩
  have hmodify : q.queue.modify i (fun e => { e with held := some f }) =
      q.queue.set i ⟨.part, q.queue[i].frame, some f⟩ := by
    rw [modify_eq_set_of_getElem? he, ← hpart]
  rw [PortState.joinPart, hreplaced]
  dsimp only
  cases htx : q.tx with
  | idle => rfl
  | active phase j n =>
    cases phase with
    | sending =>
      dsimp only
      rw [hmodify]
      by_cases hij : i = j
      · rw [if_pos hij, if_pos hij.symm]
      · rw [if_neg hij, if_neg fun h => hij h.symm]
    | backoff =>
      dsimp only
      rw [ite_cond_congr (propext (eq_comm (a := i) (b := j)))]

/-- Settles O24: the port of a part frame, its place in the queue, and when one replaces another. -/
theorem aPartFrameReplacesItsSort : Obligations.APartFrameReplacesItsSort := by
  refine ⟨fun f s => ?_, fun f q => ⟨joinPart_of_new, fun i e he hpart hr hfirst => joinPart_of_replaced he hpart hr hfirst⟩,
    replaces_eq_true⟩
  have hport : s.portFor f.dest = if s.sideOf f.dest = .s then .s else .m := by
    unfold State.portFor
    cases s.sideOf f.dest <;> rfl
  rw [queuePart, hport]
  rfl

/-! ### Replies -/

theorem hasReply_iff : q.hasReply = true ↔ ∃ e ∈ q.queue, e.cls = .part ∧ e.frame.kind = .reply := by
  simp only [PortState.hasReply, List.any_eq_true, Bool.and_eq_true, Entry.isPart, decide_eq_true_eq]

/-- A REPLY replaces no frame. -/
theorem joinPart_reply (r : Reply) (own : Byte) :
    q.joinPart (r.frame own) = { q with queue := q.queue ++ [⟨.part, r.frame own, none⟩] } :=
  joinPart_of_new fun _ _ _ => rfl

/-- The reply that a handover takes, and what it leaves (R19). -/
theorem handOver_of_waiting {r : Reply} (hsettled : s.settled) (hfree : (s.port p).hasReply = false)
    (hr : takeWaiting s p = some r) (hport : s.portFor r.asker.station = p) : handOver p s =
      (s.withPort p { s.port p with queue := (s.port p).queue ++ [⟨.part, r.frame s.ownStation, none⟩] }).withMgmt
        { s.mgmt with
          waiting := s.mgmt.waiting.erase r
          outstanding := s.mgmt.outstanding.set p (some r.origin) } := by
  have hdest : (r.frame s.ownStation).dest = r.asker.station := rfl
  rw [handOver, hfree, decide_eq_false (Classical.not_not.mpr hsettled), hr]
  dsimp only
  rw [Bool.or_false, if_neg Bool.false_ne_true, queuePart]
  subst hport
  exact congrArg (fun x => (s.withPort _ x).withMgmt _) (joinPart_reply r s.ownStation)

theorem handOver_of_reply (h : (s.port p).hasReply = true) : handOver p s = s := by
  rw [handOver, h]
  rfl

theorem exec_replyHandover (hworks : s.works) : exec (.replyHandover p) s = .next (handOver p (settleWaiting s)) := by
  unfold exec execReplyHandover
  exact live_of_works hworks

theorem find?_append_last {α : Type} {test : α → Bool} {l : List α} {x : α} (hl : ∀ b ∈ l, test b = false)
    (hx : test x = true) : (l ++ [x]).find? test = some x := by
  rw [List.find?_append, List.find?_eq_none.mpr fun b hb => by rw [hl b hb]; nofun, List.find?_cons_of_pos hx]
  rfl

/-- The single-frame reply to a request, as it becomes ready (R6). -/
def plainReply (r : Sender) (code : Nat) (result : Result) (fields : List Byte) : Reply :=
  ⟨r, byteOf code, result, 0, false, fields, .plain⟩

/-- A reply put behind the replies that wait. -/
def State.withWaiting (s : State) (r : Reply) : State := s.withMgmt { s.mgmt with waiting := s.mgmt.waiting ++ [r] }

theorem answer_eq (r : Sender) (code : Nat) (result : Result) (fields : List Byte) (s : State) :
    answer r code result fields s = handOver (s.portFor r.station) (s.withWaiting (plainReply r code result fields)) := rfl

/-- A reply that becomes ready while its port is free goes into the queue at once (R19; log 8). -/
theorem answer_of_free {r : Sender} {code : Nat} {result : Result} {fields : List Byte} (hsettled : s.settled)
    (hfree : (s.port (s.portFor r.station)).hasReply = false)
    (hothers : ∀ b ∈ s.mgmt.waiting, s.portFor b.asker.station ≠ s.portFor r.station) :
    answer r code result fields s =
      (s.withPort (s.portFor r.station) { s.port (s.portFor r.station) with
        queue := (s.port (s.portFor r.station)).queue ++ [⟨.part, Frame.make r.station s.ownStation .reply r.tag
          ([BitVec.ofNat 8 code, BitVec.ofNat 8 result.code, 0#8] ++ fields), none⟩] }).withMgmt
        { s.mgmt with outstanding := s.mgmt.outstanding.set (s.portFor r.station) (some .plain) } := by
  have hnew : plainReply r code result fields ∉ s.mgmt.waiting := fun h => hothers _ h rfl
  have hfind : takeWaiting (s.withWaiting (plainReply r code result fields)) (s.portFor r.station) =
      some (plainReply r code result fields) :=
    find?_append_last (fun b hb => decide_eq_false (hothers b hb)) (decide_eq_true rfl)
  have herase : (s.withWaiting (plainReply r code result fields)).mgmt.waiting.erase (plainReply r code result fields) =
      s.mgmt.waiting := by
    rw [State.withWaiting, State.withMgmt_mgmt, List.erase_append_right _ hnew, List.erase_cons_head, List.append_nil]
  rw [answer_eq, handOver_of_waiting (s := s.withWaiting _) hsettled hfree hfind rfl, herase]
  rfl

/-- Settles O25: a handover while an examination is put off, the oldest reply of a port, and a reply that becomes ready. -/
theorem repliesAreQueuedInTurn : Obligations.RepliesAreQueuedInTurn := by
  refine ⟨fun p s hworks hunsettled => ⟨?_, settleGuards_settled s, fun r code result fields => ?_⟩,
    fun p s before after r hworks hsettled hfree hwaiting hbefore hport => ?_, fun r code result fields s => ⟨?_, ?_⟩⟩
  · rw [exec_replyHandover hworks, settleWaiting, if_neg hunsettled]
  · exact handOver_of_examineDue (s := s.withWaiting (plainReply r code result fields)) hunsettled _
  · have hfind : takeWaiting s p = some r := by
      rw [takeWaiting, hwaiting, List.find?_append, List.find?_eq_none.mpr fun b hb => by simpa using (hbefore b hb).2]
      simp [hport]
    have herase : s.mgmt.waiting.erase r = before ++ after := by
      rw [hwaiting, List.erase_append_right _ fun hr => (hbefore r hr).1 rfl, List.erase_cons_head]
    have hnoReply : (s.port p).hasReply = false := by
      rw [← Bool.not_eq_true, hasReply_iff]
      exact fun ⟨e, he, hreply⟩ => hfree e he hreply
    rw [exec_replyHandover hworks, settleWaiting_of_settled hsettled, handOver_of_waiting hsettled hnoReply hfind hport,
      herase]
    rfl
  · exact fun h => handOver_of_reply (s := s.withWaiting (plainReply r code result fields)) (hasReply_iff.mpr h)
  · intro hsettled hfree hothers
    have hnoReply : (s.port (s.portFor r.station)).hasReply = false := by
      rw [← Bool.not_eq_true, hasReply_iff]
      exact fun ⟨e, he, hreply⟩ => hfree e he hreply
    exact answer_of_free hsettled hnoReply hothers

end Sys2Proof.Machine
end

section
/-! PROOF. Requests read back as spelled (O18): the words of a payload, the codes in groups by the number of bytes they
need, and every request sent and read. -/

namespace Sys2Proof.Machine

variable {r : Sender} {code n : Nat} {fields bytes rest extra : List Byte}

/-! ### Words -/

/-- Words can be taken as long as there are two bytes for each. -/
theorem takeWords_isSome (n : Nat) (bytes : List Byte) : (takeWords n bytes).isSome = decide (2 * n ≤ bytes.length) := by
  induction n generalizing bytes with
  | zero => rfl
  | succ n ih =>
    rcases bytes with _ | ⟨lo, _ | ⟨hi, bytes⟩⟩
    · rfl
    · exact (decide_eq_false (by rw [List.length_singleton]; omega)).symm
    · rw [takeWords, Option.isSome_map, ih]
      exact decide_eq_decide.mpr (by rw [List.length_cons, List.length_cons]; omega)

theorem length_of_takeWords {words : List Word16} (h : takeWords n bytes = some words) : words.length = n := by
  induction n generalizing bytes words with
  | zero => obtain rfl := Option.some.inj h; rfl
  | succ n ih =>
    rcases bytes with _ | ⟨lo, _ | ⟨hi, bytes⟩⟩
    · cases h
    · cases h
    · obtain ⟨ws, hws, rfl⟩ := Option.map_eq_some_iff.mp h
      rw [List.length_cons, ih hws]

/-- Words taken make a record, as many as it has fields. -/
theorem takeFigures_isSome (bytes : List Byte) : (takeFigures bytes).isSome = decide (10 ≤ bytes.length) := by
  have hwords := takeWords_isSome 5 bytes
  unfold takeFigures
  cases h : takeWords 5 bytes with
  | none => rw [h] at hwords; exact hwords
  | some words =>
    rw [h] at hwords
    have hlength := length_of_takeWords h
    match words, hlength with
    | [_, _, _, _, _], _ => exact hwords

theorem takeSideTrims_isSome (bytes : List Byte) : (takeSideTrims bytes).isSome = decide (20 ≤ bytes.length) := by
  have hwords := takeWords_isSome 10 bytes
  unfold takeSideTrims
  cases h : takeWords 10 bytes with
  | none => rw [h] at hwords; exact hwords
  | some words =>
    rw [h] at hwords
    have hlength := length_of_takeWords h
    match words, hlength with
    | [_, _, _, _, _, _, _, _, _, _], _ => exact hwords

theorem takeCellFields_isSome (bytes : List Byte) : (takeCellFields bytes).isSome = decide (15 ≤ bytes.length) := by
  have hfigures := takeFigures_isSome bytes
  have hdrop : (bytes.drop 10).length = bytes.length - 10 := List.length_drop
  unfold takeCellFields
  cases h : takeFigures bytes with
  | none =>
    rw [h] at hfigures
    have hshort : ¬ 10 ≤ bytes.length := of_decide_eq_false hfigures.symm
    exact (decide_eq_false (by omega)).symm
  | some t =>
    rw [h] at hfigures
    have hlong : 10 ≤ bytes.length := of_decide_eq_true hfigures.symm
    generalize bytes.drop 10 = tail at hdrop
    rcases tail with _ | ⟨a, _ | ⟨b, _ | ⟨c, _ | ⟨d, _ | ⟨e, tail⟩⟩⟩⟩⟩ <;> simp only [List.length_cons, List.length_nil] at hdrop
    · exact (decide_eq_false (by omega)).symm
    · exact (decide_eq_false (by omega)).symm
    · exact (decide_eq_false (by omega)).symm
    · exact (decide_eq_false (by omega)).symm
    · exact (decide_eq_false (by omega)).symm
    · exact (decide_eq_true (by omega)).symm

/-! ### What a code and its bytes spell -/

/-- The sender and the code of a request that the part knows. -/
def knownRequest : Instr → Option (Sender × Nat)
  | .unknownRequest _ _ _ => none
  | i => i.request

/-- With as many bytes as it needs, and with fewer not, the code names a request the part knows. -/
def Spells (r : Sender) (code : Nat) (fields : List Byte) (needed : Nat) : Prop :=
  (decodeKnown r code fields).map knownRequest = if needed ≤ fields.length then some (some (r, code)) else none

/-- The codes whose requests carry no field. -/
def codesOfNone : List Nat :=
  [3, 15, 16, 23, 28, 31, 32, 33, 34, 36, 37, 40, 41, 42, 43, 44, 45, 46, 47, 48, 49]

/-- The codes whose requests carry one byte. -/
def codesOfOne : List Nat := [4, 14, 18, 19, 20, 21, 26, 27]

/-- The codes whose requests carry two bytes. -/
def codesOfTwo : List Nat := [1, 6, 13, 17, 25, 29, 38]

/-- The codes whose requests carry more. -/
def codesOfMore : List Nat := [2, 5, 7, 8, 9, 10, 11, 12, 22, 24, 30, 35, 39]

/-- The bytes that PLAN WRITE needs, by its Count (R79). -/
def planNeeds (count : Byte) : Nat := if count.toNat ≤ 8 then 2 + 2 * count.toNat else 2

/-- The bytes that AXIS WRITE needs, by its Axis (R52). -/
def axisNeeds (axis : Byte) : Nat :=
  match axis.toNat with
  | 0 => 10 | 1 => 14 | 2 => 12 | 3 => 12 | _ => 1

theorem axisNeeds_eq (axis : Byte) : axisNeeds axis =
    match Axis.ofNum axis.toNat with
    | some a => 4 + 2 * a.highest
    | none => 1 := by
  unfold axisNeeds
  generalize axis.toNat = n
  rcases n with _ | _ | _ | _ | n <;> rfl

/-- The bytes that a code needs (R181 test 2), from the field lists of the chapters. -/
def bytesNeeded (code : Nat) (fields : List Byte) : Nat :=
  match code with
  | 1 => 2 | 2 => 14 | 4 => 1
  | 5 => axisNeeds (fields.getD 0 0#8)
  | 6 => 2 | 7 => 17 | 8 => 22
  | 9 => planNeeds (fields.getD 1 0#8)
  | 10 => 21 | 11 => 7 | 12 => 4 | 13 => 2 | 14 => 1 | 17 => 2 | 18 => 1 | 19 => 1 | 20 => 1 | 21 => 1 | 22 => 6
  | 24 => 5 | 25 => 2 | 26 => 1 | 27 => 1 | 29 => 2 | 30 => 11 | 35 => 3 | 38 => 2 | 39 => 10
  | _ => 0

theorem spells_none (h : code ∈ codesOfNone) : Spells r code fields (bytesNeeded code fields) := by
  simp only [codesOfNone, List.mem_cons, List.not_mem_nil, or_false] at h
  rcases h with rfl | rfl | rfl | rfl | rfl | rfl | rfl | rfl | rfl | rfl | rfl | rfl | rfl | rfl | rfl | rfl | rfl | rfl |
    rfl | rfl | rfl <;> exact (if_pos (Nat.zero_le _)).symm

theorem spells_one (h : code ∈ codesOfOne) : Spells r code fields (bytesNeeded code fields) := by
  simp only [codesOfOne, List.mem_cons, List.not_mem_nil, or_false] at h
  rcases fields with _ | ⟨_, _⟩ <;> rcases h with rfl | rfl | rfl | rfl | rfl | rfl | rfl | rfl <;> rfl

theorem spells_two (h : code ∈ codesOfTwo) : Spells r code fields (bytesNeeded code fields) := by
  simp only [codesOfTwo, List.mem_cons, List.not_mem_nil, or_false] at h
  rcases fields with _ | ⟨_, _ | ⟨_, _⟩⟩ <;> rcases h with rfl | rfl | rfl | rfl | rfl | rfl | rfl <;> rfl

theorem spells_paramWrite : Spells r 35 fields 3 := by
  rcases fields with _ | ⟨_, _ | ⟨_, _ | ⟨_, _⟩⟩⟩ <;> rfl

theorem spells_cellRead : Spells r 12 fields 4 := by
  rcases fields with _ | ⟨_, _ | ⟨_, _ | ⟨_, _ | ⟨_, _⟩⟩⟩⟩ <;> rfl

theorem spells_guardConfig : Spells r 24 fields 5 := by
  rcases fields with _ | ⟨_, _ | ⟨_, _ | ⟨_, _ | ⟨_, _ | ⟨_, _⟩⟩⟩⟩⟩ <;> rfl

theorem spells_tuneWindows : Spells r 22 fields 6 := by
  rcases fields with _ | ⟨_, _ | ⟨_, _ | ⟨_, _ | ⟨_, _ | ⟨_, _ | ⟨_, _⟩⟩⟩⟩⟩⟩ <;> rfl

theorem spells_headerWrite : Spells r 11 fields 7 := by
  rcases fields with _ | ⟨_, _ | ⟨_, _ | ⟨_, _ | ⟨_, _ | ⟨_, _ | ⟨_, _ | ⟨_, _⟩⟩⟩⟩⟩⟩⟩ <;> rfl

theorem spells_layoutWrite : Spells r 39 fields 10 := by
  rcases fields with _ | ⟨_, _ | ⟨_, _ | ⟨_, _ | ⟨_, _ | ⟨_, _ | ⟨_, _ | ⟨_, _ | ⟨_, _ | ⟨_, _ | ⟨_, _⟩⟩⟩⟩⟩⟩⟩⟩⟩⟩ <;> rfl

theorem spells_channelWrite : Spells r 2 fields 14 := by
  rcases fields with _ | ⟨_, _ | ⟨_, _ | ⟨_, _ | ⟨_, _ | ⟨_, _ | ⟨_, _ | ⟨_, _ | ⟨_, _ | ⟨_, _ | ⟨_, _ | ⟨_, _ | ⟨_, _ | ⟨_,
    _ | ⟨_, _⟩⟩⟩⟩⟩⟩⟩⟩⟩⟩⟩⟩⟩⟩ <;> rfl

/-- A request whose last fields are words: it is known when the words can be taken. -/
theorem map_known {α : Type} {o : Option α} {f : α → Instr} {k m : Nat} (hf : ∀ x, knownRequest (f x) = some (r, code))
    (ho : o.isSome = decide (k ≤ m)) (hn : k ≤ m ↔ n ≤ fields.length) :
    (o.map f).map knownRequest = if n ≤ fields.length then some (some (r, code)) else none := by
  cases o with
  | none => exact (if_neg fun h => absurd (hn.mpr h) (of_decide_eq_false ho.symm)).symm
  | some x => exact (congrArg some (hf x)).trans (if_pos (hn.mp (of_decide_eq_true ho.symm))).symm

theorem spells_substituteWrite : Spells r 30 fields 11 := by
  rcases fields with _ | ⟨m, rest⟩
  · rfl
  · exact map_known (fun _ => rfl) (takeFigures_isSome rest) (by rw [List.length_cons]; omega)

theorem spells_sidetrimWrite : Spells r 10 fields 21 := by
  rcases fields with _ | ⟨b, rest⟩
  · rfl
  · exact map_known (fun _ => rfl) (takeSideTrims_isSome rest) (by rw [List.length_cons]; omega)

theorem spells_cellWrite : Spells r 7 fields 17 := by
  rcases fields with _ | ⟨b, _ | ⟨c, rest⟩⟩
  · rfl
  · rfl
  · exact map_known (fun _ => rfl) (takeCellFields_isSome rest) (by rw [List.length_cons, List.length_cons]; omega)

theorem spells_cellFill : Spells r 8 fields 22 := by
  rcases fields with _ | ⟨_, _ | ⟨_, _ | ⟨_, _ | ⟨_, _ | ⟨_, _ | ⟨_, _ | ⟨_, rest⟩⟩⟩⟩⟩⟩⟩
  · rfl
  · rfl
  · rfl
  · rfl
  · rfl
  · rfl
  · rfl
  · exact map_known (fun _ => rfl) (takeCellFields_isSome rest) (by simp only [List.length_cons]; omega)

theorem spells_planWrite : Spells r 9 fields (planNeeds (fields.getD 1 0#8)) := by
  rcases fields with _ | ⟨b, _ | ⟨c, rest⟩⟩
  · rfl
  · rfl
  · refine map_known (fun _ => rfl) (takeWords_isSome (planWords c) rest) ?_
    change 2 * planWords c ≤ rest.length ↔ planNeeds c ≤ (b :: c :: rest).length
    unfold planWords planNeeds
    simp only [List.length_cons]
    split <;> split <;> omega

theorem spells_axisWrite : Spells r 5 fields (axisNeeds (fields.getD 0 0#8)) := by
  rcases fields with _ | ⟨axis, rest⟩
  · rfl
  · change (decodeAxisWrite r axis rest).map knownRequest = if axisNeeds axis ≤ rest.length + 1 then _ else _
    rw [axisNeeds_eq]
    unfold decodeAxisWrite
    cases Axis.ofNum axis.toNat with
    | none => exact (if_pos (Nat.le_add_left 1 _)).symm
    | some a =>
      rcases rest with _ | ⟨h0, _ | ⟨h1, _ | ⟨d, ts⟩⟩⟩
      · exact (if_neg (show ¬ 4 + 2 * a.highest ≤ 1 by omega)).symm
      · exact (if_neg (show ¬ 4 + 2 * a.highest ≤ 2 by omega)).symm
      · exact (if_neg (show ¬ 4 + 2 * a.highest ≤ 3 by omega)).symm
      · exact map_known (fields := axis :: h0 :: h1 :: d :: ts) (fun _ => rfl) (takeWords_isSome a.highest ts)
          (by simp only [List.length_cons]; omega)

theorem decodeKnown_zero : decodeKnown r 0 fields = none := rfl

theorem decodeKnown_of_large (h : 50 ≤ code) : decodeKnown r code fields = none := by
  obtain ⟨k, rfl⟩ := Nat.exists_eq_add_of_le' h
  rfl

theorem spells_more (h : code ∈ codesOfMore) : Spells r code fields (bytesNeeded code fields) := by
  simp only [codesOfMore, List.mem_cons, List.not_mem_nil, or_false] at h
  rcases h with rfl | rfl | rfl | rfl | rfl | rfl | rfl | rfl | rfl | rfl | rfl | rfl | rfl
  · exact spells_channelWrite
  · exact spells_axisWrite
  · exact spells_cellWrite
  · exact spells_cellFill
  · exact spells_planWrite
  · exact spells_sidetrimWrite
  · exact spells_headerWrite
  · exact spells_cellRead
  · exact spells_tuneWindows
  · exact spells_guardConfig
  · exact spells_substituteWrite
  · exact spells_paramWrite
  · exact spells_layoutWrite

theorem spells_all (h1 : 1 ≤ code) (h49 : code ≤ 49) : Spells r code fields (bytesNeeded code fields) := by
  have hcodes : ∀ c < 50, 1 ≤ c → c ∈ codesOfNone ∨ c ∈ codesOfOne ∨ c ∈ codesOfTwo ∨ c ∈ codesOfMore := by decide
  rcases hcodes code (Nat.lt_succ_of_le h49) h1 with h | h | h | h
  · exact spells_none h
  · exact spells_one h
  · exact spells_two h
  · exact spells_more h

/-! ### Every request sent and read -/

theorem takeFigures_sent (v : PerSetting Word16) (extra : List Byte) : takeFigures (wordBytes v.toList ++ extra) = some v := by
  have hwords : takeWords 5 (wordBytes v.toList ++ extra) = some [v.drum, v.concave, v.upper, v.lower, v.fan] :=
    takeWords_wordBytes v.toList extra
  rw [takeFigures, hwords]

theorem takeSideTrims_append (offsets : PerSide (Word16 × Word16)) (extra : List Byte) :
    takeSideTrims ((offsets.toList.map (fun p => le16 p.1 ++ le16 p.2)).flatten ++ extra) = some offsets := by
  obtain ⟨⟨a, b⟩, ⟨c, d⟩, ⟨e, f⟩, ⟨g, h⟩, ⟨i, j⟩⟩ := offsets
  have hwords : takeWords 10 (([(a, b), (c, d), (e, f), (g, h), (i, j)].map (fun p => le16 p.1 ++ le16 p.2)).flatten ++ extra)
      = some [a, b, c, d, e, f, g, h, i, j] := takeWords_wordBytes [a, b, c, d, e, f, g, h, i, j] extra
  rw [takeSideTrims, PerSide.toList, hwords]

theorem takeCellFields_sent (f : CellFields) (extra : List Byte) : takeCellFields (f.bytes ++ extra) = some f := by
  have hbytes : f.bytes ++ extra =
      wordBytes f.targets.toList ++ ([f.flags] ++ le16 f.llim ++ le16 f.tlim ++ extra) := by
    simp only [CellFields.bytes, List.append_assoc]
  have hdrop : (wordBytes f.targets.toList ++ ([f.flags] ++ le16 f.llim ++ le16 f.tlim ++ extra)).drop 10 =
      [f.flags] ++ le16 f.llim ++ le16 f.tlim ++ extra := rfl
  rw [hbytes, takeCellFields, takeFigures_sent, hdrop]
  change some (⟨f.targets, f.flags, word16 (f.llim.extractLsb' 0 8) (f.llim.extractLsb' 8 8),
    word16 (f.tlim.extractLsb' 0 8) (f.tlim.extractLsb' 8 8)⟩ : CellFields) = some f
  rw [word16_extract, word16_extract]

/-- A request read as its code and its last fields say. -/
theorem decodeRequest_map {α : Type} {code : Byte} {o : Option α} {f : α → Instr} {x : α}
    (h : decodeKnown r code.toNat fields = o.map f) (ho : o = some x) : decodeRequest r code fields = f x := by
  rw [decodeRequest, h, ho]
  rfl

theorem axisFields_of_wellFormed {axis : Byte} {hysteresis : Word16} {band : Byte} {thresholds : List Word16}
    (h : (Instr.axisWrite r axis hysteresis band thresholds).wellFormed = true) :
    thresholds.length = axisWords axis ∧ (axis.toNat ≤ 3 ∨ hysteresis = 0#16 ∧ band = 0#8) := by
  have hfields := (Bool.and_eq_true_iff.mp h).2
  simpa only [Instr.fieldsWellFormed, axisWriteWellFormed, Bool.and_eq_true, Bool.or_eq_true, beq_iff_eq,
    decide_eq_true_eq] using hfields

theorem Axis.ofNum_isSome {k : Nat} (h : k ≤ 3) : ∃ a, Axis.ofNum k = some a := by
  have hnums : ∀ n < 4, (Axis.ofNum n).isSome = true := by decide
  exact Option.isSome_iff_exists.mp (hnums k (Nat.lt_succ_of_le h))

theorem decodeAxisWrite_sent {axis : Byte} {hysteresis : Word16} {band : Byte} {thresholds : List Word16}
    (h : (Instr.axisWrite r axis hysteresis band thresholds).wellFormed = true) (extra : List Byte) :
    decodeAxisWrite r axis (le16 hysteresis ++ [band] ++ wordBytes thresholds ++ extra) =
      some (.axisWrite r axis hysteresis band thresholds) := by
  obtain ⟨hlength, hrange⟩ := axisFields_of_wellFormed h
  unfold decodeAxisWrite
  cases ha : Axis.ofNum axis.toNat with
  | none =>
    rw [axisWords_of_none ha] at hlength
    obtain rfl := List.length_eq_zero_iff.mp hlength
    have hout : ¬ axis.toNat ≤ 3 := fun hle => by
      obtain ⟨a, ha'⟩ := Axis.ofNum_isSome hle
      exact nomatch ha.symm.trans ha'
    obtain ⟨rfl, rfl⟩ := hrange.resolve_left hout
    rfl
  | some a =>
    rw [axisWords_of_some ha] at hlength
    rw [List.append_assoc, List.append_assoc]
    change (takeWords a.highest (wordBytes thresholds ++ extra)).map (fun words =>
      Instr.axisWrite r axis (word16 (hysteresis.extractLsb' 0 8) (hysteresis.extractLsb' 8 8)) band words) = _
    rw [← hlength, takeWords_wordBytes, word16_extract]
    rfl

/-- Every request is read back from the bytes it is sent as (R5, R181). -/
theorem decodeRequest_sent {i : Instr} (hreq : i.request = some (r, code)) (hwf : i.wellFormed = true)
    (hextra : (∃ c fields, i = .unknownRequest r c fields) → extra = []) :
    decodeRequest r (BitVec.ofNat 8 code) (encodeFields i ++ extra) = i := by
  cases i with
  | unknownRequest r' c fields =>
    obtain ⟨rfl, rfl⟩ := Prod.mk.inj (Option.some.inj hreq)
    obtain rfl := hextra ⟨c, fields, rfl⟩
    have hnone := Option.isNone_iff_eq_none.mp (Bool.and_eq_true_iff.mp hwf).2
    rw [BitVec.ofNat_toNat, BitVec.setWidth_eq, List.append_nil, decodeRequest]
    rw [show decodeKnown r' c.toNat (encodeFields (.unknownRequest r' c fields)) = none from hnone]
    rfl
  | channelWrite r' index f =>
    cases hreq
    change Instr.channelWrite r index ⟨f.flags, f.station, f.sub, f.role,
      word16 (f.gain.extractLsb' 0 8) (f.gain.extractLsb' 8 8), word16 (f.offset.extractLsb' 0 8) (f.offset.extractLsb' 8 8),
      word16 (f.plausibleMin.extractLsb' 0 8) (f.plausibleMin.extractLsb' 8 8),
      word16 (f.plausibleMax.extractLsb' 0 8) (f.plausibleMax.extractLsb' 8 8), f.period⟩ = _
    simp only [word16_extract]
  | axisWrite r' axis hysteresis band thresholds =>
    cases hreq
    have hknown : decodeKnown r 5 (encodeFields (.axisWrite r axis hysteresis band thresholds) ++ extra) =
        decodeAxisWrite r axis (le16 hysteresis ++ [band] ++ wordBytes thresholds ++ extra) := by
      simp only [encodeFields, List.append_assoc]
      rfl
    rw [decodeRequest, show decodeKnown r (BitVec.ofNat 8 5).toNat _ = _ from hknown.trans (decodeAxisWrite_sent hwf extra)]
    rfl
  | cellWrite r' bank cell f =>
    cases hreq
    exact decodeRequest_map (f := (.cellWrite r bank cell ·)) rfl (takeCellFields_sent f extra)
  | cellFill r' bank block f =>
    cases hreq
    exact decodeRequest_map (f := (.cellFill r bank block ·)) rfl (takeCellFields_sent f extra)
  | planWrite r' bank count steps =>
    cases hreq
    have hlength : steps.length = planWords count := beq_iff_eq.mp (Bool.and_eq_true_iff.mp hwf).2
    refine decodeRequest_map (f := (.planWrite r bank count ·)) (o := takeWords (planWords count) (wordBytes steps ++ extra))
      rfl ?_
    rw [← hlength]
    exact takeWords_wordBytes steps extra
  | sidetrimWrite r' bank offsets =>
    cases hreq
    exact decodeRequest_map (f := (.sidetrimWrite r bank ·)) rfl (takeSideTrims_append offsets extra)
  | headerWrite r' bank label llim tlim =>
    cases hreq
    change Instr.headerWrite r bank (word16 (label.extractLsb' 0 8) (label.extractLsb' 8 8))
      (word16 (llim.extractLsb' 0 8) (llim.extractLsb' 8 8)) (word16 (tlim.extractLsb' 0 8) (tlim.extractLsb' 8 8)) = _
    simp only [word16_extract]
  | tuneWindows r' settle measure recheck =>
    cases hreq
    change Instr.tuneWindows r (word16 (settle.extractLsb' 0 8) (settle.extractLsb' 8 8))
      (word16 (measure.extractLsb' 0 8) (measure.extractLsb' 8 8))
      (word16 (recheck.extractLsb' 0 8) (recheck.extractLsb' 8 8)) = _
    simp only [word16_extract]
  | guardMask r' mask =>
    cases hreq
    exact congrArg (Instr.guardMask r) (word16_extract mask)
  | substituteWrite r' mask values =>
    cases hreq
    exact decodeRequest_map (f := (.substituteWrite r mask ·)) rfl (takeFigures_sent values extra)
  | paramWrite r' item value =>
    cases hreq
    exact congrArg (Instr.paramWrite r item) (word16_extract value)
  | _ => cases hreq <;> rfl

/-! ### The statement -/

/-- A code the part does not know, or too few bytes. -/
theorem decodeRequest_of_unknown {code : Byte}
    (h : code = 0#8 ∨ 50 ≤ code.toNat ∨ fields.length < bytesNeeded code.toNat fields) :
    decodeRequest r code fields = .unknownRequest r code fields := by
  have hnone : decodeKnown r code.toNat fields = none := by
    rcases h with rfl | h | h
    · exact decodeKnown_zero
    · exact decodeKnown_of_large h
    · by_cases hlarge : 50 ≤ code.toNat
      · exact decodeKnown_of_large hlarge
      by_cases hzero : code.toNat = 0
      · rw [hzero]; exact decodeKnown_zero
      have hspells := spells_all (r := r) (fields := fields) (Nat.one_le_iff_ne_zero.mpr hzero) (Nat.le_of_lt_succ (Nat.lt_of_not_le hlarge))
      rw [Spells, if_neg (Nat.not_le.mpr h)] at hspells
      exact Option.map_eq_none_iff.mp hspells
  rw [decodeRequest, hnone]
  rfl

/-- Any other is the request its code names. -/
theorem decodeRequest_of_known {code : Byte} (h1 : 1 ≤ code.toNat) (h49 : code.toNat ≤ 49)
    (h : bytesNeeded code.toNat fields ≤ fields.length) :
    knownRequest (decodeRequest r code fields) = some (r, code.toNat) := by
  have hspells := spells_all (r := r) (fields := fields) h1 h49
  rw [Spells, if_pos h] at hspells
  obtain ⟨i, hi, hknown⟩ := Option.map_eq_some_iff.mp hspells
  rw [decodeRequest, hi]
  exact hknown

theorem request_of_known {i : Instr} {x : Sender × Nat} (h : knownRequest i = some x) :
    i.request = some x ∧ ∀ b rest, i ≠ .unknownRequest r b rest := by
  cases i with
  | unknownRequest => cases h
  | _ => exact ⟨h, nofun⟩

/-- Settles O18: the requests sent one by one; the codes by the bytes they need. -/
theorem requestsReadBackAsSpelled : Obligations.RequestsReadBackAsSpelled :=
  ⟨fun _ _ _ _ hreq hwf hextra => decodeRequest_sent hreq hwf hextra,
    fun _ _ _ => ⟨decodeRequest_of_unknown, fun h1 h49 h => request_of_known (decodeRequest_of_known h1 h49 h)⟩⟩

end Sys2Proof.Machine
end

section
/-! PROOF. How a request passes the tests of R181: the order of the tests (O50), the claim of ownership, and what
takes an owner away (O51). -/

namespace Sys2Proof.Machine

variable {s t : State} {r : Sender} {code : Nat} {i : Instr}

/-! ### RESET driven active is not seen by the regulator nor the arbiter -/

theorem inReset_raiseNotice (kind : NoticeKind) (subject : Nat) (detail : Word16) (s : State) :
    (raiseNotice kind subject detail s).pins.inReset = s.pins.inReset := by
  have hsend (u : State) : (sendAttention u).pins = u.pins :=
    (touches_sendAttention (T := [.link]) (by decide) (.refl _ u)).pins (by decide)
  unfold raiseNotice
  dsimp only
  split
  · split
    · rfl
    · split
      · rw [hsend]; rfl
      · rfl
  · rfl

/-- What the regulator does leaves RESET driven active or not. -/
theorem quiet_inReset (b : Bool) : Quiet (fun u => u.pins.inReset = b) where
  touches h hs := by rw [h.pins (by decide)]; exact hs
  regulator _ {_} _ h := h
  result _ {_} h := h
  openGate h := h
  closeGate h := h
  safeOut _ _ h := h
  publish {s} h := by rw [(touches_publish (T := [.pictures]) (by decide) (.refl _ s)).pins (by decide)]; exact h
  notice kind subject detail {s} h := (inReset_raiseNotice kind subject detail s).trans h
  goal st g {s} h := by rw [(touches_giveGoal (T := touchMoves) (by decide) (.refl _ s) st g).pins (by decide)]; exact h

theorem inReset_settleGuards (s : State) : (settleGuards s).pins.inReset = s.pins.inReset :=
  (quiet_inReset s.pins.inReset).steady.settleGuards rfl

/-! ### An examination that was put off -/

/-- What is examined before a request may be examined first. -/
theorem takeRequest_settleGuards
    (hdue : s.guards.examineDue = .released ∨ s.guards.examineDue = .raised ∧ ∀ q mask, i ≠ .guardMask q mask) :
    takeRequest i s = takeRequest i (settleGuards s) := by
  have hbefore : settleBefore i s = settleGuards s := by
    have hwaiting (hd : s.guards.examineDue ≠ .no) : settleWaiting s = settleGuards s := if_neg hd
    unfold settleBefore
    rcases hdue with hd | ⟨hd, hi⟩
    · rw [hd]
      exact hwaiting (by rw [hd]; nofun)
    · rw [hd]
      split
      · exact absurd rfl (hi _ _)
      · exact hwaiting (by rw [hd]; nofun)
  rw [takeRequest, takeRequest, hbefore, settleBefore_of_settled (settleGuards_settled s)]

section Words

variable {axis bank count band : Byte} {hysteresis : Word16} {words ts : List Word16}

theorem exec_axisWrite_of_some (h : wordsAsked (axisWords axis) words = some ts) (s : State) :
    exec (.axisWrite r axis hysteresis band words) s = live (serve (.axisWrite r axis hysteresis band words) r 5 .modifying
      inSetup (bodyAxisWrite r axis hysteresis band ts)) s := by
  have harm : exec (.axisWrite r axis hysteresis band words) s = execAxisWrite r axis hysteresis band words s := rfl
  rw [harm, execAxisWrite, h]

theorem exec_axisWrite_of_none (h : wordsAsked (axisWords axis) words = none) (s : State) :
    exec (.axisWrite r axis hysteresis band words) s =
      live (serveUnknown (.axisWrite r axis hysteresis band words) r 5) s := by
  have harm : exec (.axisWrite r axis hysteresis band words) s = execAxisWrite r axis hysteresis band words s := rfl
  rw [harm, execAxisWrite, h]

theorem exec_planWrite_of_some (h : wordsAsked (planWords count) words = some ts) (s : State) :
    exec (.planWrite r bank count words) s = live (serve (.planWrite r bank count words) r 9 .modifying anyState
      (bankWrite r 9 bank (fun _ => decide (8 < count.toNat) || ts.any (fun w => (stepOfWord w).isNone))
        (fun k => updBank k (fun b => { b with plan := ts.filterMap stepOfWord })))) s := by
  have harm : exec (.planWrite r bank count words) s = execPlanWrite r bank count words s := rfl
  rw [harm, execPlanWrite, h]

theorem exec_planWrite_of_none (h : wordsAsked (planWords count) words = none) (s : State) :
    exec (.planWrite r bank count words) s = live (serveUnknown (.planWrite r bank count words) r 9) s := by
  have harm : exec (.planWrite r bank count words) s = execPlanWrite r bank count words s := rfl
  rw [harm, execPlanWrite, h]

end Words

/-! ### The tests of R181 -/

/-- A request the part knows is served by the tests of its row of 9.7; BEAT is not, which is never BUSY (R176). -/
theorem exec_served (hreq : i.request = some (r, code)) (hwf : i.wellFormed = true)
    (hknown : ∀ b fields, i ≠ .unknownRequest r b fields) (hbeat : ∀ q, i ≠ .beat q) :
    ∃ body, ∀ s, exec i s = live (serve i r code (requestMode i) (requestColumn i) body) s := by
  cases i with
  | axisWrite r' axis hysteresis band words =>
    cases hreq
    obtain ⟨hlength, -⟩ := axisFields_of_wellFormed hwf
    exact ⟨_, exec_axisWrite_of_some (wordsAsked_of_le (Nat.le_of_eq hlength.symm))⟩
  | planWrite r' bank count words =>
    cases hreq
    have hlength : words.length = planWords count := beq_iff_eq.mp (Bool.and_eq_true_iff.mp hwf).2
    exact ⟨_, exec_planWrite_of_some (wordsAsked_of_le (Nat.le_of_eq hlength.symm))⟩
  | unknownRequest r' b fields => cases hreq; exact absurd rfl (hknown b fields)
  | beat q => exact absurd rfl (hbeat q)
  | _ => cases hreq <;> exact ⟨_, fun _ => rfl⟩

/-- A request does what it does from the state in which it is taken. -/
theorem exec_congr_of_take (hreq : i.request = some (r, code)) (hwf : i.wellFormed = true) (hs : s.works) (ht : t.works)
    (htake : takeRequest i s = takeRequest i t) : exec i s = exec i t := by
  by_cases hbeat : ∀ q, i ≠ .beat q
  · by_cases hknown : ∀ b fields, i ≠ .unknownRequest r b fields
    · obtain ⟨body, hbody⟩ := exec_served hreq hwf hknown hbeat
      rw [hbody, hbody, live_of_works hs, live_of_works ht, serve, serve, htake]
    · simp only [Classical.not_forall, Classical.not_not] at hknown
      obtain ⟨b, fields, rfl⟩ := hknown
      have harm (u : State) : exec (.unknownRequest r b fields) u =
          live (serveUnknown (.unknownRequest r b fields) r b.toNat) u := rfl
      rw [harm, harm, live_of_works hs, live_of_works ht, serveUnknown, serveUnknown, htake]
  · simp only [Classical.not_forall, Classical.not_not] at hbeat
    obtain ⟨q, rfl⟩ := hbeat
    rw [exec_beat hs, exec_beat ht, State.taken, State.taken, htake]

theorem exec_unknownRequest {b : Byte} {fields : List Byte} (h : s.works) :
    exec (.unknownRequest r b fields) s = .next (answer r b.toNat (if s.mgmt.busy then .busy else .unknown) []
      (s.taken (.unknownRequest r b fields))) := by
  rw [show exec (.unknownRequest r b fields) s = _ from live_of_works h, serveUnknown_eq]

/-- Settles O50: the tests of R181, one after another. -/
theorem requestsAreTurnedAwayInOrder : Obligations.RequestsAreTurnedAwayInOrder := by
  intro i r code s hreq hwf
  refine ⟨fun hworks hdue => ⟨?_, settleGuards_settled s⟩, fun hworks hbusy hbeat => ?_, ?_, fun hfree hknown => ⟨fun hmode howner hnone => ?_, fun hmode hcolumn => ?_⟩⟩
  · exact exec_congr_of_take hreq hwf hworks ((inReset_settleGuards s).trans hworks) (takeRequest_settleGuards hdue)
  · by_cases hknown : ∀ b fields, i ≠ .unknownRequest r b fields
    · obtain ⟨body, hbody⟩ := exec_served hreq hwf hknown hbeat
      rw [hbody, live_of_works hworks, serve_of_busy hbusy]
    · simp only [Classical.not_forall, Classical.not_not] at hknown
      obtain ⟨b, fields, rfl⟩ := hknown
      cases hreq
      rw [exec_unknownRequest hworks, if_pos hbusy]
  · rintro ⟨hworks, hbusy⟩ ⟨b, fields, rfl⟩
    cases hreq
    rw [exec_unknownRequest hworks, hbusy]
    rfl
  · by_cases hbeat : ∀ q, i ≠ .beat q
    · obtain ⟨body, hbody⟩ := exec_served hreq hwf hknown hbeat
      rw [hbody, live_of_works hfree.1, serve_of_notOwner hfree.2 hmode howner hnone]
    · simp only [Classical.not_forall, Classical.not_not] at hbeat
      obtain ⟨q, rfl⟩ := hbeat
      cases hreq
      exact exec_beat_of_not_owner hfree.1 howner
  · by_cases hbeat : ∀ q, i ≠ .beat q
    · obtain ⟨body, hbody⟩ := exec_served hreq hwf hknown hbeat
      rw [hbody, live_of_works hfree.1, serve_of_wrongState hfree.2 hmode hcolumn]
    · simp only [Classical.not_forall, Classical.not_not] at hbeat
      obtain ⟨q, rfl⟩ := hbeat
      exact nomatch hcolumn

/-! ### The owner -/

/-- No effect but those that stand apart takes an owner away or puts another in its place. -/
theorem Effect.owner {T : List Block} {o : Byte} (h : Effect T s t) (hapart : T ∉ touchApart) (hs : s.mgmt.owner = some o) :
    t.mgmt.owner = some o := by
  by_cases hT : Block.mgmt ∉ T
  · rw [h.onlyTouches.mgmt hT]; exact hs
  have hsame (hd : SameDuties s t) : t.mgmt.owner = some o := hd.owner.trans hs
  cases h with
  | sent => exact hsame (.sentFrame _ _ _ _)
  | collided => exact hsame (.collideFrame _ _ _ _ _)
  | reply => exact hsame (.readyReply _ _)
  | handOver => exact hsame (.handOver _ _)
  | claim o' hstate hnone => exact nomatch hnone.symm.trans hs
  | startChecking =>
    obtain ⟨c, hm⟩ := startChecking_mgmt s
    rw [hm]; exact hs
  | ident f =>
    rcases takeIdent_mgmt f s with hm | ⟨-, ⟨c, hm⟩ | ⟨p, -, -, hm⟩⟩ <;> rw [hm] <;> exact hs
  | answerExpires c =>
    rcases answerExpires_mgmt c s with ⟨c, hm⟩ | ⟨p, -, -, hm⟩ <;> rw [hm] <;> exact hs
  | start => rw [(startRegulating_after s).1]; exact hs
  | stop => rw [(stopRegulating_after s).1]; exact hs
  | inbox | pendingParams | closeParams | enterAwaitParam | tune | reading | startSave | saved => exact hs
  | _ => exact absurd (by decide) (not_or.mpr ⟨hT, hapart⟩)

/-- An ordinary command leaves the owner. -/
theorem exec_keeps_owner {o : Byte} (hc : ordinary i = true) (hs : s.mgmt.owner = some o) (h : exec i s = .next t) :
    t.mgmt.owner = some o := by
  obtain ⟨u, hu, hruns⟩ := exec_runs hc s
  obtain rfl := Host.Outcome.next.inj (hu.symm.trans h)
  exact hruns.keeps (P := fun u => u.mgmt.owner = some o) (fun _ _ _ k hT hs => k.owner hT hs) hs

/-- The owner stays, or is lost. -/
theorem exec_owner {o : Byte} (hs : s.mgmt.owner = some o) (h : exec i s = .next t) :
    t.mgmt.owner = some o ∨ t.mgmt.owner = none := by
  obtain ⟨u, hu, hcomes⟩ := exec_effects i s
  obtain rfl := Host.Outcome.next.inj (hu.symm.trans h)
  cases hcomes with
  | runs k => exact .inl (k.keeps (P := fun u => u.mgmt.owner = some o) (fun _ _ _ k hT hs => k.owner hT hs) hs)
  | lost _ _ _ hmgmt => exact .inr (by rw [hmgmt, (loseOwner_after _).1]; rfl)
  | reset straps => exact .inr (by rw [resetPart_mgmt]; rfl)
  | frozen _ k =>
    cases k with
    | resetDriven => exact .inl (by rw [State.withPins_mgmt, cutShort_mgmt]; exact hs)

/-- RESET driven active leaves the owner. -/
theorem exec_resetDrivenActive_owner (h : exec .resetDrivenActive s = .next t) : t.mgmt.owner = s.mgmt.owner := by
  cases hreset : s.pins.inReset with
  | true =>
    rw [exec_of_inReset (c := .resetDrivenActive) hreset (fun _ => nofun)] at h
    rw [Host.Outcome.next.inj h]
  | false =>
    rw [exec_resetDrivenActive hreset] at h
    rw [← Host.Outcome.next.inj h, State.withPins_mgmt, cutShort_mgmt]

/-- A state with a station as its owner. -/
def State.ownedBy (s : State) (o : Byte) : State := s.withMgmt { s.mgmt with owner := some o }

theorem settleWaiting_settled (s : State) : (settleWaiting s).settled := by
  unfold settleWaiting
  split
  · assumption
  · exact settleGuards_settled s

theorem settleBefore_ownedBy (i : Instr) (s : State) (o : Byte) :
    settleBefore i ((settleBefore i s).ownedBy o) = (settleBefore i s).ownedBy o := by
  by_cases hraised : s.guards.examineDue = .raised ∧ ∃ q mask, i = .guardMask q mask
  · obtain ⟨hd, q, mask, rfl⟩ := hraised
    have hstays (u : State) (hu : u.guards.examineDue = .raised) : settleBefore (.guardMask q mask) u = u := by
      unfold settleBefore
      rw [hu]
    rw [hstays s hd, hstays (s.ownedBy o) hd]
  · have hwaiting : settleBefore i s = settleWaiting s := by
      unfold settleBefore
      split
      · exact absurd ⟨by assumption, _, _, rfl⟩ hraised
      · rfl
    have hsettled : ((settleWaiting s).ownedBy o).settled := settleWaiting_settled s
    rw [hwaiting, settleBefore_of_settled hsettled]

theorem taken_ownedBy (i : Instr) (s : State) (o : Byte) :
    ((settleBefore i s).ownedBy o).taken i = (s.taken i).withMgmt { (s.taken i).mgmt with owner := some o } := by
  rw [State.taken, takeRequest, settleBefore_ownedBy]
  rfl

/-- A request from the owner, to a part that is not busy. -/
theorem serve_of_owner {c : Instr} {column : PartState → Bool} {body : State → State} (hbusy : s.mgmt.busy = false)
    (howner : s.mgmt.owner = some r.station) : serve c r code .modifying column body s =
      if column s.mgmt.partState then body (s.taken c) else answer r code .wrongState [] (s.taken c) := by
  unfold serve judgeRequest
  dsimp only
  rw [show (takeRequest c s).mgmt.busy = false from taken_busy.trans hbusy,
    show ownerTest .modifying r (takeRequest c s) = _ from ownerTest_taken_of_passes (.inr howner)]
  dsimp only
  rw [taken_mgmt]
  rfl

/-- A modifying request that claims is judged and carried out as from the owner. -/
theorem exec_claims (hreq : i.request = some (r, code)) (hwf : i.wellFormed = true) (hmode : requestMode i = .modifying)
    (hknown : ∀ b fields, i ≠ .unknownRequest r b fields) (hworks : s.works) (howner : s.mgmt.owner = none)
    (hstate : s.mgmt.partState = .awaitParam) (hbusy : s.mgmt.busy = false) :
    exec i s = exec i ((settleBefore i s).ownedBy r.station) := by
  have hbeat : ∀ q, i ≠ .beat q := by
    rintro q rfl
    cases hmode
  obtain ⟨body, hbody⟩ := exec_served hreq hwf hknown hbeat
  have hmgmt : (settleBefore i s).mgmt = s.mgmt :=
    (touches_settleBefore (T := touchGuards) (by decide) (.refl _ s) i).mgmt (by decide)
  have hworks' : ((settleBefore i s).ownedBy r.station).works := by
    change (settleBefore i s).pins.inReset = false
    unfold settleBefore
    split
    · exact hworks
    · unfold settleWaiting
      split
      · exact hworks
      · exact (inReset_settleGuards s).trans hworks
  have hstate' : ((settleBefore i s).ownedBy r.station).mgmt.partState = .awaitParam := by
    rw [State.ownedBy, State.withMgmt_mgmt, hmgmt]
    exact hstate
  have hbusy' : ((settleBefore i s).ownedBy r.station).mgmt.busy = false := by
    rw [State.ownedBy, State.withMgmt_mgmt, hmgmt]
    exact hbusy
  rw [hbody, hbody, live_of_works hworks, live_of_works hworks', hmode, serve_of_claims hbusy rfl howner hstate,
    serve_of_owner hbusy' rfl, hstate', taken_ownedBy]

/-- Settles O51: a claim goes on as from the owner, which an ordinary command keeps; and what takes an owner away. -/
theorem theFirstModifyingRequestClaims : Obligations.TheFirstModifyingRequestClaims := by
  refine ⟨fun i r code s hreq hwf hmode hknown hworks howner hstate => ?_, fun i s t o hs h => ?_⟩
  · cases hbusy : s.mgmt.busy with
    | true =>
      have hbeat : ∀ q, i ≠ .beat q := by
        rintro q rfl
        cases hmode
      obtain ⟨body, hbody⟩ := exec_served hreq hwf hknown hbeat
      refine ⟨_, by rw [hbody, live_of_works hworks, serve_of_busy hbusy], ?_, nofun⟩
      rw [if_pos rfl, answer, (SameDuties.readyReply _ _).owner, taken_mgmt]
      exact howner
    | false =>
      have hclaims := exec_claims hreq hwf hmode hknown hworks howner hstate hbusy
      have hordinary : ordinary i = true := by
        cases i with
        | releaseOwner q => cases hmode
        | _ => cases hreq <;> rfl
      obtain ⟨t, ht, -⟩ := exec_runs hordinary ((settleBefore i s).ownedBy r.station)
      refine ⟨t, hclaims.trans ht, exec_keeps_owner hordinary rfl ht, fun _ hsettled => ?_⟩
      rw [hclaims, settleBefore_of_settled hsettled]
      rfl
  · cases i with
    | heartbeatExpiry => exact (exec_owner hs h).imp_right fun hn => ⟨hn, .inl rfl⟩
    | releaseOwner r => exact (exec_owner hs h).imp_right fun hn => ⟨hn, .inr (.inl ⟨r, rfl⟩)⟩
    | powerOnReset x => exact (exec_owner hs h).imp_right fun hn => ⟨hn, .inr (.inr (.inl ⟨x, rfl⟩))⟩
    | restartAct x => exact (exec_owner hs h).imp_right fun hn => ⟨hn, .inr (.inr (.inr ⟨x, rfl⟩))⟩
    | resetDrivenActive => exact .inl ((exec_resetDrivenActive_owner h).trans hs)
    | _ => exact .inl (exec_keeps_owner rfl hs h)

end Sys2Proof.Machine
end

section
/-! PROOF. The notice unit: what becomes of a notice that is raised, and of those FETCH NOTICES removes (O57). -/

namespace Sys2Proof.Machine

variable {s : State} {kind : NoticeKind} {subject : Nat} {detail : Word16}

/-! ### A notice raised -/

/-- The notice as it is queued. -/
def State.notice (s : State) (kind : NoticeKind) (subject : Nat) (detail : Word16) : Notice :=
  ⟨kind, s.partTime, byteOf subject, detail⟩

/-- The state with the notice queued and ATTN judged. -/
def State.joined (s : State) (kind : NoticeKind) (subject : Nat) (detail : Word16) : State :=
  judgeAttn (s.withNotices (s.notices.join (s.notice kind subject detail)))

theorem raiseNotice_of_disabled (h : s.mgmt.params.classEnables.testBit kind.classBit = false) :
    raiseNotice kind subject detail s = s := if_neg (by rw [h]; nofun)

theorem raiseNotice_of_full (h : s.mgmt.params.classEnables.testBit kind.classBit = true) (hfull : s.notices.held = 31) :
    raiseNotice kind subject detail s = s.withNotices { s.notices with lost := satInc16 s.notices.lost } :=
  (if_pos h).trans (if_pos hfull)

/-- A notice that finds room joins the ring; the first one brings an ATTENTION. -/
theorem raiseNotice_of_room (h : s.mgmt.params.classEnables.testBit kind.classBit = true) (hroom : s.notices.held ≠ 31) :
    raiseNotice kind subject detail s =
      if s.notices.held = 0
      then sendAttention (s.joined kind subject detail)
      else s.joined kind subject detail :=
  (if_pos h).trans (if_neg hroom)

/-- Without attention enable or without an owner, no ATTENTION is sent. -/
theorem sendAttention_of_none (h : s.mgmt.params.item 41 ≠ 1 ∨ s.mgmt.owner = none) : sendAttention s = s := by
  unfold sendAttention
  split
  · rename_i hon howner
    rcases h with h | h
    · exact absurd (beq_iff_eq.mp hon) h
    · exact nomatch h.symm.trans howner
  · rfl

theorem sendAttention_of_owner {o : Byte} (h : s.mgmt.params.item 41 = 1) (howner : s.mgmt.owner = some o) :
    sendAttention s = queuePart (Frame.make o s.ownStation .attention 0#4 [byteOf s.notices.held]) s := by
  have hon : s.mgmt.params.attentionEnable = true := beq_iff_eq.mpr h
  rw [sendAttention, hon, howner]

section Joined

variable (henabled : s.mgmt.params.classEnables.testBit kind.classBit = true) (hroom : s.notices.held ≠ 31)
include henabled hroom

theorem raiseNotice_notices :
    (raiseNotice kind subject detail s).notices = s.notices.join (s.notice kind subject detail) := by
  rw [raiseNotice_of_room henabled hroom]
  split
  · exact (sendAttention_notices _).notices (by decide)
  · rfl

theorem raiseNotice_pins :
    (raiseNotice kind subject detail s).pins = { s.pins with attn := decide (s.mgmt.params.item 41 = 1) } := by
  have hattn : (s.joined kind subject detail).pins =
      { s.pins with attn := decide (s.mgmt.params.item 41 = 1) } := by
    have hheld : (s.notices.join (s.notice kind subject detail)).held ≠ 0 := by
      rw [s.notices.held_join _ hroom]
      omega
    unfold State.joined judgeAttn
    rw [State.withPins_pins, State.withNotices_notices, decide_eq_true hheld, Bool.and_true]
    rfl
  rw [raiseNotice_of_room henabled hroom]
  split
  · rw [(sendAttention_notices _).pins (by decide)]
    exact hattn
  · exact hattn

theorem raiseNotice_link (h : 0 < s.notices.held ∨ s.mgmt.params.item 41 ≠ 1 ∨ s.mgmt.owner = none) :
    (raiseNotice kind subject detail s).link = s.link := by
  rw [raiseNotice_of_room henabled hroom]
  split
  · rename_i hempty
    exact (congrArg State.link (sendAttention_of_none (s := s.joined kind subject detail) (h.resolve_left (by omega)))).trans
      rfl
  · rfl

theorem raiseNotice_link_of_first {o : Byte} (hempty : s.notices.held = 0) (hon : s.mgmt.params.item 41 = 1)
    (howner : s.mgmt.owner = some o) : (raiseNotice kind subject detail s).link =
      (queuePart (Frame.make o s.ownStation .attention 0#4 [1#8]) s).link := by
  have hheld : (s.notices.join (s.notice kind subject detail)).held = 1 := by rw [s.notices.held_join _ hroom, hempty]
  rw [raiseNotice_of_room henabled hroom, if_pos hempty]
  refine (congrArg State.link (sendAttention_of_owner (s := s.joined kind subject detail) hon howner)).trans ?_
  change (queuePart (Frame.make o s.ownStation .attention 0#4
    [byteOf (s.notices.join (s.notice kind subject detail)).held]) _).link = _
  rw [hheld]
  rfl

end Joined

/-! ### Notices fetched -/

/-- In a ring without empty slots the oldest notices are as many as asked for, in the ring's order. -/
theorem NoticeUnit.oldest_spec {n : NoticeUnit} : ∀ {k : Nat}, (∀ j, j < k → (n.nth j).isSome = true) →
    (n.oldest k).length = k ∧ ∀ j, j < k → n.nth j = (n.oldest k)[j]?
  | 0, _ => ⟨rfl, nofun⟩
  | k + 1, h => by
    obtain ⟨hlength, hnth⟩ := NoticeUnit.oldest_spec (n := n) (k := k) fun j hj => h j (Nat.lt_succ_of_lt hj)
    obtain ⟨x, hx⟩ := Option.isSome_iff_exists.mp (h k (Nat.lt_succ_self k))
    have hsnoc : n.oldest (k + 1) = n.oldest k ++ [x] := by
      rw [NoticeUnit.oldest, List.range_succ, List.filterMap_append]
      simp only [List.filterMap_cons, hx, List.filterMap_nil]
      rfl
    refine ⟨by rw [hsnoc, List.length_append, hlength]; rfl, fun j hj => ?_⟩
    rw [hsnoc]
    rcases Nat.lt_succ_iff_lt_or_eq.mp hj with hlt | rfl
    · rw [List.getElem?_append_left (by omega), hnth j hlt]
    · rw [List.getElem?_append_right (by omega), hlength, Nat.sub_self, hx]
      rfl

theorem removeNotices_pins (s : State) : (removeNotices s).pins = { s.pins with
    attn := decide (s.mgmt.params.item 41 = 1) && decide ((s.notices.advance s.notices.fetchCount).held ≠ 0) } := rfl

/-- Settles O57: the branches of a notice raised, and the ring with its oldest notices removed. -/
theorem noticesAreQueuedAndFetched : Obligations.NoticesAreQueuedAndFetched := by
  refine ⟨fun kind subject detail s => ⟨raiseNotice_of_disabled, raiseNotice_of_full, fun h hlt => ?_⟩, fun r s h hsound => ?_⟩
  · have hroom : s.notices.held ≠ 31 := Nat.ne_of_lt hlt
    dsimp only
    rw [raiseNotice_notices h hroom]
    refine ⟨s.notices.held_join _ hroom, ?_, fun j hj => ?_, rfl, rfl, raiseNotice_pins h hroom, raiseNotice_link h hroom,
      fun o => raiseNotice_link_of_first h hroom, touches_raiseNotice (by decide) (.refl _ s) _ _ _⟩
    · rw [s.notices.nth_join _ (Nat.le_refl _) hroom, if_pos rfl]
      rfl
    · rw [s.notices.nth_join _ (Nat.le_of_lt hj) hroom, if_neg (Nat.ne_of_lt hj)]
  · obtain ⟨-, hsome⟩ := noticesSound_iff.mp hsound
    have hcount : s.notices.fetchCount ≤ s.notices.held := Nat.min_le_left _ _
    obtain ⟨hlength, hnth⟩ := NoticeUnit.oldest_spec (n := s.notices) (k := s.notices.fetchCount) fun j hj =>
      hsome j (by omega)
    have hnotices : (s.taken (.fetchNotices r)).notices = s.notices := by rw [taken_eq h.settled]; rfl
    have hpins : (s.taken (.fetchNotices r)).pins = s.pins := by rw [taken_eq h.settled]; rfl
    refine ⟨s.notices.oldest s.notices.fetchCount, removeNotices (s.taken (.fetchNotices r)), hlength, hnth, ?_, ?_, ?_, ?_, ?_,
      rfl, ?_⟩
    · rw [show exec (.fetchNotices r) s = _ from live_serve_of_admits h, hnotices]
      rfl
    · rw [removeNotices, hnotices]
      exact s.notices.held_advance hcount
    · intro j
      rw [removeNotices, hnotices]
      exact s.notices.nth_advance _ j
    · rw [removeNotices, hnotices]
      rfl
    · rw [removeNotices_pins, hpins, taken_params, hnotices]
      exact congrArg _ (by rw [removeNotices, hnotices]; rfl)
    · rw [taken_eq h.settled]
      exact touches_judgeAttn (by decide) (touches_withNotices (by decide) (touches_withMgmt (by decide) (.refl _ s) _) _)

end Sys2Proof.Machine
end

section
/-! PROOF. The store and the reset: SAVE and its write, RESTART, what a reset loads (O55), and the after-reset state
(O56). -/

namespace Sys2Proof.Machine

variable {s t : State} {r : Sender}

/-! ### SAVE -/

theorem exec_saveWriteEnd {j : SaveJob} (h : s.works) (hj : s.mgmt.saving = some j) : exec .saveWriteEnd s =
    .next (answer j.sender 47 .done []
      ((s.withStore (.written j.image)).withMgmt { s.mgmt with saving := none, imageHeld := true })) := by
  have harm : exec .saveWriteEnd s = execSaveWriteEnd s := rfl
  rw [harm, execSaveWriteEnd, live_of_works h, hj]
  rfl

theorem exec_restartAct {straps : BitVec 3} (h : s.works) (hdue : s.mgmt.restartDue = true) :
    exec (.restartAct straps) s = .next (resetPart straps s) :=
  (live_of_works h).trans (congrArg Host.Outcome.next (if_pos hdue))

/-! ### What a reset loads -/

theorem loaded_of_valid {x : Store} {i : Image} (h : x.found = .valid i) : x.loaded = i ∧ x.holdsImage = true := by
  rw [Store.loaded, Store.holdsImage, h]
  exact ⟨rfl, rfl⟩

theorem loaded_of_no_image {x : Store} (h : ∀ i, x.found ≠ .valid i) : x.loaded = defaultImage ∧ x.holdsImage = false := by
  rw [Store.loaded, Store.holdsImage]
  cases hx : x.found with
  | valid i => exact absurd hx (h i)
  | blank => exact ⟨rfl, rfl⟩
  | failed => exact ⟨rfl, rfl⟩

theorem ne_valid_of_found {x : Store} (h : x.found = .blank ∨ x.found = .failed) (i : Image) : x.found ≠ .valid i := by
  intro hi
  rcases h with h | h <;> exact StoreCondition.noConfusion (h.symm.trans hi)

theorem Table.map_map_of_eq {α β : Type} {n : Nat} {tb : Table α n} {f : α → β} {g : β → α} (h : ∀ a, g (f a) = a) :
    (tb.map f).map g = tb :=
  Table.mk.injEq .. ▸ (by
    change (tb.list.map f).map g = tb.list
    rw [List.map_map, show g ∘ f = id from funext h, List.map_id])

/-- What the blocks are reset to is the configuration loaded. -/
theorem resetBlocks_snapshot (straps : BitVec 3) (s : State) : (resetBlocks straps s).snapshot = s.store.loaded := by
  have hchannels (i : Image) : (resetChannels i).entries.map Channel.defn = i.channels := Table.map_map_of_eq fun _ => rfl
  have hguards (i : Image) : (resetGuards i).table.map Guard.config = i.guards := Table.map_map_of_eq fun _ => rfl
  have hsnapshot : (resetBlocks straps s).snapshot = { s.store.loaded with
      channels := (resetChannels s.store.loaded).entries.map Channel.defn
      guards := (resetGuards s.store.loaded).table.map Guard.config } := rfl
  rw [hsnapshot, hchannels, hguards]

/-- Without an image the blocks are those of the state after reset. -/
theorem resetBlocks_of_no_image (straps : BitVec 3) (h : ∀ i, s.store.found ≠ .valid i) :
    resetBlocks straps s = { State.reset with
      pins := { State.reset.pins with straps := straps }
      store := s.store
      order := s.order
      pending := s.pending } := by
  obtain ⟨hloaded, hheld⟩ := loaded_of_no_image h
  unfold resetBlocks
  rw [hloaded, hheld]
  rfl

theorem reset_snapshot : State.reset.snapshot = defaultImage := by
  have hblank : Store.delivered.found = .blank := rfl
  have hloaded : State.reset.store.loaded = defaultImage := (loaded_of_no_image (ne_valid_of_found (.inl hblank))).1
  rw [← hloaded, ← resetBlocks_snapshot 0#3]
  rfl

/-- What a reset finds in the store. -/
theorem storeFault_enabled : defaultParams.classEnables.testBit NoticeKind.storeFault.classBit = true ∧
    defaultParams.item 41 = 1 := by decide

/-- A reset leaves every block at its after-reset value, with one notice when the store is failed. -/
theorem resetPart_eq (straps : BitVec 3) (s : State) : ∃ n a,
    resetPart straps s = ((resetBlocks straps (cutShort s)).withNotices n).withPins
      ⟨straps, false, none, none, false, a⟩ ∧ n.lost = 0#16 ∧
    ((cutShort s).store.found ≠ .failed → n = resetNotices ∧ a = false) ∧
    ((cutShort s).store.found = .failed → a = true ∧ n.held = 1 ∧
      n.nth 0 = some ⟨.storeFault, 0#32, 48#8 + straps.setWidth 8, 1#16⟩) := by
  by_cases hfound : (cutShort s).store.found = .failed
  · have hloaded : (cutShort s).store.loaded = defaultImage := (loaded_of_no_image (ne_valid_of_found (.inr hfound))).1
    have hparams : (resetBlocks straps (cutShort s)).mgmt.params = defaultParams := by
      rw [show (resetBlocks straps (cutShort s)).mgmt.params = (cutShort s).store.loaded.params from rfl, hloaded]
      rfl
    have hjudge : resetPart straps s = raiseNotice .storeFault (48#8 + straps.setWidth 8).toNat 1#16
        (resetBlocks straps (cutShort s)) := by
      have hstore : (resetBlocks straps (cutShort s)).store.found = .failed := hfound
      rw [resetPart, judgeStore, hstore]
      rfl
    have henabled : (resetBlocks straps (cutShort s)).mgmt.params.classEnables.testBit NoticeKind.storeFault.classBit
        = true := by
      rw [hparams]
      exact storeFault_enabled.1
    have hempty : resetNotices.held = 0 := by decide
    have hnotices : (resetBlocks straps (cutShort s)).notices = resetNotices := rfl
    have hroom : resetNotices.held ≠ 31 := by decide
    refine ⟨resetNotices.join ⟨.storeFault, 0#32, byteOf (48#8 + straps.setWidth 8).toNat, 1#16⟩, true, ?_, rfl,
      fun h => absurd hfound h, fun _ => ⟨rfl, resetNotices.held_join _ hroom, ?_⟩⟩
    · rw [hjudge, raiseNotice_of_room henabled (hnotices ▸ hroom), if_pos (hnotices ▸ hempty)]
      refine (sendAttention_of_none (.inr rfl)).trans ?_
      have hattn : (resetBlocks straps (cutShort s)).mgmt.params.attentionEnable = true := by
        rw [hparams]
        exact beq_iff_eq.mpr storeFault_enabled.2
      unfold State.joined judgeAttn
      rw [State.withNotices_mgmt, hattn, State.withNotices_notices, hnotices, resetNotices.held_join _ hroom, hempty]
      rfl
    · rw [resetNotices.nth_join _ (Nat.zero_le _) hroom, if_pos hempty.symm, byteOf, BitVec.ofNat_toNat, BitVec.setWidth_eq]
  · refine ⟨resetNotices, false, ?_, rfl, fun _ => ⟨rfl, rfl⟩, fun h => absurd h hfound⟩
    rw [resetPart, judgeStore]
    change (match (cutShort s).store.found with | .failed => _ | _ => _) = _
    split
    · exact absurd (by assumption) hfound
    · rfl

/-- Settles O55: SAVE and RESTART by their definitions; what a reset loads is the configuration its snapshot shows. -/
theorem configurationIsSavedAndReloaded : Obligations.ConfigurationIsSavedAndReloaded := by
  refine ⟨fun r s h => ?_, fun s j h hj => exec_saveWriteEnd h hj,
    fun r s h => live_serve_of_admits h, fun x s h hdue => exec_restartAct h hdue, fun x => ?_, fun x s => ?_⟩
  · rw [show exec (.save r) s = _ from live_serve_of_admits h, startSave]
    rw [show (s.taken (.save r)).snapshot = s.snapshot by rw [taken_eq h.settled]; rfl,
      show (s.taken (.save r)).partTime = s.partTime by rw [taken_eq h.settled]; rfl]
  · unfold Store.found
    cases x.content <;> rfl
  · obtain ⟨n, a, heq, -, hclean, -⟩ := resetPart_eq x s
    have hsnapshot : (resetPart x s).snapshot = (cutShort s).store.loaded := by
      rw [heq]
      exact resetBlocks_snapshot x (cutShort s)
    have hstore : (resetPart x s).store = (cutShort s).store := by rw [heq]; rfl
    have hheld : (resetPart x s).mgmt.imageHeld = (cutShort s).store.holdsImage := by rw [heq]; rfl
    refine ⟨_, rfl, hstore.trans (cutShort_store s), fun i hi => ?_, fun hno => ?_, by rw [heq]; rfl, by rw [heq]; rfl,
      fun hblank => ?_⟩
    · rw [hsnapshot, hheld]
      exact loaded_of_valid (hstore ▸ hi)
    · rw [hsnapshot, hheld, reset_snapshot]
      exact loaded_of_no_image fun i hi => hno i (hstore ▸ hi)
    · rw [hstore] at hblank
      obtain ⟨rfl, rfl⟩ := hclean (by rw [hblank]; nofun)
      rw [heq, resetBlocks_of_no_image x (ne_valid_of_found (.inl hblank))]
      rfl

/-! ### The after-reset state -/

theorem side_reset (n : Nat) : (resetLink.side.get? (BitVec.ofNat 8 n).toNat).getD .unknown = .unknown := by
  cases hx : resetLink.side.get? (BitVec.ofNat 8 n).toNat with
  | none => rfl
  | some x => exact Table.get?_fill hx

theorem channel_reset (i : Image) (k : Fin 24) : ((resetChannels i).entries.get k).rt = freshRuntime false :=
  congrArg Channel.rt (Table.get_map i.channels _ k)

theorem lock_reset (i : Image) (k : Fin 24) : (resetChannels i).locks.get k = .search := by
  rw [ChannelUnit.locks, Table.get_map, channel_reset]
  rfl

theorem guard_reset (i : Image) (n : Fin 12) : (resetGuards i).guard n = resetGuard (i.guards.get n) :=
  Table.get_map i.guards _ n

/-- Only the shown count and the beat flag of SUBSTITUTE READ's fields can be told after a reset. -/
theorem exec_substituteRead_of_stopped (hfree : s.free) (hstopped : s.safe.beatRunning = false) :
    ∃ shown, exec (.substituteRead r) s = .next (answer r 34 .done (shown ++ [0#8, 0#8]) (s.taken (.substituteRead r))) := by
  have hcount : (s.taken (.substituteRead r)).safe.shownCount = 0#16 := by
    rw [taken_safe, SafeBlock.shownCount, hstopped]
    rfl
  have hfields : ∃ shown, substituteFields (s.taken (.substituteRead r)) = shown ++ [0#8, 0#8] := by
    rw [substituteFields, hcount]
    exact ⟨_, rfl⟩
  obtain ⟨shown, hshown⟩ := hfields
  exact ⟨shown, hshown ▸ live_serve_read_anyState hfree⟩

/-- Settles O56: each block at its after-reset value, by the definition of the reset. -/
theorem aResetLeavesTheAfterResetState : Obligations.AResetLeavesTheAfterResetState := by
  intro x s t h
  obtain ⟨n, a, heq, hlost, hclean, hfailed⟩ := resetPart_eq x s
  obtain rfl : t = _ := (Host.Outcome.next.inj h).symm.trans heq
  have hpicture : ((resetPictures (cutShort s).store.loaded).buffers.get 0) =
      ⟨.u, resetPicture (cutShort s).store.loaded⟩ := by
    rw [resetPictures, Table.get_set, if_pos rfl]
  refine ⟨rfl, rfl, rfl, fun k _ => side_reset k, fun p => by cases p <;> exact ⟨rfl, rfl, rfl, rfl, rfl, rfl, rfl⟩,
    fun i => channel_reset _ i, rfl, rfl, fun a => by cases a <;> exact ⟨rfl, rfl, rfl, rfl⟩, rfl, rfl,
    fun st => by cases st <;> exact ⟨rfl, rfl, rfl, rfl, rfl, rfl, rfl, rfl, rfl, rfl, rfl⟩, rfl, rfl, rfl, rfl, rfl, rfl, rfl,
    fun st => by cases st <;> rfl, rfl, rfl, rfl, rfl, rfl, fun k => ?_, rfl, rfl, rfl, rfl, rfl, rfl, rfl, rfl, rfl,
    fun r => exec_substituteRead_of_stopped ⟨rfl, rfl⟩ rfl, ?_, rfl, rfl, rfl, rfl, rfl, rfl, hlost, rfl, ?_, ?_, ?_, ?_, ?_⟩
  · have hguard : (resetGuards (cutShort s).store.loaded).guard k = _ := guard_reset _ k
    exact ⟨congrArg Guard.state hguard, congrArg Guard.condition hguard, congrArg Guard.armed hguard,
      congrArg Guard.clearTimer hguard⟩
  · intro p
    have hp : p = resetPicture (cutShort s).store.loaded := congrArg Buffer.picture hpicture
    rw [hp]
    exact ⟨rfl, rfl, rfl, rfl, rfl, rfl, rfl, fun a => by cases a <;> rfl, rfl, rfl, fun st => by cases st <;> exact ⟨rfl, rfl⟩,
      rfl, rfl, rfl, rfl, rfl, rfl, (by decide : resetNotices.held = 0), rfl, fun i => lock_reset _ i⟩
  · exact congrArg Buffer.role hpicture
  · rfl
  · rfl
  · intro hfound
    obtain ⟨rfl, rfl⟩ := hclean hfound
    exact ⟨(by decide : resetNotices.held = 0), rfl⟩
  · exact hfailed

end Sys2Proof.Machine
end

section
/-! PROOF. TUNE WINDOWS: the three lengths, the running timer with its new length, and its expiry at once (O43). -/

namespace Sys2Proof.Machine

variable {s : State} {r : Sender} {settle measure recheck : Word16}

theorem Params.item_write_self {p : Params} {k : Nat} {v : Word16} (h : k < 43) : (p.write k v).item k = v.toNat := by
  unfold Params.item Params.write
  rw [Table.get?_put, if_pos ⟨rfl, h⟩]
  rfl

theorem Params.item_tune_settle {p : Params} : (p.tune settle measure recheck).item 26 = settle.toNat := by
  rw [Params.tune, Params.item_write_of_ne (by decide), Params.item_write_of_ne (by decide), Params.item_write_self (by decide)]

theorem Params.item_tune_measure {p : Params} : (p.tune settle measure recheck).item 27 = measure.toNat := by
  rw [Params.tune, Params.item_write_of_ne (by decide), Params.item_write_self (by decide)]

theorem Params.item_tune_recheck {p : Params} : (p.tune settle measure recheck).item 28 = recheck.toNat := by
  rw [Params.tune, Params.item_write_self (by decide)]

theorem lengthOk_iff {item : Nat} {w : Word16} :
    lengthOk item w = true ↔ (paramRange item).1 ≤ w.toNat ∧ w.toNat ≤ (paramRange item).2 := by
  rw [lengthOk, Bool.and_eq_true, decide_eq_true_iff, decide_eq_true_iff]

theorem lengthsOk_iff : (lengthOk 26 settle && lengthOk 27 measure && lengthOk 28 recheck) = true ↔
    5 ≤ settle.toNat ∧ settle.toNat ≤ 600 ∧ 10 ≤ measure.toNat ∧ measure.toNat ≤ 600 ∧
      10 ≤ recheck.toNat ∧ recheck.toNat ≤ 3000 := by
  rw [Bool.and_eq_true, Bool.and_eq_true, lengthOk_iff, lengthOk_iff, lengthOk_iff]
  simp only [paramRange, and_assoc]

/-- The state with the three lengths in force. -/
def State.tuned (s : State) (settle measure recheck : Word16) : State :=
  s.withMgmt { s.mgmt with params := s.mgmt.params.tune settle measure recheck }

/-- The length the running timer takes. -/
def tunedLength (w : WindowId) (state : RegState) (settle measure recheck : Word16) : Nat :=
  10 * (match w with
    | .b => measure.toNat
    | .a => if state = .hold then recheck.toNat else settle.toNat)

theorem runningLength_a (s : State) : s.runningLength .a =
    if s.regulator.state = .hold then s.mgmt.params.item 28 else s.mgmt.params.item 26 := by
  unfold State.runningLength
  cases s.regulator.state <;> rfl

theorem runningLength_tuned (w : WindowId) : tenths ((s.tuned settle measure recheck).runningLength w) =
    tunedLength w s.regulator.state settle measure recheck := by
  rw [tenths, Nat.mul_comm]
  unfold tunedLength
  cases w with
  | b => exact congrArg (10 * ·) Params.item_tune_measure
  | a =>
    rw [runningLength_a, State.tuned, State.withMgmt_mgmt, Params.item_tune_recheck, Params.item_tune_settle]
    rfl

theorem adjustTimer_of_running {w : WindowId} {x : Timer} (h : s.regulator.window = some (w, x)) :
    adjustTimer (s.tuned settle measure recheck) = (s.tuned settle measure recheck).withRegulator { s.regulator with
      window := some (w, ⟨x.start, tunedLength w s.regulator.state settle measure recheck⟩) } := by
  have hw : (s.tuned settle measure recheck).regulator.window = some (w, x) := h
  rw [adjustTimer, hw, ← runningLength_tuned]
  rfl

theorem adjustTimer_of_stopped (h : s.regulator.window = none) :
    adjustTimer (s.tuned settle measure recheck) = s.tuned settle measure recheck := by
  have hw : (s.tuned settle measure recheck).regulator.window = none := h
  rw [adjustTimer, hw]

theorem expireIfDue_of_running {w : WindowId} {x : Timer} (h : s.regulator.window = some (w, x)) :
    expireIfDue s = if x.length ≤ x.elapsed s.partTime then windowEnds s else s := by
  rw [expireIfDue, h]
  simp only [Timer.due, decide_eq_true_iff]

theorem expireIfDue_of_stopped (h : s.regulator.window = none) : expireIfDue s = s := by rw [expireIfDue, h]

theorem settled_windowAEnds (h : s.settled) : (windowAEnds s).settled := by
  rw [State.settled, (touches_windowAEnds (T := touchCycle) (by decide) (.refl _ s)).guards (by decide)]
  exact h

/-- TUNE WINDOWS with good lengths. -/
theorem exec_tuneWindows (h : s.admits r .modifying inReadyOrRegulating)
    (hgood : lengthOk 26 settle && lengthOk 27 measure && lengthOk 28 recheck) :
    exec (.tuneWindows r settle measure recheck) s = .next (answer r 22 .done []
      (tuneLengths settle measure recheck (s.taken (.tuneWindows r settle measure recheck)))) := by
  rw [show exec (.tuneWindows r settle measure recheck) s = _ from live_serve_of_admits h, hgood]
  rfl

/-- Settles O43: the running timer with its new length, and what is due at once. -/
theorem windowsAreTuned : Obligations.WindowsAreTuned := by
  refine ⟨fun r settle measure recheck s h hbad => exec_refuses rfl h ?_,
    fun r settle measure recheck s h h1 h2 h3 h4 h5 h6 => ?_⟩
  · rw [Bool.eq_false_iff.mpr (mt lengthsOk_iff.mp hbad)]
    rfl
  have hgood := lengthsOk_iff.mpr ⟨h1, h2, h3, h4, h5, h6⟩
  have htaken : (s.taken (.tuneWindows r settle measure recheck)).settled := by rw [taken_eq h.settled]; exact h.settled
  have hregulator := taken_regulator (c := .tuneWindows r settle measure recheck) h.settled
  have htime : (s.taken (.tuneWindows r settle measure recheck)).partTime = s.partTime := by rw [taken_eq h.settled]; rfl
  dsimp only
  rw [exec_tuneWindows h hgood, ← taken_params (c := .tuneWindows r settle measure recheck), ← hregulator, ← htime]
  clear hregulator htime
  generalize s.taken (.tuneWindows r settle measure recheck) = t at htaken
  refine ⟨⟨Params.item_tune_settle, Params.item_tune_measure, Params.item_tune_recheck, fun k h26 h27 h28 =>
    Params.item_tune ⟨h26, h27, h28⟩⟩, fun hnone => ?_, fun w x hx => ⟨fun hlt => ?_, fun hle => ?_⟩⟩
  · rw [tuneLengths, ← State.tuned, adjustTimer_of_stopped hnone,
      expireIfDue_of_stopped (s := t.tuned settle measure recheck) hnone,
      settleWaiting_of_settled (s := t.tuned settle measure recheck) htaken]
    rfl
  · rw [tuneLengths, ← State.tuned, adjustTimer_of_running hx, expireIfDue_of_running rfl]
    refine congrArg (fun u => Host.Outcome.next (answer r 22 .done [] u)) ((congrArg settleWaiting (if_neg ?_)).trans
      (settleWaiting_of_settled htaken))
    exact Nat.not_le.mpr hlt
  · rw [tuneLengths, ← State.tuned, adjustTimer_of_running hx, expireIfDue_of_running rfl]
    refine congrArg (fun u => Host.Outcome.next (answer r 22 .done [] u)) ((congrArg settleWaiting (if_pos ?_)).trans ?_)
    · exact hle
    · cases w with
      | a => exact settleWaiting_of_settled (settled_windowAEnds htaken)
      | b => rfl

end Sys2Proof.Machine
end

section
/-! PROOF. Goals and moves: where a goal goes (O37), the holds (O40), and the timers of an exchange (O39). -/

namespace Sys2Proof.Machine

variable {s t : State} {r : Sender} {st : Setting} {g : Goal} {p : Params}

/-! ### The leg target -/

theorem Params.item_lt (p : Params) (k : Nat) : p.item k < 65536 := BitVec.isLt _

/-- A figure clamped to the global limits is a word. -/
theorem clamp_toNat (p : Params) (st : Setting) (x : Int) : ((BitVec.ofInt 16 (p.clamp st x)).toNat : Int) = p.clamp st x := by
  have hlo := p.item_lt st.num
  have hhi := p.item_lt (5 + st.num)
  have hrange : 0 ≤ p.clamp st x ∧ p.clamp st x < 65536 := by
    unfold Params.clamp clampInt Params.globalMin Params.globalMax
    split
    · omega
    · split <;> omega
  rw [BitVec.toNat_ofInt]
  omega

/-- The leg's end before it is clamped (R94 step 3). -/
def legEnd (aim : Int) (step : Nat) : Option Nat → Int
  | none => aim
  | some v => if step = 0 ∨ (aim - v).natAbs ≤ step then aim else if (v : Int) < aim then v + step else v - step

theorem legTarget_toNat (p : Params) (st : Setting) (goal : Nat) (start : Option Nat) :
    ((legTarget p st goal start).toNat : Int) = p.clamp st (legEnd (p.clamp st goal) (p.legStep st) start) := by
  rw [← clamp_toNat]
  cases start <;> rfl

theorem clamp_eq (h : p.item st.num ≤ p.item (5 + st.num)) (x : Int) :
    p.clamp st x = max (p.item st.num : Int) (min (p.item (5 + st.num) : Int) x) :=
  clampInt_eq_max_min (by exact_mod_cast h) x

/-! ### Where a goal goes -/

theorem goalKept_iff : s.goalKept st = true ↔
    (s.record st).manual = true ∨ (s.record st).state = .fault ∨ s.driveStation st = none := by
  rw [State.goalKept, Bool.or_eq_true, Bool.or_eq_true, decide_eq_true_iff, Option.isNone_iff_eq_none, or_assoc]

theorem giveGoal_of_kept (h : s.goalKept st = true) : giveGoal st g s = storeGoal st g s := if_pos h

theorem giveGoal_of_held (hfree : ¬ s.goalKept st = true) (h : g.source = .regulator ∧ s.groupHeld st = true) :
    giveGoal st g s = setRecord st { s.record st with deferred := some g.value } s := (if_neg hfree).trans (if_pos h)

theorem giveGoal_of_free (hfree : ¬ s.goalKept st = true) (h : ¬ (g.source = .regulator ∧ s.groupHeld st = true)) :
    giveGoal st g s = issueSet st (storeGoal st g s) := (if_neg hfree).trans (if_neg h)

theorem setRecord_setRecord (st : Setting) (a b : MoveRecord) (s : State) :
    setRecord st a (setRecord st b s) = setRecord st a s := by
  have hset (m : PerSetting MoveRecord) : (m.set st b).set st a = m.set st a := by cases st <;> rfl
  change (s.withMoves _) = s.withMoves _
  rw [setRecord, State.withMoves_moves, hset]

theorem startValue_eq (m : MoveRecord) : m.startValue =
    if (m.tracking = .locked ∨ m.tracking = .oneMissed) ∧ m.lastActual ≠ none then m.lastActual.map BitVec.toNat
    else m.leg.map BitVec.toNat := by
  unfold MoveRecord.startValue
  cases m.tracking <;> cases m.lastActual <;> cases m.leg <;> rfl

/-- The record of a setting after a SET is issued for a goal. -/
def State.issued (s : State) (st : Setting) (g : Goal) : MoveRecord :=
  { s.record st with
    state := .issued
    tag := (s.record st).tag + 1#4
    goal := some g
    leg := some (legTarget s.mgmt.params st g.value.toNat (s.record st).startValue)
    deferred := none
    resendUsed := false
    limited := false
    acceptTimer := some ⟨s.partTime, 20⟩
    moveTimer := none }

/-- A SET issued for a goal just stored. -/
theorem issueSet_storeGoal (st : Setting) (g : Goal) (s : State) :
    issueSet st (storeGoal st g s) = queueSet st (setRecord st (s.issued st g) s) := by
  have hrecord : (storeGoal st g s).record st = { s.record st with goal := some g, deferred := none } := by
    rw [storeGoal, setRecord_record, if_pos rfl]
  unfold issueSet
  rw [hrecord]
  dsimp only
  rw [storeGoal, setRecord_setRecord]
  rfl

theorem queueSet_setRecord {d : Byte} {m : MoveRecord} {leg : Word16} (hd : s.driveStation st = some d) (hleg : m.leg = some leg) :
    queueSet st (setRecord st m s) = queuePart (setFrame s.ownStation d st leg m.tag) (setRecord st m s) := by
  have hrecord : (setRecord st m s).record st = m := by rw [setRecord_record, if_pos rfl]
  have hstation : (setRecord st m s).driveStation st = some d := hd
  rw [queueSet, hrecord, hstation, hleg]
  rfl

/-- Settles O37: the leg target by cases of its start, and the branches of a goal given. -/
theorem aGoalIsKeptDeferredOrIssued : Obligations.AGoalIsKeptDeferredOrIssued := by
  refine ⟨fun p st goal start hle => ?_, fun st g s => ?_⟩
  · have hleg := legTarget_toNat p st goal start
    rw [clamp_eq hle, clamp_eq hle, Params.legStep] at hleg
    dsimp only
    generalize (legTarget p st goal start).toNat = leg at hleg
    cases start with
    | none =>
      rw [legEnd] at hleg
      exact ⟨by omega, by omega, fun _ => by omega, nofun, nofun, nofun⟩
    | some v =>
      rw [legEnd] at hleg
      refine ⟨by omega, by omega, fun h => ?_, fun x hx hup hdown => ?_, fun x hx hstep hlt => ?_, fun x hx hstep hlt => ?_⟩
      · rw [if_pos (.inl (h.resolve_left nofun))] at hleg
        omega
      · obtain rfl := Option.some.inj hx
        rw [if_pos (.inr (by omega))] at hleg
        omega
      · obtain rfl := Option.some.inj hx
        rw [if_neg (by omega), if_pos (by omega)] at hleg
        omega
      · obtain rfl := Option.some.inj hx
        rw [if_neg (by omega), if_neg (by omega)] at hleg
        omega
  · have hkept := goalKept_iff (s := s) (st := st)
    refine ⟨fun h => giveGoal_of_kept (hkept.mpr h), fun h hdef => giveGoal_of_held (mt hkept.mp h) hdef,
      fun h hdef d hd => ?_⟩
    rw [giveGoal_of_free (mt hkept.mp h) hdef, issueSet_storeGoal, queueSet_setRecord hd rfl, State.issued, startValue_eq]
    rfl

end Sys2Proof.Machine
end

section
/-! PROOF. Operations on one setting's record each, done for several settings in turn: each record is as the operation
on the first state leaves it; and with it the holds (O40). -/

namespace Sys2Proof.Machine

variable {s t : State} {T : List Block} {f : Setting → State → State}

/-! ### Operations on one record -/

/-- What an operation on one record reads of the state beside that record. -/
structure SameGround (s t : State) : Prop where
  roster : t.moves.roster = s.moves.roster
  heldThresh : t.moves.heldThresh = s.moves.heldThresh
  heldClean : t.moves.heldClean = s.moves.heldClean
  params : t.mgmt.params = s.mgmt.params
  partTime : t.partTime = s.partTime

/-- An operation for each setting that changes nothing of the move unit but the setting's record, and reads no other. -/
structure RecordOp (T : List Block) (f : Setting → State → State) : Prop where
  touches : ∀ st s, OnlyTouches T s (f st s)
  blocks : Block.mgmt ∉ T ∧ Block.partTime ∉ T
  moves : ∀ st s, (f st s).moves = { s.moves with records := s.moves.records.set st ((f st s).record st) }
  reads : ∀ st {s t}, SameGround s t → t.record st = s.record st → (f st t).record st = (f st s).record st

namespace RecordOp

variable (hf : RecordOp T f)
include hf

theorem record_other (st o : Setting) (h : o ≠ st) (s : State) : (f st s).record o = s.record o := by
  rw [State.record, hf.moves, PerSetting.get_set, if_neg h]
  rfl

theorem sameGround (st : Setting) (s : State) : SameGround s (f st s) where
  roster := by rw [hf.moves]
  heldThresh := by rw [hf.moves]
  heldClean := by rw [hf.moves]
  params := by rw [(hf.touches st s).mgmt hf.blocks.1]
  partTime := (hf.touches st s).partTime hf.blocks.2

/-- The operation done for several settings in turn. -/
theorem foldl {l : List Setting} (hl : l.Nodup) (s : State) : OnlyTouches T s (l.foldl (fun u st => f st u) s) ∧
    (l.foldl (fun u st => f st u) s).moves =
      { s.moves with records := (l.foldl (fun u st => f st u) s).moves.records } ∧
    ∀ o, (l.foldl (fun u st => f st u) s).record o = if o ∈ l then (f o s).record o else s.record o := by
  induction l generalizing s with
  | nil => exact ⟨.refl _ _, rfl, fun _ => rfl⟩
  | cons a as ih =>
    obtain ⟨hnotin, has⟩ := List.nodup_cons.mp hl
    obtain ⟨htouches, hmoves, hrecord⟩ := ih has (f a s)
    refine ⟨(hf.touches a s).trans htouches, hmoves.trans ?_, fun o => ?_⟩
    · rw [hf.moves a s]
      rfl
    · rw [List.foldl_cons, hrecord o]
      by_cases hoa : o = a
      · subst hoa
        rw [if_neg hnotin, if_pos List.mem_cons_self]
      · have hkept := hf.record_other a o hoa s
        have hmem : o ∈ a :: as ↔ o ∈ as := List.mem_cons.trans (or_iff_right hoa)
        simp only [hmem, hkept, hf.reads o (hf.sameGround a s) hkept]

end RecordOp

/-! ### The move unit's operations -/

theorem PerSetting.set_get {α : Type} (m : PerSetting α) (st : Setting) : m.set st (m.get st) = m := by cases st <;> rfl

theorem PerSetting.set_set {α : Type} (m : PerSetting α) (st : Setting) (a b : α) : (m.set st a).set st b = m.set st b := by
  cases st <;> rfl

theorem records_eq_self (st : Setting) (s : State) :
    s.moves = { s.moves with records := s.moves.records.set st (s.record st) } := by
  rw [State.record, PerSetting.set_get]

theorem recordOp_giveGoal (g : Setting → Goal) : RecordOp touchMoves (fun st s => giveGoal st (g st) s) where
  touches st s := touches_giveGoal (List.Subset.refl _) (.refl _ s) st _
  blocks := by decide
  moves st s := giveGoal_moves st (g st) s
  reads st {s t} h hr := giveGoal_record st (g st) s t h.roster h.heldThresh h.heldClean hr h.params h.partTime

theorem sameGround_setRecord {st : Setting} {m n : MoveRecord} (h : SameGround s t) :
    SameGround (setRecord st m s) (setRecord st n t) := ⟨h.roster, h.heldThresh, h.heldClean, h.params, h.partTime⟩

theorem releaseDeferred_of_some {st : Setting} {v : Word16} (h : (s.record st).deferred = some v) : releaseDeferred st s =
    giveGoal st ⟨v, .regulator⟩ (setRecord st { s.record st with deferred := none } s) := by rw [releaseDeferred, h]

theorem releaseDeferred_of_none {st : Setting} (h : (s.record st).deferred = none) : releaseDeferred st s = s := by
  rw [releaseDeferred, h]

theorem recordOp_releaseDeferred : RecordOp touchMoves releaseDeferred where
  touches st s := touches_releaseDeferred (List.Subset.refl _) (.refl _ s) st
  blocks := by decide
  moves st s := by
    cases h : (s.record st).deferred with
    | none =>
      rw [releaseDeferred_of_none h]
      exact records_eq_self st s
    | some v =>
      rw [releaseDeferred_of_some h, giveGoal_moves, setRecord, State.withMoves_moves, PerSetting.set_set]
  reads st {s t} h hr := by
    cases hd : (s.record st).deferred with
    | none => rw [releaseDeferred_of_none hd, releaseDeferred_of_none (hr ▸ hd), hr]
    | some v =>
      rw [releaseDeferred_of_some hd, releaseDeferred_of_some (hr ▸ hd)]
      exact (recordOp_giveGoal fun _ => ⟨v, .regulator⟩).reads st (sameGround_setRecord h) (by simp [hr])

theorem releaseDeferredOnce_of_some {st : Setting} {v : Word16} (h : (s.record st).deferred = some v) :
    releaseDeferredOnce st s = issueOverHold st v s := by rw [releaseDeferredOnce, h]

theorem releaseDeferredOnce_of_none {st : Setting} (h : (s.record st).deferred = none) : releaseDeferredOnce st s = s := by
  rw [releaseDeferredOnce, h]

/-- The record after a deferred goal passes over the hold. -/
theorem issueOverHold_moves (st : Setting) (v : Word16) (s : State) : (issueOverHold st v s).moves = { s.moves with
    records := s.moves.records.set st (if s.goalKept st = true
      then { s.record st with goal := some ⟨v, .regulator⟩, deferred := none } else s.issued st ⟨v, .regulator⟩) } := by
  unfold issueOverHold
  dsimp only
  split
  · rfl
  · rw [issueSet_storeGoal, queueSet_moves]
    rfl

theorem issueOverHold_record (st : Setting) (v : Word16) (s : State) : (issueOverHold st v s).record st =
    if s.goalKept st = true then { s.record st with goal := some ⟨v, .regulator⟩, deferred := none }
    else s.issued st ⟨v, .regulator⟩ := by rw [State.record, issueOverHold_moves, PerSetting.get_set, if_pos rfl]

theorem goalKept_eq_of_ground {st : Setting} (h : SameGround s t) (hr : t.record st = s.record st) :
    t.goalKept st = s.goalKept st := by
  rw [State.goalKept, State.goalKept, hr, State.driveStation, State.driveStation, h.roster]

theorem issued_eq_of_ground {st : Setting} {g : Goal} (h : SameGround s t) (hr : t.record st = s.record st) :
    t.issued st g = s.issued st g := by
  rw [State.issued, State.issued, hr, h.params, h.partTime]

theorem recordOp_releaseDeferredOnce : RecordOp touchMoves releaseDeferredOnce where
  touches st s := touches_releaseDeferredOnce (List.Subset.refl _) (.refl _ s) st
  blocks := by decide
  moves st s := by
    cases h : (s.record st).deferred with
    | none =>
      rw [releaseDeferredOnce_of_none h]
      exact records_eq_self st s
    | some v => rw [releaseDeferredOnce_of_some h, issueOverHold_record, issueOverHold_moves]
  reads st {s t} h hr := by
    cases hd : (s.record st).deferred with
    | none => rw [releaseDeferredOnce_of_none hd, releaseDeferredOnce_of_none (hr ▸ hd), hr]
    | some v =>
      rw [releaseDeferredOnce_of_some hd, releaseDeferredOnce_of_some (hr ▸ hd), issueOverHold_record, issueOverHold_record,
        goalKept_eq_of_ground h hr, issued_eq_of_ground h hr, hr]

/-! ### The masks of the groups -/

theorem Setting.nodup_all : Setting.all.Nodup := by decide

theorem nodup_selectedSettings (mask : Byte) : (selectedSettings mask).Nodup := Setting.nodup_all.filter _

theorem groupsOfMask_iff (mask : Byte) : ((groupsOfMask mask).1 = true ↔ mask = 0#8 ∨ mask.getLsbD 0 = true) ∧
    ((groupsOfMask mask).2 = true ↔ mask = 0#8 ∨ mask.getLsbD 1 = true) := by
  unfold groupsOfMask
  split
  · rename_i h
    exact ⟨iff_of_true rfl (.inl h), iff_of_true rfl (.inl h)⟩
  · rename_i h
    exact ⟨(or_iff_right h).symm, (or_iff_right h).symm⟩

theorem mem_selectedSettings {mask : Byte} {st : Setting} : st ∈ selectedSettings mask ↔
    (st.isThresh = true ∧ (mask = 0#8 ∨ mask.getLsbD 0 = true)) ∨
      (st.isThresh = false ∧ (mask = 0#8 ∨ mask.getLsbD 1 = true)) := by
  obtain ⟨hthresh, hclean⟩ := groupsOfMask_iff mask
  rw [selectedSettings, List.mem_filter, and_iff_right (Setting.mem_all st), ← hthresh, ← hclean]
  cases st.isThresh <;> simp

/-- The flags of the holds after a mask. -/
theorem setHeld_eq (mask : Byte) (held : Bool) (s : State) : setHeld mask held s = s.withMoves { s.moves with
    heldThresh := if mask = 0#8 ∨ mask.getLsbD 0 = true then held else s.moves.heldThresh
    heldClean := if mask = 0#8 ∨ mask.getLsbD 1 = true then held else s.moves.heldClean } := by
  obtain ⟨hthresh, hclean⟩ := groupsOfMask_iff mask
  unfold setHeld
  simp only [hthresh, hclean]

theorem groupHeld_setHeld {mask : Byte} {st : Setting} (h : st ∈ selectedSettings mask) (s : State) :
    (setHeld mask false s).groupHeld st = false := by
  rw [setHeld_eq, State.groupHeld]
  rcases mem_selectedSettings.mp h with ⟨hst, hmask⟩ | ⟨hst, hmask⟩
  · rw [hst, if_pos rfl]
    exact if_pos hmask
  · rw [hst, if_neg Bool.false_ne_true]
    exact if_pos hmask

/-! ### The requests -/

variable {r : Sender} {mask : Byte}

theorem taken_moves {c : Instr} (h : s.settled) : (s.taken c).moves = s.moves := by rw [taken_eq h]; rfl

theorem touches_taken {c : Instr} (h : s.settled) : OnlyTouches [.mgmt] s (s.taken c) := by
  rw [taken_eq h]
  exact touches_withMgmt (by decide) (.refl _ s) _

theorem badWhen_highBits : badWhen (!highBitsClear 2 mask) = if mask.toNat < 4 then none else some .badField := by
  have h := highBitsClear_iff 2 mask
  by_cases hlt : mask.toNat < 4
  · rw [h.mpr hlt, if_pos hlt]
    rfl
  · rw [Bool.eq_false_iff.mpr (mt h.mp hlt), if_neg hlt]
    rfl

theorem taken_ground {c : Instr} (h : s.settled) : SameGround s (s.taken c) := by
  rw [taken_eq h]
  exact ⟨rfl, rfl, rfl, rfl, rfl⟩

/-- What RELEASE ADJUST leaves. -/
theorem releaseGroups_spec (mask : Byte) (s : State) : OnlyTouches touchMoves s (releaseGroups mask s) ∧
    (releaseGroups mask s).moves.heldThresh = (setHeld mask false s).moves.heldThresh ∧
    (releaseGroups mask s).moves.heldClean = (setHeld mask false s).moves.heldClean ∧
    ∀ st, (releaseGroups mask s).record st = if st ∈ selectedSettings mask
      then (releaseDeferred st (setHeld mask false s)).record st else s.record st := by
  obtain ⟨htouches, hmoves, hrecord⟩ := recordOp_releaseDeferred.foldl (nodup_selectedSettings mask) (setHeld mask false s)
  exact ⟨.trans (touches_withMoves (by decide) (.refl _ s) _) htouches, (congrArg MoveUnit.heldThresh hmoves).trans rfl,
    (congrArg MoveUnit.heldClean hmoves).trans rfl, hrecord⟩

/-- What RELEASE ONCE leaves. -/
theorem releaseGoalsOnce_spec (mask : Byte) (s : State) : OnlyTouches touchMoves s (releaseGoalsOnce mask s) ∧
    (releaseGoalsOnce mask s).moves.heldThresh = s.moves.heldThresh ∧
    (releaseGoalsOnce mask s).moves.heldClean = s.moves.heldClean ∧
    ∀ st, (releaseGoalsOnce mask s).record st =
      if st ∈ selectedSettings mask then (releaseDeferredOnce st s).record st else s.record st := by
  obtain ⟨htouches, hmoves, hrecord⟩ := recordOp_releaseDeferredOnce.foldl (nodup_selectedSettings mask) s
  exact ⟨htouches, (congrArg MoveUnit.heldThresh hmoves).trans rfl, (congrArg MoveUnit.heldClean hmoves).trans rfl, hrecord⟩

/-- A deferred goal given again once its group is free. -/
theorem releaseDeferred_record {st : Setting} {v : Word16} (h : (s.record st).deferred = some v)
    (hfree : s.groupHeld st = false) : (releaseDeferred st s).record st = if s.goalKept st = true
      then { s.record st with goal := some ⟨v, .regulator⟩, deferred := none } else s.issued st ⟨v, .regulator⟩ := by
  have hrecord : (setRecord st { s.record st with deferred := none } s).record st = { s.record st with deferred := none } := by
    rw [setRecord_record, if_pos rfl]
  have hkept : (setRecord st { s.record st with deferred := none } s).goalKept st = s.goalKept st := by
    rw [State.goalKept, State.goalKept, hrecord]
    rfl
  rw [releaseDeferred_of_some h]
  by_cases hk : s.goalKept st = true
  · rw [giveGoal_of_kept (hkept.trans hk), if_pos hk, storeGoal, setRecord_record, if_pos rfl, hrecord]
  · have hheld : ¬ ((⟨v, .regulator⟩ : Goal).source = .regulator ∧
        (setRecord st { s.record st with deferred := none } s).groupHeld st = true) := fun hh =>
      Bool.false_ne_true (hfree.symm.trans hh.2)
    rw [giveGoal_of_free (by rw [hkept]; exact hk) hheld, issueSet_storeGoal, if_neg hk, State.record, queueSet_moves]
    change (setRecord st _ _).record st = _
    rw [setRecord_record, if_pos rfl, State.issued, hrecord]
    rfl

/-- Settles O40: the flags by the mask, and each selected record as the release of that record alone leaves it. -/
theorem holdsAreSetAndReleased : Obligations.HoldsAreSetAndReleased := by
  refine ⟨fun r mask s h hbig => ?_, fun r mask s h hmask => ?_⟩
  · have hbad : badWhen (!highBitsClear 2 mask) = some .badField := badWhen_highBits.trans (if_neg (Nat.not_lt.mpr hbig))
    exact ⟨exec_refuses rfl h (by rw [hbad]; rfl), exec_refuses rfl h (by rw [hbad]; rfl), exec_refuses rfl h (by rw [hbad]; rfl)⟩
  have hgood : badWhen (!highBitsClear 2 mask) = none := badWhen_highBits.trans (if_pos hmask)
  refine ⟨?_, ⟨releaseGroups mask (s.taken (.releaseAdjust r mask)), ?_, ?_⟩,
    ⟨releaseGoalsOnce mask (s.taken (.releaseOnce r mask)), ?_, ?_⟩⟩
  · rw [show exec (.holdAdjust r mask) s = _ from live_serve_of_admits h, hgood, refuseOr_none, setHeld_eq,
      taken_moves h.settled]
  · rw [show exec (.releaseAdjust r mask) s = _ from live_serve_of_admits h, hgood, refuseOr_none]
  · obtain ⟨htouches, hthresh, hclean, hrecord⟩ := releaseGroups_spec mask (s.taken (.releaseAdjust r mask))
    have hmoves := taken_moves (c := .releaseAdjust r mask) h.settled
    have hrec (st : Setting) : (s.taken (.releaseAdjust r mask)).record st = s.record st := by rw [State.record, hmoves]; rfl
    have hkept (st : Setting) := goalKept_eq_of_ground (taken_ground (c := .releaseAdjust r mask) h.settled) (hrec st)
    rw [setHeld_eq, State.withMoves_moves, hmoves] at hthresh hclean
    have hreleased {st : Setting} {v : Word16} (hchosen : st ∈ selectedSettings mask) (hdef : (s.record st).deferred = some v) :
        (releaseGroups mask (s.taken (.releaseAdjust r mask))).record st = if s.goalKept st = true
          then { s.record st with goal := some ⟨v, .regulator⟩, deferred := none }
          else (s.taken (.releaseAdjust r mask)).issued st ⟨v, .regulator⟩ := by
      rw [hrecord, if_pos hchosen, releaseDeferred_record (s := setHeld mask false (s.taken (.releaseAdjust r mask)))
        ((congrArg MoveRecord.deferred (hrec st)).trans hdef) (groupHeld_setHeld hchosen _)]
      change (if (s.taken (.releaseAdjust r mask)).goalKept st = true
        then { (s.taken (.releaseAdjust r mask)).record st with goal := some ⟨v, .regulator⟩, deferred := none } else _) = _
      rw [hkept, hrec]
      rfl
    refine ⟨hthresh, hclean, fun st hnot => ?_, fun st v hchosen hdef hfree => ?_, fun st v hchosen hdef hk => ?_,
      .trans ((touches_taken h.settled).mono (by decide)) (htouches.mono (by decide)), htouches.mgmt (by decide)⟩
    · rw [hrecord, ← hrec]
      rcases hnot with hnot | hnone
      · rw [if_neg (mt mem_selectedSettings.mp hnot)]
      · rw [releaseDeferred_of_none (by change ((s.taken (.releaseAdjust r mask)).record st).deferred = none; rw [hrec]; exact hnone)]
        exact ite_self _
    · rw [hreleased (mem_selectedSettings.mpr hchosen) hdef, hfree, if_neg Bool.false_ne_true, State.issued, hrec]
      exact ⟨rfl, rfl, rfl, rfl⟩
    · rw [hreleased (mem_selectedSettings.mpr hchosen) hdef, hk, if_pos rfl]
  · rw [show exec (.releaseOnce r mask) s = _ from live_serve_of_admits h, hgood, refuseOr_none]
  · obtain ⟨htouches, hthresh, hclean, hrecord⟩ := releaseGoalsOnce_spec mask (s.taken (.releaseOnce r mask))
    have hmoves := taken_moves (c := .releaseOnce r mask) h.settled
    have hrec (st : Setting) : (s.taken (.releaseOnce r mask)).record st = s.record st := by rw [State.record, hmoves]; rfl
    have hkept (st : Setting) := goalKept_eq_of_ground (taken_ground (c := .releaseOnce r mask) h.settled) (hrec st)
    refine ⟨by rw [hthresh, hmoves], by rw [hclean, hmoves], fun st hnot => ?_, fun st v hchosen hdef => ?_,
      .trans ((touches_taken h.settled).mono (by decide)) (htouches.mono (by decide)), htouches.mgmt (by decide)⟩
    · rw [hrecord, ← hrec]
      rcases hnot with hnot | hnone
      · rw [if_neg (mt mem_selectedSettings.mp hnot)]
      · rw [releaseDeferredOnce_of_none (by rw [hrec]; exact hnone), ite_self]
    · rw [hrecord, if_pos (mem_selectedSettings.mpr hchosen),
        releaseDeferredOnce_of_some ((congrArg MoveRecord.deferred (hrec st)).trans hdef), issueOverHold_record, hkept]
      cases hk : s.goalKept st with
      | true =>
        rw [if_pos rfl, hrec]
        exact ⟨rfl, rfl, nofun, fun _ => rfl⟩
      | false =>
        rw [if_neg Bool.false_ne_true, State.issued, hrec]
        exact ⟨rfl, rfl, fun _ => ⟨rfl, rfl⟩, nofun⟩

end Sys2Proof.Machine
end

section
/-! PROOF. How the regulator enters its states: FOLLOW, PAUSED and SAFE, and how SAFE is left; in whatever order the
handings come. -/

namespace Sys2Proof.Machine

variable {P Q : State → Prop} {s t u : State}

/-! ### One handing among others -/

/-- Among handings of which one makes `Q` of `P` and the others keep both, `Q` holds in the end. -/
theorem interleave_once {chains : List (List Handing)} {g : Handing} {rest : List Handing}
    (hflat : chains.flatten.Perm (g :: rest)) (start : ∀ o, P (s.withOrder o)) (keepP : ∀ h ∈ rest, ∀ t, P t → P (h t))
    (makes : ∀ t, P t → Q (g t)) (keepQ : ∀ h ∈ rest, ∀ t, Q t → Q (h t)) : Q (interleave chains s) := by
  have hperm := (mergeChains_perm chains.flatten.length s.order chains (Nat.le_refl _)).trans hflat
  unfold interleave
  dsimp only
  have hstart := start (mergeChains chains.flatten.length s.order chains).2
  generalize (mergeChains chains.flatten.length s.order chains).1 = l at hperm
  generalize s.withOrder (mergeChains chains.flatten.length s.order chains).2 = t at hstart
  obtain ⟨l₁, l₂, rfl⟩ := List.append_of_mem (hperm.mem_iff.mpr List.mem_cons_self)
  have hrest : (l₁ ++ l₂).Perm rest := (List.perm_middle.symm.trans hperm).cons_inv
  have hkeep {K : State → Prop} (hK : ∀ h ∈ rest, ∀ t, K t → K (h t)) (l : List Handing) (t : State)
      (hl : ∀ h ∈ l, h ∈ rest) (ht : K t) : K (l.foldl (fun t h => h t) t) := by
    induction l generalizing t with
    | nil => exact ht
    | cons h hs ih =>
      exact ih _ (fun h hh => hl h (List.mem_cons_of_mem _ hh)) (hK h (hl h List.mem_cons_self) t ht)
  rw [List.foldl_append, List.foldl_cons]
  refine hkeep keepQ l₂ _ (fun h hh => hrest.mem_iff.mp (List.mem_append_right _ hh)) (makes _ ?_)
  exact hkeep keepP l₁ _ (fun h hh => hrest.mem_iff.mp (List.mem_append_left _ hh)) hstart

/-- A handing that is not ordered with the picture: the picture comes before it or after it. -/
theorem interleave_publish (g : Handing) (s : State) : ∃ u, OnlyTouches [.pictures, .order] s u ∧
    OnlyTouches [.pictures] (g u) (interleave [[publish], [g]] s) := by
  rcases interleave_pair publish g s with h | h
  · exact ⟨_, touches_publish (by decide) (touches_withOrder (by decide) (.refl _ s) _), by rw [h]; exact .refl _ _⟩
  · exact ⟨_, touches_withOrder (by decide) (.refl _ s) _, by rw [h]; exact touches_publish (by decide) (.refl _ _)⟩

/-! ### What the handings read -/

theorem sameGround_of_touches {T : List Block} (h : OnlyTouches T s t) (hm : Block.mgmt ∉ T ∧ Block.partTime ∉ T ∧ Block.moves ∉ T) :
    SameGround s t := by
  obtain ⟨hmgmt, htime, hmoves⟩ := hm
  exact ⟨by rw [h.moves hmoves], by rw [h.moves hmoves], by rw [h.moves hmoves], by rw [h.mgmt hmgmt], h.partTime htime⟩

/-- The notices after one is raised depend on the notices, the parameters and the time. -/
theorem notices_raiseNotice_congr {kind : NoticeKind} {subject : Nat} {detail : Word16} (hn : t.notices = s.notices)
    (hp : t.mgmt.params = s.mgmt.params) (ht : t.partTime = s.partTime) :
    (raiseNotice kind subject detail t).notices = (raiseNotice kind subject detail s).notices := by
  by_cases henabled : s.mgmt.params.classEnables.testBit kind.classBit = true
  · by_cases hfull : s.notices.held = 31
    · rw [raiseNotice_of_full henabled hfull, raiseNotice_of_full (hp ▸ henabled) (hn ▸ hfull), State.withNotices_notices,
        State.withNotices_notices, hn]
    · rw [raiseNotice_notices henabled hfull, raiseNotice_notices (hp ▸ henabled) (hn ▸ hfull), hn, State.notice,
        State.notice, ht]
  · rw [Bool.not_eq_true] at henabled
    rw [raiseNotice_of_disabled henabled, raiseNotice_of_disabled (hp ▸ henabled), hn]

theorem safeOut_raiseNotice (kind : NoticeKind) (subject : Nat) (detail : Word16) (s : State) :
    (raiseNotice kind subject detail s).pins.safeOut = s.pins.safeOut := by
  by_cases henabled : s.mgmt.params.classEnables.testBit kind.classBit = true
  · by_cases hfull : s.notices.held = 31
    · rw [raiseNotice_of_full henabled hfull]
      rfl
    · rw [raiseNotice_pins henabled hfull]
  · rw [Bool.not_eq_true] at henabled
    rw [raiseNotice_of_disabled henabled]

/-! ### The target set -/

theorem recordOp_giveTarget (v : Setting → Word16) :
    RecordOp [.regulator, .moves, .link] (fun st s => giveTarget st (v st) s) where
  touches st s := touches_giveGoal (by decide) (touches_withRegulator (by decide) (.refl _ s) _) _ _
  blocks := by decide
  moves st s := giveGoal_moves _ _ _
  reads st {s t} h hr := giveGoal_record st ⟨v st, .regulator⟩ _ _ h.roster h.heldThresh h.heldClean hr h.params h.partTime

theorem giveTarget_regulator (st : Setting) (v : Word16) (s : State) : (giveTarget st v s).regulator =
    { s.regulator with targets := s.regulator.targets.set st (some v) } :=
  (touches_giveGoal (T := touchMoves) (by decide) (.refl _ _) _ _).regulator (by decide)

/-- Targets given for several settings in turn. -/
theorem giveTarget_foldl (v : Setting → Word16) (l : List Setting) (s : State) :
    (l.foldl (fun u st => giveTarget st (v st) u) s).regulator =
      { s.regulator with targets := (l.foldl (fun u st => giveTarget st (v st) u) s).regulator.targets } ∧
    ∀ o, (l.foldl (fun u st => giveTarget st (v st) u) s).regulator.targets.get o =
      if o ∈ l then some (v o) else s.regulator.targets.get o := by
  induction l generalizing s with
  | nil => exact ⟨rfl, fun _ => rfl⟩
  | cons a as ih =>
    obtain ⟨hreg, htargets⟩ := ih (giveTarget a (v a) s)
    refine ⟨hreg.trans (by rw [giveTarget_regulator]; rfl), fun o => ?_⟩
    rw [List.foldl_cons, htargets, giveTarget_regulator, PerSetting.get_set]
    by_cases hoa : o = a
    · subst hoa
      simp
    · have hmem : o ∈ a :: as ↔ o ∈ as := List.mem_cons.trans (or_iff_right hoa)
      simp only [hmem, if_neg hoa]

/-- The effective targets of the adopted cell, given from DRUM to FAN. -/
theorem giveTargets_of_cell {c : CellRecord} (hc : s.cellInUse = some c) : giveTargets s = Setting.all.foldl
    (fun u st => giveTarget st (effectiveTarget s.mgmt.params s.activeBank c s.classifier.adopted.side st) u) s := by
  rw [giveTargets, hc]

/-- What the regulator leaves when it gives the effective targets. -/
structure TargetsGiven (s t : State) : Prop where
  touches : OnlyTouches [.regulator, .moves, .link] s t
  regulator : t.regulator = { s.regulator with targets := t.regulator.targets }
  moves : t.moves = { s.moves with records := t.moves.records }
  given : ∀ c, s.cellInUse = some c → ∀ st,
    t.regulator.targets.get st = some (effectiveTarget s.mgmt.params s.activeBank c s.classifier.adopted.side st) ∧
    t.record st = (giveGoal st ⟨effectiveTarget s.mgmt.params s.activeBank c s.classifier.adopted.side st, .regulator⟩ s).record st

theorem giveTarget_record (st : Setting) (v : Word16) (s : State) :
    (giveTarget st v s).record st = (giveGoal st ⟨v, .regulator⟩ s).record st :=
  giveGoal_record st _ s _ rfl rfl rfl rfl rfl rfl

theorem targetsGiven_giveTargets (s : State) : TargetsGiven s (giveTargets s) := by
  cases hc : s.cellInUse with
  | none =>
    rw [giveTargets, hc]
    exact ⟨.refl _ _, rfl, rfl, fun c h => nomatch hc.symm.trans h⟩
  | some c =>
    rw [giveTargets_of_cell hc]
    obtain ⟨htouches, hmoves, hrecord⟩ := (recordOp_giveTarget
      (effectiveTarget s.mgmt.params s.activeBank c s.classifier.adopted.side)).foldl Setting.nodup_all s
    obtain ⟨hreg, htargets⟩ := giveTarget_foldl
      (effectiveTarget s.mgmt.params s.activeBank c s.classifier.adopted.side) Setting.all s
    refine ⟨htouches, hreg, hmoves, fun c' hc' st => ?_⟩
    obtain rfl := Option.some.inj (hc.symm.trans hc')
    exact ⟨(htargets st).trans (if_pos (Setting.mem_all st)),
      ((hrecord st).trans (if_pos (Setting.mem_all st))).trans (giveTarget_record _ _ _)⟩

/-! ### FOLLOW -/

/-- What entering FOLLOW leaves, from whatever state. -/
structure FollowEntered (keepEpisode : Bool) (s t : State) : Prop where
  regulator : t.regulator = { s.regulator with
    state := if t.allSettled then .settle else .follow
    window := if t.allSettled then some (.a, ⟨s.partTime, s.mgmt.params.item 26 * 10⟩) else none
    targets := t.regulator.targets
    cursor := if keepEpisode then s.regulator.cursor else 0
    exhausted := if keepEpisode then s.regulator.exhausted else false
    baseline := none
    trial := none }
  given : ∀ c, s.cellInUse = some c → ∀ st,
    t.regulator.targets.get st = some (effectiveTarget s.mgmt.params s.activeBank c s.classifier.adopted.side st) ∧
    t.record st = (giveGoal st ⟨effectiveTarget s.mgmt.params s.activeBank c s.classifier.adopted.side st, .regulator⟩ s).record st
  moves : t.moves = { s.moves with records := t.moves.records }
  channels : t.channels = { s.channels with gate := false }
  touches : OnlyTouches [.regulator, .channels, .moves, .link, .pictures, .order] s t

theorem allSettled_of_moves (h : t.moves = s.moves) : t.allSettled = s.allSettled := by
  unfold State.allSettled State.record
  rw [h]

theorem touches_abandonCycle_own (s : State) : OnlyTouches [.regulator, .channels] s (abandonCycle s) :=
  touches_withRegulator (by decide) (touches_withChannels (by decide) (.refl _ s) _) _

/-- What the regulator gives depends on the parameters, the map, the classes and the keep on its way. -/
theorem cellInUse_of_touches {T : List Block} (h : OnlyTouches T s t)
    (hT : Block.mgmt ∉ T ∧ Block.map ∉ T ∧ Block.classifier ∉ T ∧ Block.keep ∉ T) : t.cellInUse = s.cellInUse := by
  unfold State.cellInUse State.activeBank State.adoptedCell
  rw [h.mgmt hT.1, h.map hT.2.1, h.classifier hT.2.2.1, h.keep hT.2.2.2]

theorem enterSettle_regulator (s : State) : (enterSettle s).regulator = { s.regulator with
    state := .settle, window := some (.a, ⟨s.partTime, s.mgmt.params.item 26 * 10⟩) } := rfl

theorem enterFollow_entered (keepEpisode : Bool) (s : State) : FollowEntered keepEpisode s (enterFollow keepEpisode s) := by
  have hrest : OnlyTouches [.regulator, .channels] s
      ((abandonCycle s).withRegulator ((abandonCycle s).regulator.follow keepEpisode)) :=
    touches_withRegulator (by decide) (touches_abandonCycle_own s) _
  have hregulator : ((abandonCycle s).withRegulator ((abandonCycle s).regulator.follow keepEpisode)).regulator =
      { s.regulator with
        state := .follow
        window := none
        cursor := if keepEpisode then s.regulator.cursor else 0
        exhausted := if keepEpisode then s.regulator.exhausted else false
        baseline := none
        trial := none } := rfl
  have hchannels : ((abandonCycle s).withRegulator ((abandonCycle s).regulator.follow keepEpisode)).channels =
      { s.channels with gate := false } := rfl
  unfold enterFollow
  dsimp only
  generalize (abandonCycle s).withRegulator ((abandonCycle s).regulator.follow keepEpisode) = s₁ at hrest hregulator hchannels
  obtain ⟨u, hu, ht⟩ := interleave_publish giveTargets s₁
  have hg := targetsGiven_giveTargets u
  generalize interleave [[publish], [giveTargets]] s₁ = t at ht
  have hsu : OnlyTouches [.regulator, .channels, .pictures, .order] s u := (hrest.mono (by decide)).trans (hu.mono (by decide))
  have htouches : OnlyTouches [.regulator, .channels, .moves, .link, .pictures, .order] s t :=
    ((hsu.mono (by decide)).trans (hg.touches.mono (by decide))).trans (ht.mono (by decide))
  have hreg : t.regulator = { s₁.regulator with targets := t.regulator.targets } := by
    rw [ht.regulator (by decide)]
    exact hg.regulator.trans (by rw [hu.regulator (by decide)])
  have hmoves : t.moves = { s.moves with records := t.moves.records } := by
    rw [ht.moves (by decide)]
    exact hg.moves.trans (by rw [hsu.moves (by decide)])
  have hgiven : ∀ c, s.cellInUse = some c → ∀ st,
      t.regulator.targets.get st = some (effectiveTarget s.mgmt.params s.activeBank c s.classifier.adopted.side st) ∧
      t.record st =
        (giveGoal st ⟨effectiveTarget s.mgmt.params s.activeBank c s.classifier.adopted.side st, .regulator⟩ s).record st := by
    intro c hc st
    have hground := sameGround_of_touches hsu (by decide)
    obtain ⟨htarget, hrecord⟩ := hg.given c ((cellInUse_of_touches hsu (by decide)).trans hc) st
    have hbank : u.activeBank = s.activeBank := by rw [State.activeBank, State.activeBank, hsu.map (by decide)]
    rw [hground.params, hbank, hsu.classifier (by decide)] at htarget hrecord
    refine ⟨by rw [ht.regulator (by decide), htarget], ?_⟩
    rw [State.record, ht.moves (by decide)]
    exact hrecord.trans ((recordOp_giveGoal fun _ => ⟨_, .regulator⟩).reads st hground (by rw [State.record, hsu.moves (by decide)]; rfl))
  have hchannels' : t.channels = { s.channels with gate := false } := by
    rw [ht.channels (by decide), hg.touches.channels (by decide), hu.channels (by decide), hchannels]
  cases hall : t.allSettled with
  | true =>
    rw [if_pos rfl]
    have hkept : OnlyTouches [.regulator, .pictures] t (enterSettle t) :=
      touches_publish (by decide) (touches_withRegulator (by decide) (.refl _ t) _)
    have hsettled : (enterSettle t).allSettled = true := (allSettled_of_moves (hkept.moves (by decide))).trans hall
    refine ⟨?_, hgiven, hmoves, hchannels', htouches.trans (hkept.mono (by decide))⟩
    rw [hsettled, enterSettle_regulator, hreg, hregulator, htouches.partTime (by decide), htouches.mgmt (by decide)]
    rfl
  | false =>
    rw [if_neg Bool.false_ne_true]
    refine ⟨?_, hgiven, hmoves, hchannels', htouches⟩
    rw [hall, hreg, hregulator]
    rfl

/-! ### SAFE left -/

/-- What leaving SAFE leaves; outside SAFE, the state itself. -/
structure SafeLeft (next : RegState) (s t : State) : Prop where
  regulator : t.regulator = { s.regulator with
    state := if s.regulator.state = .safe then next else s.regulator.state
    safeCause := s.regulator.causeOutsideSafe }
  left : s.leftSafe t next
  touches : OnlyTouches [.regulator, .pins, .notices, .link] s t

theorem leaveSafe_left (next : RegState) (s : State) : SafeLeft next s (leaveSafe next s) := by
  unfold leaveSafe
  by_cases hsafe : s.regulator.state = .safe
  · rw [if_pos hsafe]
    dsimp only
    have htouches : OnlyTouches [.regulator, .pins] s (driveSafeOut false (s.withRegulator { s.regulator with
        state := next, safeCause := none })) := touches_withPins (by decide) (touches_withRegulator (by decide) (.refl _ s) _) _
    refine ⟨?_, ?_, touches_raiseNotice (by decide) (htouches.mono (by decide)) _ _ _⟩
    · rw [(touches_raiseNotice (T := touchNotices) (by decide) (.refl _ _) _ _ _).regulator (by decide), if_pos hsafe,
        Regulator.causeOutsideSafe, if_pos hsafe]
      rfl
    · rw [State.leftSafe, if_pos hsafe, safeOut_raiseNotice]
      exact ⟨rfl, notices_raiseNotice_congr rfl rfl rfl⟩
  · rw [if_neg hsafe]
    refine ⟨?_, ?_, .refl _ s⟩
    · rw [if_neg hsafe, Regulator.causeOutsideSafe, if_neg hsafe]
    · rw [State.leftSafe, if_neg hsafe]
      exact ⟨rfl, rfl⟩

/-- FOLLOW entered from the cycle, from PAUSED or from SAFE, in a new episode. -/
theorem followed_enterFollow (s : State) : s.followed (enterFollow false (leaveSafe .follow s)) 0 false := by
  have hleft := leaveSafe_left .follow s
  generalize leaveSafe .follow s = u at hleft
  have hentered := enterFollow_entered false u
  generalize enterFollow false u = t at hentered
  have hground := sameGround_of_touches hleft.touches (by decide)
  refine ⟨?_, fun c hc st => ?_, ?_, ?_, ?_, (hleft.touches.mono (by decide)).trans (hentered.touches.mono (by decide))⟩
  · rw [hentered.regulator, hleft.regulator, hground.params, hground.partTime]
    rfl
  · obtain ⟨htarget, hrecord⟩ := hentered.given c ((cellInUse_of_touches hleft.touches (by decide)).trans hc) st
    have hbank : u.activeBank = s.activeBank := by rw [State.activeBank, State.activeBank, hleft.touches.map (by decide)]
    rw [hground.params, hbank, hleft.touches.classifier (by decide)] at htarget hrecord
    exact ⟨htarget, hrecord.trans ((recordOp_giveGoal fun _ => ⟨_, .regulator⟩).reads st hground
      (by rw [State.record, hleft.touches.moves (by decide)]; rfl))⟩
  · rw [← hleft.touches.moves (by decide)]
    exact hentered.moves
  · rw [← hleft.touches.channels (by decide)]
    exact hentered.channels
  · have hl := hleft.left
    unfold State.leftSafe at hl ⊢
    rw [hentered.touches.pins (by decide), hentered.touches.notices (by decide)]
    exact hl

/-! ### PAUSED -/

theorem giveGoal_moves_congr {st : Setting} {g : Goal} (hm : t.moves = s.moves) (hp : t.mgmt.params = s.mgmt.params)
    (ht : t.partTime = s.partTime) : (giveGoal st g t).moves = (giveGoal st g s).moves := by
  have hrecord := giveGoal_record st g s t (by rw [hm]) (by rw [hm]) (by rw [hm]) (by rw [State.record, hm]; rfl) hp ht
  rw [giveGoal_moves, giveGoal_moves st g s, hrecord, hm]

/-- PAUSED entered without the concave release target. -/
theorem pausedBy_enterPaused (s : State) : s.pausedBy (enterPaused (leaveSafe .paused s)) false := by
  have hleft := leaveSafe_left .paused s
  generalize leaveSafe .paused s = u at hleft
  have htouches : OnlyTouches [.regulator, .channels, .pictures] u (enterPaused u) :=
    touches_publish (by decide) (touches_withRegulator (by decide) ((touches_abandonCycle_own u).mono (by decide)) _)
  refine ⟨?_, ?_, ?_, ?_, (hleft.touches.mono (by decide)).trans (htouches.mono (by decide))⟩
  · change { u.regulator with state := .paused, window := none, trial := none } = _
    rw [hleft.regulator]
  · rw [htouches.moves (by decide), hleft.touches.moves (by decide), if_neg Bool.false_ne_true]
  · rw [← hleft.touches.channels (by decide)]
    rfl
  · have hl := hleft.left
    unfold State.leftSafe at hl ⊢
    rw [htouches.pins (by decide), htouches.notices (by decide)]
    exact hl

/-- PAUSED entered with the concave release target given as a GUARD goal. -/
theorem pausedBy_enterPausedOpen (s : State) : s.pausedBy (enterPausedOpen (leaveSafe .paused s)) true := by
  have hleft := leaveSafe_left .paused s
  unfold enterPausedOpen
  generalize leaveSafe .paused s = u at hleft
  have hstart : OnlyTouches [.regulator, .channels] u ((abandonCycle u).withRegulator
      { (abandonCycle u).regulator with state := .paused }) := touches_withRegulator (by decide) (touches_abandonCycle_own u) _
  have hregulator : ((abandonCycle u).withRegulator { (abandonCycle u).regulator with state := .paused }).regulator =
      { u.regulator with state := .paused, window := none, trial := none } := rfl
  have hchannels : ((abandonCycle u).withRegulator { (abandonCycle u).regulator with state := .paused }).channels =
      { u.channels with gate := false } := rfl
  dsimp only
  generalize (abandonCycle u).withRegulator { (abandonCycle u).regulator with state := .paused } = u₁ at hstart hregulator hchannels
  obtain ⟨v, hv, ht⟩ := interleave_publish releaseConcave u₁
  have hgoal : OnlyTouches touchMoves v (releaseConcave v) := touches_giveGoal (by decide) (.refl _ v) _ _
  have hsv : OnlyTouches [.regulator, .pins, .notices, .link, .channels, .pictures, .order] s v :=
    ((hleft.touches.mono (by decide)).trans (hstart.mono (by decide))).trans (hv.mono (by decide))
  refine ⟨?_, ?_, ?_, ?_, ((hsv.mono (by decide)).trans (hgoal.mono (by decide))).trans (ht.mono (by decide))⟩
  · rw [ht.regulator (by decide), hgoal.regulator (by decide), hv.regulator (by decide), hregulator, hleft.regulator]
  · rw [ht.moves (by decide), if_pos rfl, releaseConcave, hsv.mgmt (by decide)]
    exact giveGoal_moves_congr (hsv.moves (by decide)) (by rw [hsv.mgmt (by decide)]) (hsv.partTime (by decide))
  · rw [ht.channels (by decide), hgoal.channels (by decide), hv.channels (by decide), hchannels, hleft.touches.channels (by decide)]
  · have hl := hleft.left
    unfold State.leftSafe at hl ⊢
    rw [ht.pins (by decide), hgoal.pins (by decide), hv.pins (by decide), hstart.pins (by decide), ht.notices (by decide),
      hgoal.notices (by decide), hv.notices (by decide), hstart.notices (by decide)]
    exact hl

/-! ### SAFE entered -/

/-- A value of a substitute set given as a GUARD goal. -/
def giveValue (values : PerSetting (Option Word16)) (st : Setting) (s : State) : State :=
  match values.get st with
  | some v => giveGoal st ⟨v, .guard⟩ s
  | none => s

theorem recordOp_giveValue (values : PerSetting (Option Word16)) : RecordOp touchMoves (giveValue values) where
  touches st s := by
    unfold giveValue
    split
    · exact touches_giveGoal (List.Subset.refl _) (.refl _ s) _ _
    · exact .refl _ s
  blocks := by decide
  moves st s := by
    unfold giveValue
    split
    · exact giveGoal_moves _ _ _
    · exact records_eq_self st s
  reads st {s t} h hr := by
    unfold giveValue
    split
    · exact (recordOp_giveGoal fun _ => _).reads st h hr
    · exact hr

/-- The substitute goals are those of the set as it stands at the first of them. -/
theorem giveSubstitutes_eq (s : State) :
    giveSubstitutes s = Setting.all.foldl (fun u st => giveValue s.safe.substitute.values st u) s := by
  have hfold (l : List Setting) (u : State) (hu : u.safe = s.safe) : l.foldl (fun u st => giveSubstitute st u) u =
      l.foldl (fun u st => giveValue s.safe.substitute.values st u) u := by
    induction l generalizing u with
    | nil => rfl
    | cons a as ih =>
      have hstep : giveSubstitute a u = giveValue s.safe.substitute.values a u := by
        rw [← hu]
        rfl
      rw [List.foldl_cons, List.foldl_cons, hstep]
      exact ih _ (((recordOp_giveValue s.safe.substitute.values).touches a u).safe (by decide) |>.trans hu)
  exact hfold Setting.all s rfl

/-- What giving the substitute set leaves. -/
theorem giveSubstitutes_given (s : State) : OnlyTouches touchMoves s (giveSubstitutes s) ∧
    (giveSubstitutes s).moves = { s.moves with records := (giveSubstitutes s).moves.records } ∧
    ∀ st, (giveSubstitutes s).record st = (giveValue s.safe.substitute.values st s).record st := by
  rw [giveSubstitutes_eq]
  obtain ⟨htouches, hmoves, hrecord⟩ := (recordOp_giveValue s.safe.substitute.values).foldl Setting.nodup_all s
  exact ⟨htouches, hmoves, fun st => (hrecord st).trans (if_pos (Setting.mem_all st))⟩

/-- SAFE entered with a cause, in whatever order the picture, the goals and the notice come. -/
theorem safeEntered_enterSafe (cause : SafeCause) (s : State) : s.safeEntered (enterSafe cause s) cause := by
  have hstart : OnlyTouches [.regulator, .channels, .pins] s (driveSafeOut true ((abandonCycle s).withRegulator
      { (abandonCycle s).regulator with state := .safe, safeCause := some cause })) :=
    touches_withPins (by decide) (touches_withRegulator (by decide) ((touches_abandonCycle_own s).mono (by decide)) _) _
  have hregulator : (driveSafeOut true ((abandonCycle s).withRegulator { (abandonCycle s).regulator with
      state := .safe, safeCause := some cause })).regulator =
      { s.regulator with state := .safe, safeCause := some cause, window := none, trial := none } := rfl
  have hchannels : (driveSafeOut true ((abandonCycle s).withRegulator { (abandonCycle s).regulator with
      state := .safe, safeCause := some cause })).channels = { s.channels with gate := false } := rfl
  have hpins : (driveSafeOut true ((abandonCycle s).withRegulator { (abandonCycle s).regulator with
      state := .safe, safeCause := some cause })).pins.safeOut = true := rfl
  unfold enterSafe
  dsimp only
  generalize driveSafeOut true ((abandonCycle s).withRegulator { (abandonCycle s).regulator with
      state := .safe, safeCause := some cause }) = u at hstart hregulator hchannels hpins
  have hall : OnlyTouches [.pictures, .moves, .link, .notices, .pins, .order] u
      (interleave [[publish], [giveSubstitutes], [raiseSafeEntered cause]] u) := by
    refine touches_interleave (by decide) (.refl _ u) ?_
    simp only [List.mem_cons, List.not_mem_nil, or_false, forall_eq_or_imp, forall_eq]
    exact ⟨fun _ h => touches_publish (by decide) h, fun _ h => h.trans ((giveSubstitutes_given _).1.mono (by decide)),
      fun _ h => touches_raiseNotice (by decide) h _ _ _⟩
  have hgiven : (interleave [[publish], [giveSubstitutes], [raiseSafeEntered cause]] u).moves =
        { s.moves with records := (interleave [[publish], [giveSubstitutes], [raiseSafeEntered cause]] u).moves.records } ∧
      ∀ st, (interleave [[publish], [giveSubstitutes], [raiseSafeEntered cause]] u).record st =
        (giveValue s.safe.substitute.values st s).record st := by
    refine interleave_once (P := fun v => OnlyTouches [.pictures, .notices, .pins, .link, .order] u v)
      (Q := fun v => v.moves = { s.moves with records := v.moves.records } ∧
        ∀ st, v.record st = (giveValue s.safe.substitute.values st s).record st)
      (g := giveSubstitutes) (rest := [publish, raiseSafeEntered cause]) (List.Perm.swap _ _ _)
      (fun o => touches_withOrder (by decide) (.refl _ u) o) ?_ (fun v hv => ?_) ?_
    · simp only [List.mem_cons, List.not_mem_nil, or_false, forall_eq_or_imp, forall_eq]
      exact ⟨fun _ h => touches_publish (by decide) h, fun _ h => touches_raiseNotice (by decide) h _ _ _⟩
    · obtain ⟨-, hmoves, hrecord⟩ := giveSubstitutes_given v
      have hsv : OnlyTouches [.regulator, .channels, .pictures, .notices, .pins, .link, .order] s v :=
        (hstart.mono (by decide)).trans (hv.mono (by decide))
      refine ⟨hmoves.trans (by rw [hsv.moves (by decide)]), fun st => ?_⟩
      rw [hrecord, hsv.safe (by decide)]
      exact (recordOp_giveValue _).reads st (sameGround_of_touches hsv (by decide)) (by rw [State.record, hsv.moves (by decide)]; rfl)
    · have hkeep {v w : State} (hw : w.moves = v.moves) (h : v.moves = { s.moves with records := v.moves.records } ∧
          ∀ st, v.record st = (giveValue s.safe.substitute.values st s).record st) :
          w.moves = { s.moves with records := w.moves.records } ∧
          ∀ st, w.record st = (giveValue s.safe.substitute.values st s).record st := by
        unfold State.record at *
        rw [hw]
        exact h
      simp only [List.mem_cons, List.not_mem_nil, or_false, forall_eq_or_imp, forall_eq]
      exact ⟨fun v => hkeep rfl, fun v => hkeep
        ((touches_raiseNotice (T := touchNotices) (by decide) (.refl _ v) _ _ _).moves (by decide))⟩
  have hnotices : (interleave [[publish], [giveSubstitutes], [raiseSafeEntered cause]] u).notices =
      (raiseSafeEntered cause s).notices := by
    refine interleave_once (P := fun v => OnlyTouches [.pictures, .moves, .link, .order] u v)
      (Q := fun v => v.notices = (raiseSafeEntered cause s).notices)
      (g := raiseSafeEntered cause) (rest := [publish, giveSubstitutes]) ?_
      (fun o => touches_withOrder (by decide) (.refl _ u) o) ?_ (fun v hv => ?_) ?_
    · exact ((List.Perm.swap _ _ []).cons _).trans (.swap _ _ _)
    · simp only [List.mem_cons, List.not_mem_nil, or_false, forall_eq_or_imp, forall_eq]
      exact ⟨fun _ h => touches_publish (by decide) h, fun _ h => h.trans ((giveSubstitutes_given _).1.mono (by decide))⟩
    · have hsv : OnlyTouches [.regulator, .channels, .pictures, .moves, .pins, .link, .order] s v :=
        (hstart.mono (by decide)).trans (hv.mono (by decide))
      rw [raiseSafeEntered, raiseSafeEntered, hsv.safe (by decide)]
      exact notices_raiseNotice_congr (hsv.notices (by decide)) (by rw [hsv.mgmt (by decide)]) (hsv.partTime (by decide))
    · simp only [List.mem_cons, List.not_mem_nil, or_false, forall_eq_or_imp, forall_eq]
      exact ⟨fun v h => h, fun v h => ((giveSubstitutes_given v).1.notices (by decide)).trans h⟩
  refine ⟨?_, fun st => ?_, hgiven.1, ?_, hnotices, ?_, (hstart.mono (by decide)).trans (hall.mono (by decide))⟩
  · rw [hall.regulator (by decide), hregulator]
  · rw [hgiven.2 st]
    unfold giveValue
    cases s.safe.substitute.values.get st <;> rfl
  · refine keeps_triple (P := fun v => v.pins.safeOut = true) (fun _ => hpins) (fun v h => h) (fun v h => ?_) (fun v h => ?_)
    · rw [(giveSubstitutes_given v).1.pins (by decide)]
      exact h
    · exact (safeOut_raiseNotice _ _ _ v).trans h
  · rw [hall.channels (by decide), hchannels]

end Sys2Proof.Machine
end

section
/-! PROOF. The setting map: cells, blocks and plans written (O34), the banks exchanged and trims cleared (O36). -/

namespace Sys2Proof.Machine

variable {s t : State} {r : Sender} {bank cell count : Byte} {k : BankId}

/-! ### Tables read by number -/

theorem Table.getElem?_mapFrom {α β : Type} (f : Nat → α → β) : ∀ (j : Nat) (l : List α) (i : Nat),
    (Table.mapFrom f j l)[i]? = (l[i]?).map (f (j + i))
  | _, [], _ => rfl
  | _, _ :: _, 0 => rfl
  | j, _ :: xs, i + 1 => by
    rw [Table.mapFrom, List.getElem?_cons_succ, Table.getElem?_mapFrom f, List.getElem?_cons_succ, Nat.add_right_comm,
      Nat.add_assoc]

theorem Table.get?_imap {α β : Type} {n : Nat} (tb : Table α n) (f : Nat → α → β) (i : Nat) :
    (tb.imap f).get? i = (tb.get? i).map (f i) := by
  rw [Table.get?_eq_getElem?, Table.get?_eq_getElem?, Table.imap, Table.getElem?_mapFrom, Nat.zero_add]

theorem Table.mem_entries {α : Type} {n : Nat} {tb : Table α n} {i : Nat} {a : α} :
    (i, a) ∈ tb.entries ↔ tb.get? i = some a := by
  rw [Table.get?_eq_getElem?, Table.entries, List.mem_iff_getElem?]
  simp only [Table.getElem?_mapFrom, Nat.zero_add, Option.map_eq_some_iff, Prod.mk.injEq]
  exact ⟨fun ⟨_, b, hb, hi, hba⟩ => hi ▸ hba ▸ hb, fun h => ⟨i, a, h, rfl, rfl⟩⟩

theorem Bank.cell_of_get? {b : Bank} {n : Nat} {x : CellRecord} : b.cell n = some x ↔ b.cells.get? n = some (some x) := by
  unfold Bank.cell
  cases b.cells.get? n with
  | none => simp
  | some o => simp

/-! ### Cells -/

theorem cell_writeCell {n m : Nat} {f : CellFields} {b : Bank} (h : n < 120) :
    (writeCell n f b).cell m = if m = n then some (cellOfFields f) else b.cell m := by
  unfold writeCell Bank.cell
  rw [Table.get?_put]
  by_cases hm : m = n
  · rw [if_pos ⟨hm, h⟩, if_pos hm]
    rfl
  · rw [if_neg (fun hh => hm hh.1), if_neg hm]

theorem cell_fillCells {block : BandBlock} {f : CellFields} {b : Bank} {n : Nat} (h : n < 120) :
    (fillCells block f b).cell n = if blockHolds block n then some (cellOfFields f) else b.cell n := by
  unfold fillCells Bank.cell
  rw [Table.get?_imap, Table.get?, dif_pos h]
  rfl

theorem blockHolds_iff {g : BandBlock} {m e l : Nat} (he : e ≤ 5) (hl : l ≤ 4) :
    blockHolds g (30 * m + 5 * e + l) = true ↔
      g.moistureLow.toNat ≤ m ∧ m ≤ g.moistureHigh.toNat ∧ g.feedLow.toNat ≤ e ∧ e ≤ g.feedHigh.toNat ∧
        g.slopeLow.toNat ≤ l ∧ l ≤ g.slopeHigh.toNat := by
  have h1 : (30 * m + 5 * e + l) / 30 = m := by omega
  have h2 : (30 * m + 5 * e + l) / 5 % 6 = e := by omega
  have h3 : (30 * m + 5 * e + l) % 5 = l := by omega
  simp only [blockHolds, between, h1, h2, h3, Bool.and_eq_true, decide_eq_true_iff, and_assoc]

theorem blockBad_eq_false {g : BandBlock} : blockBad g = false ↔
    g.moistureLow.toNat ≤ g.moistureHigh.toNat ∧ g.moistureHigh.toNat ≤ 3 ∧
      g.feedLow.toNat ≤ g.feedHigh.toNat ∧ g.feedHigh.toNat ≤ 5 ∧
      g.slopeLow.toNat ≤ g.slopeHigh.toNat ∧ g.slopeHigh.toNat ≤ 4 := by
  simp only [blockBad, Bool.or_eq_false_iff, decide_eq_false_iff_not, Nat.not_lt]
  omega

/-- The field tests of a cell record, under the parameters in force. -/
theorem cellFieldsBad_eq_false {f : CellFields} : cellFieldsBad f s = false ↔
    (∀ st, s.mgmt.params.inLimits st (f.targets.get st).toNat = true) ∧ f.flags.toNat < 8 ∧
      (f.flags.getLsbD 1 = true → 1 ≤ f.llim.toNat ∧ f.llim.toNat ≤ 2000) ∧
      (f.flags.getLsbD 2 = true → 1 ≤ f.tlim.toNat ∧ f.tlim.toNat ≤ 2000) := by
  have hlimit (b : Bool) (w : Word16) : (b && !limitOk w) = false ↔ (b = true → 1 ≤ w.toNat ∧ w.toNat ≤ 2000) := by
    rw [← limitOk_iff]
    cases b <;> cases limitOk w <;> simp
  rw [cellFieldsBad, Bool.or_eq_false_iff, Bool.or_eq_false_iff, Bool.or_eq_false_iff, hlimit, hlimit, Bool.not_eq_false',
    highBitsClear_iff, List.any_eq_false, and_assoc, and_assoc]
  refine and_congr_left' ⟨fun h st => ?_, fun h st _ => ?_⟩
  · have hst := h st (Setting.mem_all st)
    rwa [Bool.not_eq_true, Bool.not_eq_false'] at hst
  · rw [h st]
    exact Bool.false_ne_true

theorem writesBank_cellWrite (r : Sender) (bank cell : Byte) (f : CellFields) :
    WritesBank (.cellWrite r bank cell f) r 7 bank (fun s => decide (119 < cell.toNat) || cellFieldsBad f s)
      (writeCell cell.toNat f) := fun _ => rfl

theorem writesBank_cellFill (r : Sender) (bank : Byte) (g : BandBlock) (f : CellFields) :
    WritesBank (.cellFill r bank g f) r 8 bank (fun s => blockBad g || cellFieldsBad f s) (fillCells g f) := fun _ => rfl

theorem writesBank_planWrite {words ts : List Word16} (h : wordsAsked (planWords count) words = some ts) :
    WritesBank (.planWrite r bank count words) r 9 bank
      (fun _ => decide (8 < count.toNat) || ts.any (fun w => (stepOfWord w).isNone))
      (fun b => { b with plan := ts.filterMap stepOfWord }) := exec_planWrite_of_some h

/-! ### Plan steps -/

theorem setting_ofNum_isNone {n : Nat} : Setting.ofNum n = none ↔ 4 < n := by
  match n with
  | 0 => decide
  | 1 => decide
  | 2 => decide
  | 3 => decide
  | 4 => decide
  | n + 5 => exact iff_of_true rfl (by omega)

/-- A step word is legal when each of its fields is (R79). -/
theorem stepOfWord_isNone {w : Word16} : (stepOfWord w).isNone = false ↔
    (w.extractLsb' 0 10).toInt ≠ 0 ∧ (w.extractLsb' 0 10).toInt.natAbs ≤ 500 ∧
      (w.extractLsb' 10 3).toNat ≤ 4 ∧ (w.extractLsb' 13 2).toNat ≤ 2 ∧ w.getLsbD 15 = false := by
  unfold stepOfWord
  dsimp only
  split
  · rename_i h
    refine iff_of_false nofun fun ⟨hzero, hrange, _, _, hbit⟩ => ?_
    rcases h with h | h | h
    · exact Bool.false_ne_true (hbit.symm.trans h)
    · exact hzero h
    · omega
  · rename_i h
    obtain ⟨hbit, hzero, hrange⟩ := not_or.mp h |>.imp_right not_or.mp
    rw [Bool.not_eq_true] at hbit
    cases hs : Setting.ofNum (w.extractLsb' 10 3).toNat with
    | none =>
      have hbig := setting_ofNum_isNone.mp hs
      exact iff_of_false nofun fun h => absurd h.2.2.1 (Nat.not_le.mpr hbig)
    | some st =>
      have hsmall : (w.extractLsb' 10 3).toNat ≤ 4 := Nat.not_lt.mp fun hbig =>
        nomatch (setting_ofNum_isNone.mpr hbig).symm.trans hs
      have hlegal (hc : (w.extractLsb' 13 2).toNat ≤ 2) := And.intro hzero (And.intro (Nat.not_lt.mp hrange)
        (And.intro hsmall (And.intro hc hbit)))
      generalize (w.extractLsb' 13 2).toNat = c at hlegal
      match c with
      | 0 => exact iff_of_true rfl (hlegal (by decide))
      | 1 => exact iff_of_true rfl (hlegal (by decide))
      | 2 => exact iff_of_true rfl (hlegal (by decide))
      | c + 3 => exact iff_of_false nofun fun h => absurd h.2.2.2.1 (by omega)

theorem setting_ofNum_num (st : Setting) : Setting.ofNum st.num = some st := by cases st <;> rfl

/-- The fields of a step's word. -/
theorem wordOfStep_fields (p : PlanStep) : (wordOfStep p).extractLsb' 0 10 = p.amount ∧
    ((wordOfStep p).extractLsb' 10 3).toNat = p.setting.num ∧ ((wordOfStep p).extractLsb' 13 2).toNat = p.condition.code ∧
    (wordOfStep p).getLsbD 15 = false := by
  have hamount : p.amount.toNat < 1024 := p.amount.isLt
  have hsetting : p.setting.num < 5 := settingNum_lt p.setting
  have hcode : p.condition.code ≤ 2 := by cases p.condition <;> decide
  have hword : (wordOfStep p).toNat = p.amount.toNat + 1024 * p.setting.num + 8192 * p.condition.code := by
    rw [wordOfStep, BitVec.toNat_ofNat]
    omega
  refine ⟨BitVec.eq_of_toNat_eq ?_, ?_, ?_, ?_⟩
  · rw [BitVec.extractLsb'_toNat, hword, Nat.shiftRight_zero]
    omega
  · rw [BitVec.extractLsb'_toNat, hword, Nat.shiftRight_eq_div_pow]
    omega
  · rw [BitVec.extractLsb'_toNat, hword, Nat.shiftRight_eq_div_pow]
    omega
  · rw [BitVec.getLsbD, hword]
    exact Nat.testBit_lt_two_pow (by omega)

/-- A step is read back from its word. -/
theorem stepOfWord_wordOfStep {p : PlanStep} (hzero : p.amount.toInt ≠ 0) (hrange : p.amount.toInt.natAbs ≤ 500) :
    stepOfWord (wordOfStep p) = some p := by
  obtain ⟨hamount, hsetting, hcode, hbit⟩ := wordOfStep_fields p
  unfold stepOfWord
  dsimp only
  rw [hamount, hsetting, hcode, hbit, setting_ofNum_num, if_neg (by
    rintro (h | h | h)
    · exact Bool.false_ne_true h
    · exact hzero h
    · omega)]
  obtain ⟨st, amount, condition⟩ := p
  cases condition <;> rfl

/-! ### The requests that write cells and plans -/

/-- The refusals of a request that writes a bank, in their order. -/
theorem WritesBank.refused {c : Instr} {code : Nat} {bad : State → Bool} {f : Bank → Bank} {ok : Prop}
    (hc : WritesBank c r code bank bad f) (h : s.admits r .modifying anyState) (hok : bad (s.taken c) = false ↔ ok) :
    (2 ≤ bank.toNat → s.refuses c r code .badField) ∧ ∀ k, BankId.ofNum bank.toNat = some k →
      (k = s.map.active → s.mgmt.partState = .regulating → s.refuses c r code .wrongState) ∧
      (¬ s.closesBank k → ¬ ok → s.refuses c r code .badField) :=
  ⟨hc.refuses_bank h, fun _ hk => ⟨fun hactive hreg => hc.refuses_closed h hk ⟨hactive, hreg⟩, fun hopen hnot =>
    hc.refuses_fields h hk hopen ((Bool.not_eq_false _).mp (mt hok.mp hnot))⟩⟩

theorem cellFieldsBad_taken {c : Instr} {f : CellFields} : cellFieldsBad f (s.taken c) = cellFieldsBad f s := by
  unfold cellFieldsBad
  rw [taken_params]

theorem planWords_of_le (h : count.toNat ≤ 8) : planWords count = count.toNat := if_neg (Nat.not_lt.mpr h)

/-- PLAN WRITE asks for no more words than it may have steps. -/
theorem planWords_le (words : List Word16) (h : 8 < count.toNat ∨ count.toNat ≤ words.length) :
    planWords count ≤ words.length := by
  unfold planWords
  split <;> omega

theorem planBad_eq_false {words : List Word16} {ok : Word16 → Prop} (hok : ∀ w, (stepOfWord w).isNone = false ↔ ok w) :
    (decide (8 < count.toNat) || (words.take (planWords count)).any (fun w => (stepOfWord w).isNone)) = false ↔
      count.toNat ≤ 8 ∧ ∀ w ∈ words.take count.toNat, ok w := by
  rw [Bool.or_eq_false_iff, decide_eq_false_iff_not, Nat.not_lt, List.any_eq_false]
  refine and_congr_right fun hle => ?_
  rw [planWords_of_le hle]
  simp only [Bool.not_eq_true, hok]

theorem filterMap_wordOfStep {steps : List PlanStep}
    (h : ∀ p ∈ steps, p.amount.toInt ≠ 0 ∧ p.amount.toInt.natAbs ≤ 500) :
    (steps.map wordOfStep).filterMap stepOfWord = steps := by
  induction steps with
  | nil => rfl
  | cons p ps ih =>
    obtain ⟨hzero, hrange⟩ := h p List.mem_cons_self
    rw [List.map_cons, List.filterMap_cons, stepOfWord_wordOfStep hzero hrange, ih fun q hq => h q (List.mem_cons_of_mem _ hq)]

/-- Settles O34: the refusals of the three writes, and what each leaves of its bank. -/
theorem cellsAndPlansAreWritten : Obligations.CellsAndPlansAreWritten := by
  refine ⟨fun r bank s h => ⟨fun cell f => ?_, fun g f => ?_, fun count ws => ⟨fun hlen => ?_, fun hle hlt => ?_⟩⟩,
    fun r bank k s h hk hopen => ⟨fun f hlimits hflags hllim htlim => ⟨fun cell hcell => ?_, fun g h1 h2 h3 h4 h5 h6 => ?_⟩,
      fun steps extra hlen hsteps => ?_⟩⟩
  · refine (writesBank_cellWrite r bank cell f).refused h ?_
    rw [cellFieldsBad_taken, Bool.or_eq_false_iff, decide_eq_false_iff_not, Nat.not_lt, cellFieldsBad_eq_false]
  · refine (writesBank_cellFill r bank g f).refused h ?_
    rw [cellFieldsBad_taken, Bool.or_eq_false_iff, blockBad_eq_false, cellFieldsBad_eq_false]
  · exact (writesBank_planWrite (wordsAsked_of_le (planWords_le ws hlen))).refused h
      (planBad_eq_false fun _ => stepOfWord_isNone)
  · have hnone : wordsAsked (planWords count) ws = none := wordsAsked_of_lt (by rw [planWords_of_le hle]; exact hlt)
    rw [State.refuses, exec_planWrite_of_none hnone, live_of_works h.works, serveUnknown_eq, h.1.2]
    rfl
  · have hgood : cellFieldsBad f s = false := cellFieldsBad_eq_false.mpr ⟨hlimits, hflags, hllim, htlim⟩
    refine ⟨_, (writesBank_cellWrite r bank cell f).exec_done h hk hopen ?_, fun n _ => cell_writeCell (by omega), rfl⟩
    rw [cellFieldsBad_taken, hgood, Bool.or_false]
    exact decide_eq_false (by omega)
  · have hgood : cellFieldsBad f s = false := cellFieldsBad_eq_false.mpr ⟨hlimits, hflags, hllim, htlim⟩
    refine ⟨_, (writesBank_cellFill r bank g f).exec_done h hk hopen ?_, fun m e l hm he hl => ?_, rfl⟩
    · rw [cellFieldsBad_taken, hgood, Bool.or_false]
      exact blockBad_eq_false.mpr ⟨h1, h2, h3, h4, h5, h6⟩
    · rw [cell_fillCells (by omega)]
      simp only [blockHolds_iff he hl]
      rfl
  · have hcount : (BitVec.ofNat 8 steps.length).toNat = steps.length := by
      rw [BitVec.toNat_ofNat]
      omega
    have hwords : planWords (BitVec.ofNat 8 steps.length) = (steps.map wordOfStep).length := by
      rw [planWords_of_le (by omega), hcount, List.length_map]
    have hts : wordsAsked (planWords (BitVec.ofNat 8 steps.length)) (steps.map wordOfStep ++ extra) =
        some (steps.map wordOfStep) := by rw [hwords, wordsAsked_append]
    have hgood : (decide (8 < (BitVec.ofNat 8 steps.length).toNat) ||
        (steps.map wordOfStep).any (fun w => (stepOfWord w).isNone)) = false := by
      rw [hcount, decide_eq_false (by omega), Bool.false_or, List.any_eq_false]
      intro w hw
      obtain ⟨p, hp, rfl⟩ := List.mem_map.mp hw
      obtain ⟨hzero, hrange⟩ := hsteps p hp
      rw [stepOfWord_wordOfStep hzero hrange]
      exact Bool.false_ne_true
    have hdone := (writesBank_planWrite (r := r) (bank := bank) hts).exec_done h hk hopen hgood
    rw [filterMap_wordOfStep hsteps] at hdone
    exact hdone

/-! ### The banks exchanged -/

theorem takeRetarget_of_resting (h : s.regulator.state = .idle ∨ s.regulator.state = .paused ∨ s.regulator.state = .safe) :
    takeRetarget s = s := by
  refine if_neg ?_
  rcases h with h | h | h <;> rw [h] <;> exact Bool.false_ne_true

theorem isCycle_of_ne {x : RegState} (hidle : x ≠ .idle) (hpaused : x ≠ .paused) (hsafe : x ≠ .safe) : x.isCycle = true := by
  match x with
  | .idle => exact absurd rfl hidle
  | .paused => exact absurd rfl hpaused
  | .safe => exact absurd rfl hsafe
  | .follow | .settle | .measure | .hold | .trialMove | .trialSettle | .trialMeasure | .revert => rfl

theorem leaveSafe_of_ne {next : RegState} (h : s.regulator.state ≠ .safe) : leaveSafe next s = s := if_neg h

/-- A cycle state enters FOLLOW in a new episode (R134). -/
theorem followed_takeRetarget (hidle : s.regulator.state ≠ .idle) (hpaused : s.regulator.state ≠ .paused)
    (hsafe : s.regulator.state ≠ .safe) : s.followed (takeRetarget s) 0 false := by
  have h := followed_enterFollow s
  rw [leaveSafe_of_ne hsafe] at h
  rw [takeRetarget, if_pos (isCycle_of_ne hidle hpaused hsafe)]
  exact h

theorem takeRetarget_map (s : State) : (takeRetarget s).map = s.map :=
  (touches_takeRetarget (T := touchCycle) (by decide) (.refl _ s)).map (by decide)

theorem switchBanks_eq (s : State) : switchBanks s = raiseNotice .bankSwitched s.map.active.other.num
    (s.map.bank s.map.active.other).label (takeRetarget (s.withMap { s.map with active := s.map.active.other })) := by
  unfold switchBanks
  dsimp only
  rw [State.activeBank, takeRetarget_map]
  rfl

/-! ### Trims cleared -/

variable {which : Option Nat} {banks : List BankId}

theorem cell_clearTrims (b : Bank) (which : Option Nat) (n : Nat) : (b.clearTrims which).cell n =
    if which = none ∨ which = some n then (b.cell n).map (fun x => { x with trim := none }) else b.cell n := by
  unfold Bank.clearTrims Bank.cell
  rw [Table.get?_imap]
  cases b.cells.get? n with
  | none => split <;> rfl
  | some o =>
    rw [Option.map_some, Option.getD_some, Option.getD_some]
    split
    · cases o <;> rfl
    · rfl

theorem hasTrim_iff {b : Bank} : b.hasTrim which = true ↔
    ∃ n x, (which = none ∨ which = some n) ∧ b.cell n = some x ∧ x.trim ≠ none := by
  rw [Bank.hasTrim, List.any_eq_true]
  constructor
  · rintro ⟨⟨n, o⟩, hmem, htest⟩
    obtain ⟨hnamed, htrim⟩ := Bool.and_eq_true_iff.mp htest
    cases o with
    | none => cases htrim
    | some x =>
      exact ⟨n, x, of_decide_eq_true hnamed, Bank.cell_of_get?.mpr (Table.mem_entries.mp hmem), Option.isSome_iff_ne_none.mp htrim⟩
  · rintro ⟨n, x, hnamed, hcell, htrim⟩
    exact ⟨(n, some x), Table.mem_entries.mpr (Bank.cell_of_get?.mp hcell),
      Bool.and_eq_true_iff.mpr ⟨decide_eq_true hnamed, Option.isSome_iff_ne_none.mpr htrim⟩⟩

/-- The map with the trim records of the named banks removed. -/
def clearedMap (m : SettingMap) (banks : List BankId) (which : Option Nat) : SettingMap :=
  ⟨if .a ∈ banks then m.bankA.clearTrims which else m.bankA, if .b ∈ banks then m.bankB.clearTrims which else m.bankB, m.active⟩

theorem bank_clearedMap (m : SettingMap) (banks : List BankId) (which : Option Nat) (k : BankId) :
    (clearedMap m banks which).bank k = if k ∈ banks then (m.bank k).clearTrims which else m.bank k := by cases k <;> rfl

/-- The banks CLEAR TRIMS names. -/
theorem mem_banksNamed {n : Nat} (h : n ≤ 2) : k ∈ banksNamed n ↔ n = 2 ∨ n = k.num := by
  match n, h with
  | 0, _ => cases k <;> decide
  | 1, _ => cases k <;> decide
  | 2, _ => cases k <;> decide

theorem clearTrims_eq (n : Nat) (which : Option Nat) (s : State) : clearTrims (banksNamed n) which s =
    if s.map.active ∈ banksNamed n ∧ s.activeBank.hasTrim which = true
    then takeTrimsCleared which (s.withMap (clearedMap s.map (banksNamed n) which))
    else s.withMap (clearedMap s.map (banksNamed n) which) := by
  have hfold : (banksNamed n).foldl (fun t k => updBank k (fun b => b.clearTrims which) t) s =
      s.withMap (clearedMap s.map (banksNamed n) which) := by
    match n with
    | 0 => rfl
    | 1 => rfl
    | n + 2 => rfl
  unfold clearTrims
  dsimp only
  rw [hfold]

/-- CLEAR TRIMS with a good Bank and Cell. -/
theorem exec_clearTrims (h : s.admits r .modifying anyState) (hbank : bank.toNat ≤ 2)
    (hcell : cell.toNat ≤ 119 ∨ cell = 255#8) : exec (.clearTrims r bank cell) s = .next (answer r 17 .done []
      (clearTrims (banksNamed bank.toNat) (if cell = 255#8 then none else some cell.toNat)
        (s.taken (.clearTrims r bank cell)))) := by
  have hgood : (decide (2 < bank.toNat) || (decide (119 < cell.toNat) && decide (cell ≠ 255#8))) = false := by
    rw [decide_eq_false (Nat.not_lt.mpr hbank), Bool.false_or, Bool.and_eq_false_iff]
    exact hcell.imp (fun h => decide_eq_false (Nat.not_lt.mpr h)) (fun h => decide_eq_false (Classical.not_not.mpr h))
  rw [show exec (.clearTrims r bank cell) s = _ from live_serve_of_admits h, hgood, badWhen_false, refuseOr_none]

theorem named_iff {n : Nat} : ((if cell = 255#8 then none else some cell.toNat) = none ∨
    (if cell = 255#8 then none else some cell.toNat) = some n) ↔ cell = 255#8 ∨ cell.toNat = n := by
  split <;> simp [*]

theorem clearTrims_map (n : Nat) (which : Option Nat) (s : State) :
    (clearTrims (banksNamed n) which s).map = clearedMap s.map (banksNamed n) which := by
  rw [clearTrims_eq]
  split
  · unfold takeTrimsCleared
    split
    · exact takeRetarget_map _
    · rfl
  · rfl

/-- Settles O36: the retarget event by the regulator's state, the exchange, and the trims cell by cell. -/
theorem banksSwitchAndTrimsAreCleared : Obligations.BanksSwitchAndTrimsAreCleared := by
  refine ⟨fun s => ⟨takeRetarget_of_resting, followed_takeRetarget⟩, fun r bank cell s h hbad => exec_refuses rfl h ?_,
    fun r s h => ⟨fun hinvalid => ?_, fun hvalid => ⟨_, ?_, ?_, rfl⟩⟩, fun r bank cell s h hbank hcell => ?_⟩
  · rw [show (decide (2 < bank.toNat) || (decide (119 < cell.toNat) && decide (cell ≠ 255#8))) = true from by simpa using hbad]
    rfl
  · rw [show exec (.switchBank r) s = _ from live_serve_of_admits h, taken_map h.settled, hinvalid, if_neg Bool.false_ne_true,
      refuseOr_some]
  · rw [show exec (.switchBank r) s = _ from live_serve_of_admits h, taken_map h.settled, hvalid, if_pos rfl, refuseOr_none,
      switchBanks_eq, taken_map h.settled]
    rfl
  · rw [(touches_raiseNotice (T := touchNotices) (by decide) (.refl _ _) _ _ _).map (by decide), takeRetarget_map]
    rfl
  · have hmap := clearTrims_map bank.toNat (if cell = 255#8 then none else some cell.toNat) (s.taken (.clearTrims r bank cell))
    have heq := clearTrims_eq bank.toNat (if cell = 255#8 then none else some cell.toNat) (s.taken (.clearTrims r bank cell))
    have hbankTaken : (s.taken (.clearTrims r bank cell)).activeBank = s.activeBank := by
      rw [State.activeBank, taken_map h.settled]
      rfl
    have hclasses : (s.taken (.clearTrims r bank cell)).classifier = s.classifier := by rw [taken_eq h.settled]; rfl
    rw [taken_map h.settled] at hmap heq
    refine ⟨_, _, exec_clearTrims h hbank hcell, ?_, fun k n hnamed => ?_, fun k n hnot => ?_, fun k => ?_, ?_, rfl, fun hnone => ?_,
      fun n x hnamed hx htrim => ?_⟩
    · rfl
    · rw [hmap, bank_clearedMap, if_pos ((mem_banksNamed hbank).mpr hnamed.1), cell_clearTrims, if_pos (named_iff.mpr hnamed.2)]
    · rw [hmap, bank_clearedMap]
      split
      · rename_i hk
        rw [cell_clearTrims, if_neg fun hn => hnot ⟨(mem_banksNamed hbank).mp hk, named_iff.mp hn⟩]
      · rfl
    · rw [hmap, bank_clearedMap]
      split <;> rfl
    · rw [hmap]
      rfl
    · rw [hmap, heq, if_neg]
      rintro ⟨hactive, htrim⟩
      rw [hbankTaken] at htrim
      obtain ⟨n, x, hnamed, hx, hne⟩ := hasTrim_iff.mp htrim
      exact hne (hnone n x ⟨(mem_banksNamed hbank).mp hactive, named_iff.mp hnamed⟩ hx)
    · rw [hmap, heq, if_pos ⟨(mem_banksNamed hbank).mpr hnamed.1, by
        rw [hbankTaken]
        exact hasTrim_iff.mpr ⟨n, x, named_iff.mpr hnamed.2, hx, htrim⟩⟩, takeTrimsCleared]
      simp only [named_iff]
      rw [State.adoptedCell, State.withMap_classifier, hclasses]

end Sys2Proof.Machine
end

section
/-! PROOF. The reads: every station may ask for a view of a block, and the block stays as it is (O60). -/

namespace Sys2Proof.Machine

variable {s : State} {r : Sender} {c : Instr} {code : Nat} {body : State → State} {result : Result} {shown : List Byte}

/-! ### A read request -/

/-- A read answers what its body makes of the state; the requests received are not among what it shows. -/
theorem exec_read {fields : State → List Byte} (hexec : exec c s = live (serve c r code .read anyState body) s)
    (hfree : s.free) (hsettled : s.settled) (hbody : ∀ u, body u = answer r code result (fields u) u)
    (hshown : ∀ inbox, fields (s.withMgmt { s.mgmt with inbox := inbox }) = shown) :
    exec c s = .next (answer r code result shown (s.taken c)) := by
  rw [hexec, live_serve_read_anyState hfree, hbody, taken_eq hsettled, hshown]

/-! ### Numbers in a byte -/

theorem toNat_ofNat_byte {n : Nat} (h : n < 256) : (BitVec.ofNat 8 n).toNat = n := Nat.mod_eq_of_lt h

theorem Table.get?_fin {α : Type} {n : Nat} (tb : Table α n) (i : Fin n) : tb.get? i.val = some (tb.get i) := by
  rw [Table.get?, dif_pos i.isLt]

theorem sourceOf_byte (n : Fin 12) : sourceOf (BitVec.ofNat 8 n.val) = some n := by
  rw [sourceOf, dif_pos (by rw [toNat_ofNat_byte (by omega)]; exact n.isLt)]
  exact congrArg some (Fin.ext (toNat_ofNat_byte (by omega)))

theorem sourceOf_beyond {b : Byte} (h : 11 < b.toNat) : sourceOf b = none := dif_neg (by omega)

theorem axis_ofNum_isNone {n : Nat} (h : 3 < n) : Axis.ofNum n = none := by
  match n with
  | n + 4 => rfl

theorem axis_num_of_ofNum {a : Axis} : ∀ {n : Nat}, Axis.ofNum n = some a → a.num = n
  | 0, h | 1, h | 2, h | 3, h => by cases h; rfl

/-! ### Sets of guards -/

theorem packBits16_getLsbD : ∀ (l : List Bool) (k : Nat), (packBits16 l).getLsbD k = true ↔ k < 16 ∧ l[k]? = some true
  | [], k => by simp [packBits16]
  | b :: bs, 0 => by
    cases b <;> simp [packBits16]
  | b :: bs, k + 1 => by
    have hbit : (if b then 1#16 else 0#16).getLsbD (k + 1) = false := by
      cases b <;> simp
    rw [packBits16, BitVec.getLsbD_or, hbit, Bool.or_false, BitVec.getLsbD_shiftLeft, List.getElem?_cons_succ]
    simp only [Bool.and_eq_true, decide_eq_true_iff, Nat.add_sub_cancel, packBits16_getLsbD bs k]
    constructor
    · rintro ⟨⟨hk, _⟩, _, hbs⟩
      exact ⟨hk, hbs⟩
    · rintro ⟨hk, hbs⟩
      exact ⟨⟨hk, by simp⟩, by omega, hbs⟩

theorem Arbiter.mem_setOf (a : Arbiter) (test : Guard → Bool) (k : Nat) :
    (packBits16 (a.table.list.map test)).getLsbD k = true ↔ ∃ n : Fin 12, n.val = k ∧ test (a.guard n) = true := by
  rw [packBits16_getLsbD, List.getElem?_map, ← Table.get?_eq_getElem?]
  constructor
  · rintro ⟨_, hk⟩
    by_cases hlt : k < 12
    · exact ⟨⟨k, hlt⟩, rfl, by simpa [Table.get?, hlt, Arbiter.guard] using hk⟩
    · simp [Table.get?, hlt] at hk
  · rintro ⟨n, rfl, hn⟩
    exact ⟨by omega, by rw [Table.get?_fin]; exact congrArg some hn⟩

theorem Arbiter.position_of_first {a : Arbiter} {n : Fin 12} {p : Nat} (hp : a.stack[p]? = some n)
    (hfirst : ∀ q, q < p → a.stack[q]? ≠ some n) : a.position n = p := by
  obtain ⟨hlt, hget⟩ := List.getElem?_eq_some_iff.mp hp
  have hfind : a.stack.findIdx? (fun k => decide (k = n)) = some p := by
    rw [List.findIdx?_eq_some_iff_getElem]
    refine ⟨hlt, decide_eq_true hget, fun q hq => ?_⟩
    rw [decide_eq_true_iff]
    exact fun h => hfirst q hq (List.getElem?_eq_some_iff.mpr ⟨_, h⟩)
  rw [Arbiter.position, hfind, Option.getD_some]

theorem Arbiter.position_of_not_mem {a : Arbiter} {n : Fin 12} (h : n ∉ a.stack) : a.position n = 255 := by
  have hfind : a.stack.findIdx? (fun k => decide (k = n)) = none :=
    List.findIdx?_eq_none_iff.mpr fun k hk => decide_eq_false fun hkn => h (hkn ▸ hk)
  rw [Arbiter.position, hfind, Option.getD_none]

theorem Arbiter.slipRuns_iff {a : Arbiter} {n : Fin 12} :
    a.slipRuns n = true ↔ n = 0 ∧ a.slipDrum ≠ none ∨ n = 3 ∧ a.slipFan ≠ none := by
  simp [Arbiter.slipRuns, Option.isSome_iff_ne_none]

/-! ### Fields that name an optional thing -/

theorem moveFlags_eq (m : MoveRecord) (held : Bool) : moveFlags m held =
    packBits [m.goal.isSome, m.deferred.isSome, m.resendUsed, m.lastActual.isSome, m.manual, m.limited,
      m.goal.any (fun g => decide (g.source = .guard)), held] := by
  rw [moveFlags]
  cases m.goal <;> rfl

theorem regulatorFlags_eq (g : Regulator) : regulatorFlags g =
    (packBits [g.exhausted, g.baseline.isSome, g.trial.isSome, g.last.isSome] |||
      (BitVec.ofNat 8 ((g.last.map WindowResult.voidCause).getD 0) <<< 4)) := by
  rw [regulatorFlags]
  cases g.last <;> rfl

/-- The fields of REGULATOR READ, part by part. -/
theorem regulatorFields_of_parts {now : Word32} {g : Regulator} {cause window flags : Byte} {left base : Word16}
    {trial last : List Byte} (hcause : byteOf (safeCauseCode g.safeCause) = cause)
    (hwindow : byteOf (windowCode (g.window.map Prod.fst)) = window)
    (hleft : BitVec.ofNat 16 (timerRemaining now (g.window.map Prod.snd)) = left) (hflags : regulatorFlags g = flags)
    (htrial : trialFields g.trial = trial) (hbase : (g.baseline.map WindowResult.s).getD 0#16 = base)
    (hlast : lastFields g.last = last) :
    regulatorFields now g = [byteOf g.state.code, cause, window] ++ le16 left ++ [byteOf g.cursor, flags] ++ trial ++
      le16 base ++ last := by
  subst hcause hwindow hleft hflags htrial hbase hlast
  rw [regulatorFields]
  cases g.baseline <;> rfl

theorem cellFieldsView1_of_trim {cell : Byte} {x : CellRecord} {m : Trim} (h : x.trim = some m) :
    cellFieldsView1 cell (some x) = [cell, cellFlags (some x)] ++ (figureBytes m.offsets ++ [byteOf m.kept]) := by
  rw [cellFieldsView1, Option.bind_some, h]

theorem cellFieldsView1_of_no_trim {cell : Byte} {x : CellRecord} (h : x.trim = none) :
    cellFieldsView1 cell (some x) = [cell, cellFlags (some x)] ++ List.replicate 11 0#8 := by
  rw [cellFieldsView1, Option.bind_some, h]

/-- A parameter item in its bytes. -/
theorem itemFields_eq (p : Params) (k : Fin 43) :
    itemFields p (BitVec.ofNat 8 k.val) = BitVec.ofNat 8 k.val :: le16 (p.items.get k) := by
  rw [itemFields, toNat_ofNat_byte (by omega), Params.item, Table.get?_fin, Option.getD_some, BitVec.ofNat_toNat,
    BitVec.setWidth_eq]

/-! ### The body of each read -/

theorem readChannel_eq (i : Fin 24) (view : Byte) (s : State) : readChannel r (BitVec.ofNat 8 i.val) view s =
    if view.toNat = 0 then answer r 1 .done (channelDefFields (BitVec.ofNat 8 i.val) (s.channel i).defn) s
    else if view.toNat = 1 then
      answer r 1 .done (channelRtFields (BitVec.ofNat 8 i.val) s.channels.gate (s.channel i).rt) s
    else answer r 1 .badField [] s := by
  rw [readChannel, toNat_ofNat_byte (by omega), Table.get?_fin]
  match view.toNat with
  | 0 => rfl
  | 1 => rfl
  | n + 2 => rfl

theorem readChannel_outside {i v : Byte} (h : 23 < i.toNat ∨ 1 < v.toNat) (s : State) :
    readChannel r i v s = answer r 1 .badField [] s := by
  rw [readChannel]
  split
  case h_1 hget hv | h_2 hget hv =>
    have hlt := (List.getElem?_eq_some_iff.mp ((Table.get?_eq_getElem? _ _).symm.trans hget)).1
    rw [s.channels.entries.size] at hlt
    omega
  case h_3 => rfl

theorem readClass_axis {a : Axis} {n : Byte} (h : Axis.ofNum n.toNat = some a) (s : State) :
    readClass r 0#8 n s = answer r 6 .done (axisFields a (s.classifier.axes.get a)) s := by
  rw [readClass, h]
  rfl

theorem readClass_classifier (n : Byte) (s : State) :
    readClass r 1#8 n s = answer r 6 .done (classifierFields s.partTime s.classifier) s := rfl

theorem readClass_outside {v n : Byte} (h : 1 < v.toNat ∨ v = 0#8 ∧ 3 < n.toNat) (s : State) :
    readClass r v n s = answer r 6 .badField [] s := by
  rw [readClass]
  split
  case h_1 hv ha =>
    have hn : 3 < n.toNat := by
      rcases h with h | h
      · omega
      · exact h.2
    exact nomatch (axis_ofNum_isNone hn).symm.trans ha
  case h_2 hv =>
    rcases h with h | ⟨rfl, _⟩
    · omega
    · exact nomatch hv
  case h_3 => rfl

theorem bodyCellRead_cell (k : BankId) {cell : Byte} (h : cell.toNat ≤ 119) (view side : Byte) (s : State) :
    bodyCellRead r (BitVec.ofNat 8 k.num) cell view side s = readCell r (s.map.bank k) cell view side s := by
  have hk : BankId.ofNum (BitVec.ofNat 8 k.num).toNat = some k := by cases k <;> rfl
  rw [bodyCellRead, hk]
  exact if_neg (by omega)

theorem readCell_targets (b : Bank) (cell side : Byte) (s : State) :
    readCell r b cell 0#8 side s = answer r 12 .done (cellFieldsView0 cell (b.cell cell.toNat)) s := rfl

theorem readCell_trim (b : Bank) (cell side : Byte) (s : State) :
    readCell r b cell 1#8 side s = answer r 12 .done (cellFieldsView1 cell (b.cell cell.toNat)) s := rfl

theorem readCell_effective {b : Bank} {cell side : Byte} {x : CellRecord} (hside : side.toNat ≤ 4 ∨ side = 255#8)
    (hx : b.cell cell.toNat = some x) (s : State) : readCell r b cell 2#8 side s =
      answer r 12 .done (cellFieldsView2 cell (s.sideUsed side) s.mgmt.params b x) s := by
  have hok : ¬(4 < side.toNat ∧ side ≠ 255#8) := fun hbad => hside.elim (fun h => absurd hbad.1 (by omega)) hbad.2
  have hcell : readCell r b cell 2#8 side s = _ := if_neg hok
  rw [hcell, hx]

theorem readCell_unwritten {b : Bank} {cell side : Byte} (hside : side.toNat ≤ 4 ∨ side = 255#8)
    (hx : b.cell cell.toNat = none) (s : State) : readCell r b cell 2#8 side s = answer r 12 .conflict [] s := by
  have hok : ¬(4 < side.toNat ∧ side ≠ 255#8) := fun hbad => hside.elim (fun h => absurd hbad.1 (by omega)) hbad.2
  have hcell : readCell r b cell 2#8 side s = _ := if_neg hok
  rw [hcell, hx]

theorem readCell_badSide {b : Bank} {cell side : Byte} (h : 4 < side.toNat) (hne : side ≠ 255#8) (s : State) :
    readCell r b cell 2#8 side s = answer r 12 .badField [] s := if_pos ⟨h, hne⟩

theorem bodyCellRead_outside {b cell v side : Byte} (h : 1 < b.toNat ∨ 119 < cell.toNat ∨ 2 < v.toNat) (s : State) :
    bodyCellRead r b cell v side s = answer r 12 .badField [] s := by
  rw [bodyCellRead]
  cases hk : BankId.ofNum b.toNat with
  | none => rfl
  | some k =>
    have hb : b.toNat < 2 := Nat.not_le.mp fun hb => nomatch (BankId.ofNum_of_two_le hb).symm.trans hk
    by_cases hcell : 119 < cell.toNat
    · exact if_pos hcell
    · refine (if_neg hcell).trans ?_
      have hv : 2 < v.toNat := by omega
      rw [readCell]
      split
      case h_4 => rfl
      all_goals omega

theorem readBank_outside {b v : Byte} (h : 1 < b.toNat ∨ 2 < v.toNat) (s : State) :
    readBank r b v s = answer r 13 .badField [] s := by
  rw [readBank]
  cases hk : BankId.ofNum b.toNat with
  | none => rfl
  | some k =>
    have hb : b.toNat < 2 := Nat.not_le.mp fun hb => nomatch (BankId.ofNum_of_two_le hb).symm.trans hk
    have hv : 2 < v.toNat := by omega
    split
    case h_4 => rfl
    all_goals omega

theorem readBank_name (k : BankId) (s : State) : readBank r (BitVec.ofNat 8 k.num) 0#8 s =
    answer r 13 .done (bankFieldsView0 k s.map.active (s.map.bank k)) s := by
  cases k <;> rfl

theorem readBank_plan (k : BankId) (s : State) : readBank r (BitVec.ofNat 8 k.num) 1#8 s =
    answer r 13 .done (bankFieldsView1 k (s.map.bank k)) s := by
  cases k <;> rfl

theorem readBank_sideTrims (k : BankId) (s : State) : readBank r (BitVec.ofNat 8 k.num) 2#8 s =
    answer r 13 .done (bankFieldsView2 k (s.map.bank k)) s := by
  cases k <;> rfl

theorem readMove_setting (st : Setting) (s : State) :
    readMove r (BitVec.ofNat 8 st.num) s = answer r 21 .done (moveFields st s) s := by
  cases st <;> rfl

theorem readMove_outside {n : Byte} (h : 4 < n.toNat) (s : State) : readMove r n s = answer r 21 .badField [] s := by
  rw [readMove, setting_ofNum_isNone.mpr h]

theorem peekGuards_source (n : Fin 12) (s : State) : peekGuards r 1#8 (BitVec.ofNat 8 n.val) s =
    answer r 29 .done (guardFields s.partTime s.guards n) s := by
  rw [peekGuards, sourceOf_byte]
  rfl

theorem peekGuards_sets (n : Byte) (s : State) :
    peekGuards r 0#8 n s = answer r 29 .done (arbiterFields s.guards) s := rfl

theorem peekGuards_outside {v n : Byte} (h : 1 < v.toNat ∨ v = 1#8 ∧ 11 < n.toNat) (s : State) :
    peekGuards r v n s = answer r 29 .badField [] s := by
  rw [peekGuards]
  split
  case h_1 hv =>
    rcases h with h | ⟨rfl, _⟩
    · omega
    · exact nomatch hv
  case h_2 hv hn =>
    have hbeyond : 11 < n.toNat := by
      rcases h with h | h
      · omega
      · exact h.2
    exact nomatch (sourceOf_beyond hbeyond).symm.trans hn
  case h_3 => rfl

theorem readParam_inForce (k : Fin 43) (s : State) : readParam r 0#8 (BitVec.ofNat 8 k.val) s =
    answer r 38 .done (BitVec.ofNat 8 k.val :: le16 (s.mgmt.params.items.get k)) s := by
  have hk : decide ((BitVec.ofNat 8 k.val).toNat ≤ 42) = true :=
    decide_eq_true (by rw [toNat_ofNat_byte (by omega)]; omega)
  rw [readParam, hk, ← itemFields_eq]
  rfl

theorem readParam_pending (k : Fin 43) (s : State) : readParam r 1#8 (BitVec.ofNat 8 k.val) s =
    answer r 38 .done (BitVec.ofNat 8 k.val :: le16 (s.mgmt.pendingParams.items.get k)) s := by
  have hk : decide ((BitVec.ofNat 8 k.val).toNat ≤ 42) = true :=
    decide_eq_true (by rw [toNat_ofNat_byte (by omega)]; omega)
  rw [readParam, hk, ← itemFields_eq]
  rfl

theorem readParam_outside {v n : Byte} (h : 2 < v.toNat ∨ v.toNat < 2 ∧ 42 < n.toNat) (s : State) :
    readParam r v n s = answer r 38 .badField [] s := by
  rw [readParam]
  split
  case h_4 => rfl
  case h_3 => omega
  all_goals
    rename_i hn
    have := of_decide_eq_true hn
    omega

/-- Settles O60: the other reads answer their view of the block, or refuse a view or an index that is not one. -/
theorem readsAnswerAndChangeNothing : Obligations.ReadsAnswerAndChangeNothing := by
  intro r s hfree hsettled replies left words
  have hleft : ∀ o, BitVec.ofNat 16 (timerRemaining s.partTime o) = left o := by
    intro o
    cases o <;> rfl
  refine ⟨fun i => ⟨?_, ?_⟩, fun i v h => ?_, fun a n ha => ?_, fun n => ?_, fun v n h => ?_, fun k cell side hcell => ?_,
    fun b cell v side h => ?_, fun k => ⟨?_, ?_, ?_⟩, fun b v h => ?_, fun st => ?_, fun n h => ?_, ?_, fun n => ?_,
    fun n => ?_, fun v n h => ?_, ?_, fun k => ⟨?_, ?_⟩, fun n => ?_, fun v n h => ?_⟩
  · exact exec_read rfl hfree hsettled (readChannel_eq i 0#8) fun _ => rfl
  · exact exec_read rfl hfree hsettled (readChannel_eq i 1#8) fun _ => rfl
  · exact exec_read rfl hfree hsettled (readChannel_outside h) fun _ => rfl
  · refine exec_read rfl hfree hsettled (readClass_axis ha) fun _ => ?_
    have hn : byteOf a.num = n := by rw [axis_num_of_ofNum ha, byteOf, BitVec.ofNat_toNat, BitVec.setWidth_eq]
    rw [State.withMgmt_classifier, axisFields, hn]
    rfl
  · refine exec_read rfl hfree hsettled (readClass_classifier n) fun _ => ?_
    rw [State.withMgmt_classifier, State.withMgmt_partTime, classifierFields, hleft]
    rfl
  · exact exec_read rfl hfree hsettled (readClass_outside h) fun _ => rfl
  · have read (view : Byte) {result : Result} {shown : List Byte} {fields : State → List Byte}
        (hread : ∀ u : State, readCell r (u.map.bank k) cell view side u = answer r 12 result (fields u) u)
        (hshown : ∀ inbox, fields (s.withMgmt { s.mgmt with inbox := inbox }) = shown) :
        exec (.cellRead r (BitVec.ofNat 8 k.num) cell view side) s =
          .next (answer r 12 result shown (s.taken (.cellRead r (BitVec.ofNat 8 k.num) cell view side))) :=
      exec_read rfl hfree hsettled (fun u => (bodyCellRead_cell k hcell view side u).trans (hread u)) hshown
    have effective (n : Nat) (hside : side.toNat ≤ 4 ∨ side = 255#8) (hn : s.sideUsed side = n) {x : CellRecord}
        (hx : (s.map.bank k).cell cell.toNat = some x) :
        exec (.cellRead r (BitVec.ofNat 8 k.num) cell 2#8 side) s = .next (answer r 12 .done
          (cellFieldsView2 cell n s.mgmt.params (s.map.bank k) x)
          (s.taken (.cellRead r (BitVec.ofNat 8 k.num) cell 2#8 side))) := by
      rw [show exec (.cellRead r (BitVec.ofNat 8 k.num) cell 2#8 side) s = _ from live_serve_read_anyState hfree,
        bodyCellRead_cell k hcell, taken_eq hsettled, State.withMgmt_map, readCell_effective hside hx, ← hn]
      rfl
    refine ⟨fun x hx => ⟨?_, fun t ht => ?_, fun ht => ?_, fun hside => ?_, fun hside => ?_⟩,
      fun hx => ⟨?_, ?_, fun hside => ?_⟩, fun hside hne => ?_⟩
    · exact read 0#8 (fun u => readCell_targets _ cell side u) fun _ => congrArg (cellFieldsView0 cell) hx
    · exact read 1#8 (fun u => readCell_trim _ cell side u) fun _ =>
        (congrArg (cellFieldsView1 cell) hx).trans (cellFieldsView1_of_trim ht)
    · exact read 1#8 (fun u => readCell_trim _ cell side u) fun _ =>
        (congrArg (cellFieldsView1 cell) hx).trans (cellFieldsView1_of_no_trim ht)
    · exact effective side.toNat (.inl hside) (if_neg (by rintro rfl; exact absurd hside (by decide))) hx
    · exact effective _ (.inr hside) (if_pos hside) hx
    · exact read 0#8 (fun u => readCell_targets _ cell side u) fun _ => congrArg (cellFieldsView0 cell) hx
    · exact read 1#8 (fun u => readCell_trim _ cell side u) fun _ => congrArg (cellFieldsView1 cell) hx
    · rw [State.refuses, show exec (.cellRead r (BitVec.ofNat 8 k.num) cell 2#8 side) s = _ from
        live_serve_read_anyState hfree, bodyCellRead_cell k hcell, taken_eq hsettled, State.withMgmt_map, readCell_unwritten hside hx]
    · exact read 2#8 (fun u => readCell_badSide hside hne u) fun _ => rfl
  · exact exec_read rfl hfree hsettled (bodyCellRead_outside h) fun _ => rfl
  · exact exec_read rfl hfree hsettled (readBank_name k) fun _ => rfl
  · exact exec_read rfl hfree hsettled (readBank_plan k) fun _ => rfl
  · exact exec_read rfl hfree hsettled (readBank_sideTrims k) fun _ => rfl
  · exact exec_read rfl hfree hsettled (readBank_outside h) fun _ => rfl
  · refine exec_read rfl hfree hsettled (readMove_setting st) fun _ => ?_
    rw [moveFields, moveFlags_eq]
    rfl
  · exact exec_read rfl hfree hsettled (readMove_outside h) fun _ => rfl
  · refine exec_read rfl hfree hsettled (fun _ => rfl) fun _ => ?_
    rw [State.withMgmt_regulator, State.withMgmt_partTime]
    refine regulatorFields_of_parts ?_ ?_ (hleft _) (regulatorFlags_eq _) ?_ rfl ?_
    · cases s.regulator.safeCause with
      | none => rfl
      | some cause => cases cause <;> rfl
    · cases s.regulator.window with
      | none => rfl
      | some w =>
        obtain ⟨w, _⟩ := w
        cases w <;> rfl
    · cases s.regulator.trial <;> rfl
    · cases s.regulator.last <;> rfl
  · have hpending (k : Nat) := s.guards.mem_setOf (fun g => decide (g.state = .pending)) k
    simp only [decide_eq_true_iff] at hpending
    exact ⟨_, _, _, _, hpending, s.guards.mem_setOf (fun g => g.config.masked), s.guards.mem_setOf Guard.condition,
      s.guards.mem_setOf Guard.armed, exec_read rfl hfree hsettled (peekGuards_sets n) fun _ => rfl⟩
  · intro a g dwells k view
    have hview (place : Nat) (slip : Bool) (hplace : s.guards.position n = place) (hslip : s.guards.slipRuns n = slip) :
        view place slip := by
      refine exec_read rfl hfree hsettled (peekGuards_source n) fun _ => ?_
      rw [State.withMgmt_guards, State.withMgmt_partTime, guardFields, hplace, hslip, hleft]
      rfl
    have hruns (h : dwells) : s.guards.slipRuns n = true := Arbiter.slipRuns_iff.mpr h
    have hstill (h : ¬dwells) : s.guards.slipRuns n = false := Bool.eq_false_iff.mpr fun hr => h (Arbiter.slipRuns_iff.mp hr)
    refine ⟨fun p hp hfirst => ?_, fun hout => ?_⟩
    · have hplace := Arbiter.position_of_first hp hfirst
      exact ⟨fun h => hview p true hplace (hruns h), fun h => hview p false hplace (hstill h)⟩
    · have hplace := Arbiter.position_of_not_mem hout
      exact ⟨fun h => hview 255 true hplace (hruns h), fun h => hview 255 false hplace (hstill h)⟩
  · exact exec_read rfl hfree hsettled (peekGuards_outside h) fun _ => rfl
  · refine exec_read rfl hfree hsettled (fun _ => rfl) fun _ => ?_
    rw [substituteFields, substituteFlags, State.withMgmt_safe, State.withMgmt_regulator, State.withMgmt_pins]
    cases s.regulator.safeCause with
    | none => rfl
    | some cause => cases cause <;> rfl
  · exact exec_read rfl hfree hsettled (readParam_inForce k) fun _ => rfl
  · exact exec_read rfl hfree hsettled (readParam_pending k) fun _ => rfl
  · exact exec_read rfl hfree hsettled (fun _ => rfl) fun _ => rfl
  · exact exec_read rfl hfree hsettled (readParam_outside h) fun _ => rfl

end Sys2Proof.Machine
end

section
/-! PROOF. Regulation starts and stops (O54). -/

namespace Sys2Proof.Machine

variable {s t u v : State} {r : Sender} {next : RegState} {cause : SafeCause} {cursor : Nat} {exhausted release : Bool}

/-! ### An entry beside a picture: the picture before it and after it changes nothing of what the entry does -/

theorem leftSafe_of_same (hregulator : u.regulator = s.regulator) (hpins : u.pins = s.pins) (hnotices : u.notices = s.notices)
    (hparams : u.mgmt.params = s.mgmt.params) (htime : u.partTime = s.partTime) (h : u.leftSafe t next) : s.leftSafe t next := by
  have hraised (subject : Nat) (detail : Word16) :=
    notices_raiseNotice_congr (kind := .safeLeft) (subject := subject) (detail := detail) hnotices hparams htime
  unfold State.leftSafe at *
  rw [hraised, hregulator, hpins, hnotices] at h
  exact h

theorem leftSafe_beside (hs : OnlyTouches [.pictures, .order] s u) (h : u.leftSafe t next)
    (ht : OnlyTouches [.pictures, .order] t v) : s.leftSafe v next := by
  have hsame := leftSafe_of_same (hs.regulator (by decide)) (hs.pins (by decide)) (hs.notices (by decide))
    (by rw [hs.mgmt (by decide)]) (hs.partTime (by decide)) h
  unfold State.leftSafe at *
  rw [ht.pins (by decide), ht.notices (by decide)]
  exact hsame

theorem safeEntered_beside (hs : OnlyTouches [.pictures, .order] s u) (h : u.safeEntered t cause)
    (ht : OnlyTouches [.pictures, .order] t v) : s.safeEntered v cause := by
  obtain ⟨hregulator, hrecord, hmoves, hline, hnotices, hchannels, htouches⟩ := h
  refine ⟨?_, fun st => ?_, ?_, ?_, ?_, ?_, ((hs.mono (by decide)).trans htouches).trans (ht.mono (by decide))⟩
  · rw [ht.regulator (by decide), hregulator, hs.regulator (by decide)]
  · have hgoal (g : Goal) : (giveGoal st g u).record st = (giveGoal st g s).record st := by
      unfold State.record
      rw [giveGoal_moves_congr (hs.moves (by decide)) (by rw [hs.mgmt (by decide)]) (hs.partTime (by decide))]
    have hsame : v.record st = t.record st ∧ u.record st = s.record st := by
      unfold State.record
      rw [ht.moves (by decide), hs.moves (by decide)]
      exact ⟨rfl, rfl⟩
    rw [hsame.1, hrecord st, hs.safe (by decide)]
    cases s.safe.substitute.values.get st with
    | none => exact hsame.2
    | some value => exact hgoal _
  · rw [ht.moves (by decide), hmoves, hs.moves (by decide)]
  · rw [ht.pins (by decide), hline]
  · rw [ht.notices (by decide), hnotices, hs.safe (by decide)]
    exact notices_raiseNotice_congr (hs.notices (by decide)) (by rw [hs.mgmt (by decide)]) (hs.partTime (by decide))
  · rw [ht.channels (by decide), hchannels, hs.channels (by decide)]

theorem pausedBy_beside (hs : OnlyTouches [.pictures, .order] s u) (h : u.pausedBy t release)
    (ht : OnlyTouches [.pictures, .order] t v) : s.pausedBy v release := by
  obtain ⟨hregulator, hmoves, hchannels, hleft, htouches⟩ := h
  refine ⟨?_, ?_, ?_, leftSafe_beside hs hleft ht, ((hs.mono (by decide)).trans htouches).trans (ht.mono (by decide))⟩
  · rw [ht.regulator (by decide), hregulator, hs.regulator (by decide)]
  · rw [ht.moves (by decide), hmoves, hs.mgmt (by decide)]
    cases release with
    | false => exact hs.moves (by decide)
    | true => exact giveGoal_moves_congr (hs.moves (by decide)) (by rw [hs.mgmt (by decide)]) (hs.partTime (by decide))
  · rw [ht.channels (by decide), hchannels, hs.channels (by decide)]

theorem followed_beside (hs : OnlyTouches [.pictures, .order] s u) (h : u.followed t cursor exhausted)
    (ht : OnlyTouches [.pictures, .order] t v) : s.followed v cursor exhausted := by
  obtain ⟨hregulator, hgiven, hmoves, hchannels, hleft, htouches⟩ := h
  refine ⟨?_, fun c hc st => ?_, ?_, ?_, leftSafe_beside hs hleft ht,
    ((hs.mono (by decide)).trans htouches).trans (ht.mono (by decide))⟩
  · rw [ht.regulator (by decide), allSettled_of_moves (ht.moves (by decide)), hregulator, hs.regulator (by decide),
      hs.mgmt (by decide), hs.partTime (by decide)]
  · have hbank : u.activeBank = s.activeBank := by rw [State.activeBank, State.activeBank, hs.map (by decide)]
    have hgoal (g : Goal) : (giveGoal st g u).record st = (giveGoal st g s).record st := by
      unfold State.record
      rw [giveGoal_moves_congr (hs.moves (by decide)) (by rw [hs.mgmt (by decide)]) (hs.partTime (by decide))]
    obtain ⟨htarget, hrecord⟩ := hgiven c ((cellInUse_of_touches hs (by decide)).trans hc) st
    rw [hs.mgmt (by decide), hbank, hs.classifier (by decide)] at htarget hrecord
    refine ⟨by rw [ht.regulator (by decide), htarget], ?_⟩
    rw [State.record, ht.moves (by decide)]
    exact hrecord.trans (hgoal _)
  · rw [ht.moves (by decide), hmoves, hs.moves (by decide)]
  · rw [ht.channels (by decide), hchannels, hs.channels (by decide)]

/-! ### START -/

/-- What the start event does for each effective action (R118). -/
theorem takeStart_takes (s : State) :
    (s.guards.effective = .safeSet → s.regulator.state ≠ .safe → s.safeEntered (takeStart s) .guard) ∧
    (s.guards.effective = .safeSet → s.regulator.state = .safe → takeStart s = changeSafeCause .guard s) ∧
    (s.guards.effective = .openConcave → s.pausedBy (takeStart s) true) ∧
    (s.guards.effective = .pause → s.pausedBy (takeStart s) false) ∧
    (s.guards.effective = .noticeOnly → s.followed (takeStart s) 0 false) := by
  unfold takeStart
  refine ⟨fun ha hstate => ?_, fun ha hstate => ?_, fun ha => ?_, fun ha => ?_, fun ha => ?_⟩
  · rw [ha]
    exact (if_neg hstate).symm ▸ safeEntered_enterSafe .guard s
  · rw [ha]
    exact if_pos hstate
  · rw [ha]
    exact pausedBy_enterPausedOpen s
  · rw [ha]
    exact pausedBy_enterPaused s
  · rw [ha]
    exact followed_enterFollow s

/-- The part is REGULATING, and START has yet to be handed to the regulator. -/
def State.startTaken (s : State) (r : Sender) : State :=
  (s.taken (.start r)).withMgmt { (s.taken (.start r)).mgmt with partState := .regulating }

theorem startRegulating_takes (h : s.settled) : (startRegulating (s.taken (.start r))).mgmt = (s.startTaken r).mgmt ∧
    (s.guards.effective = .safeSet → s.regulator.state ≠ .safe →
      (s.startTaken r).safeEntered (startRegulating (s.taken (.start r))) .guard) ∧
    (s.guards.effective = .safeSet → s.regulator.state = .safe →
      (startRegulating (s.taken (.start r))).regulator = { s.regulator with safeCause := some .guard } ∧
      OnlyTouches [.regulator, .pictures, .order] (s.startTaken r) (startRegulating (s.taken (.start r)))) ∧
    (s.guards.effective = .openConcave → (s.startTaken r).pausedBy (startRegulating (s.taken (.start r))) true) ∧
    (s.guards.effective = .pause → (s.startTaken r).pausedBy (startRegulating (s.taken (.start r))) false) ∧
    (s.guards.effective = .noticeOnly → (s.startTaken r).followed (startRegulating (s.taken (.start r))) 0 false) := by
  obtain ⟨u, hu, ht⟩ := interleave_publish takeStart (s.startTaken r)
  have hstart := takeStart_takes u
  have hw : (s.startTaken r).guards = s.guards ∧ (s.startTaken r).regulator = s.regulator := by
    rw [State.startTaken, taken_eq h]
    exact ⟨rfl, rfl⟩
  rw [hu.guards (by decide), hu.regulator (by decide), hw.1, hw.2] at hstart
  obtain ⟨hsafe, hcause, hopen, hpause, hfollow⟩ := hstart
  have ht' := ht.mono (show [Block.pictures] ⊆ [.pictures, .order] by decide)
  refine ⟨(startRegulating_after _).1, fun ha hs => safeEntered_beside hu (hsafe ha hs) ht', fun ha hs => ?_,
    fun ha => pausedBy_beside hu (hopen ha) ht', fun ha => pausedBy_beside hu (hpause ha) ht',
    fun ha => followed_beside hu (hfollow ha) ht'⟩
  have hchange := hcause ha hs
  rw [hchange] at ht
  have htouches : OnlyTouches [.regulator, .pictures] u (changeSafeCause .guard u) :=
    touches_publish (by decide) (touches_withRegulator (by decide) (.refl _ u) _)
  refine ⟨(ht.regulator (by decide)).trans ?_,
    ((hu.mono (by decide)).trans (htouches.mono (by decide))).trans (ht.mono (by decide))⟩
  change { u.regulator with safeCause := some .guard } = _
  rw [hu.regulator (by decide), hw.2]

theorem cellInUse_startTaken (h : s.settled) : (s.startTaken r).cellInUse = s.cellInUse := by
  rw [State.startTaken, taken_eq h]
  rfl

/-- What the regulator reads of the state START leaves it. -/
theorem startTaken_reads (h : s.settled) : (s.startTaken r).mgmt.params = s.mgmt.params ∧
    (s.startTaken r).activeBank = s.activeBank ∧ (s.startTaken r).classifier = s.classifier := by
  rw [State.startTaken, taken_eq h]
  exact ⟨rfl, rfl, rfl⟩

theorem exec_start (h : s.admits r .modifying inReady) (hvalid : s.activeBank.valid = true)
    (hloaded : s.safe.substitute.loaded = true) :
    exec (.start r) s = .next (answer r 41 .done [] (startRegulating (s.taken (.start r)))) := by
  rw [show exec (.start r) s = _ from live_serve_of_admits h, State.startRefusal, taken_safe, hloaded, State.activeBank,
    taken_map h.settled, if_neg (by rw [show (s.map.bank s.map.active).valid = true from hvalid]; decide),
    if_neg (by decide)]
  rfl

theorem startRefusal_eq (c : Instr) (h : s.settled) : (s.taken c).startRefusal = s.startRefusal := by
  rw [State.startRefusal, taken_safe, State.activeBank, taken_map h]
  rfl

/-! ### STOP -/

theorem takeSettled_of_resting {st : Setting} (h : s.regulator.state = .idle ∨ s.regulator.state = .safe) :
    takeSettled st s = s := by
  unfold takeSettled
  rcases h with h | h <;> rw [h]

/-- Deferred goals discarded while the regulator takes no settled event: the records lose them, and a picture is made. -/
theorem discardDeferred_resting (h : s.regulator.state = .idle ∨ s.regulator.state = .safe) :
    OnlyTouches [.pictures, .order] (s.withMoves s.moves.dropDeferred) (discardDeferred s) := by
  refine interleave_keeps (fun t => OnlyTouches [.pictures, .order] (s.withMoves s.moves.dropDeferred) t) _ _
    (fun o => touches_withOrder (by decide) (.refl _ _) o) fun chain hchain g hg t ht => ?_
  obtain ⟨l, hl, hcl⟩ := List.mem_flatten.mp hchain
  obtain ⟨st, -, rfl⟩ := List.mem_map.mp hl
  simp only [settledHandings, List.mem_cons, List.not_mem_nil, or_false] at hcl
  rcases hcl with rfl | rfl
  · obtain rfl := List.mem_singleton.mp hg
    have hstate : t.regulator.state = .idle ∨ t.regulator.state = .safe := by
      rw [ht.regulator (by decide)]
      exact h
    rw [takeSettled_of_resting hstate]
    exact ht
  · obtain rfl := List.mem_singleton.mp hg
    exact touches_publish (by decide) ht

theorem dropDeferred_get (m : MoveUnit) (st : Setting) :
    m.dropDeferred.records.get st = { m.records.get st with deferred := none } := PerSetting.get_tabulate _ st

/-- What the regulator leaves when it takes the stop event. -/
structure Stopped (s t : State) : Prop where
  regulator : t.regulator = { s.regulator with
    state := .idle, safeCause := s.regulator.causeOutsideSafe, window := none, trial := none }
  left : s.leftSafe t .idle
  channels : t.channels = { s.channels with gate := false }
  moves : t.moves = s.moves.dropDeferred
  touches : OnlyTouches touchCycle s t

theorem takeStop_stops (s : State) : Stopped s (takeStop s) := by
  have habandon := touches_abandonCycle_own s
  have hleft := leaveSafe_left .idle (abandonCycle s)
  unfold takeStop
  dsimp only
  generalize leaveSafe .idle (abandonCycle s) = u at hleft
  have hreg : { u.regulator with state := RegState.idle } = { s.regulator with
      state := .idle, safeCause := s.regulator.causeOutsideSafe, window := none, trial := none } := by
    rw [hleft.regulator]
    rfl
  obtain ⟨v, hv, ht⟩ := interleave_publish discardDeferred (u.withRegulator { u.regulator with state := .idle })
  have hidle : v.regulator.state = .idle := by
    rw [hv.regulator (by decide)]
    rfl
  have hdrop := discardDeferred_resting (.inl hidle)
  have hvm : OnlyTouches [.pictures, .order, .regulator] u v :=
    (touches_withRegulator (by decide) (.refl _ u) _).trans (hv.mono (by decide))
  have hend : OnlyTouches [.pictures, .order] (v.withMoves v.moves.dropDeferred)
      (interleave [[publish], [discardDeferred]] (u.withRegulator { u.regulator with state := .idle })) :=
    hdrop.trans (ht.mono (by decide))
  have hall : OnlyTouches [.pictures, .order, .moves, .regulator] u
      (interleave [[publish], [discardDeferred]] (u.withRegulator { u.regulator with state := .idle })) :=
    (hvm.mono (by decide)).trans ((touches_withMoves (by decide) (.refl _ v) _).trans (hend.mono (by decide)))
  refine ⟨?_, ?_, ?_, ?_, ((habandon.mono (by decide)).trans (hleft.touches.mono (by decide))).trans (hall.mono (by decide))⟩
  · rw [hend.regulator (by decide), State.withMoves_regulator, hv.regulator (by decide), ← hreg]
    rfl
  · have hl := hleft.left
    unfold State.leftSafe at hl ⊢
    have hnotices (subject : Nat) (detail : Word16) := notices_raiseNotice_congr (kind := .safeLeft) (subject := subject)
      (detail := detail) (habandon.notices (by decide)) (by rw [habandon.mgmt (by decide)]) (habandon.partTime (by decide))
    rw [hnotices, habandon.pins (by decide), habandon.notices (by decide)] at hl
    rw [hall.pins (by decide), hall.notices (by decide)]
    exact hl
  · rw [hall.channels (by decide), hleft.touches.channels (by decide)]
    rfl
  · rw [hend.moves (by decide), State.withMoves_moves, hvm.moves (by decide), hleft.touches.moves (by decide),
      habandon.moves (by decide)]

theorem stopped_beside (hs : OnlyTouches [.pictures, .order] s u) (h : Stopped u t) (ht : OnlyTouches [.pictures, .order] t v) :
    Stopped s v where
  regulator := by rw [ht.regulator (by decide), h.regulator, hs.regulator (by decide)]
  left := leftSafe_beside hs h.left ht
  channels := by rw [ht.channels (by decide), h.channels, hs.channels (by decide)]
  moves := by rw [ht.moves (by decide), h.moves, hs.moves (by decide)]
  touches := ((hs.mono (by decide)).trans h.touches).trans (ht.mono (by decide))

/-- STOP taken, with the picture before or after the stop event. -/
theorem stopRegulating_stops (s : State) : Stopped (s.withMgmt { s.mgmt with partState := .ready }) (stopRegulating s) := by
  obtain ⟨u, hu, ht⟩ := interleave_publish takeStop (s.withMgmt { s.mgmt with partState := .ready })
  exact stopped_beside hu (takeStop_stops u) (ht.mono (by decide))

theorem exec_stop (h : s.admits r .modifying inRegulating) :
    exec (.stop r) s = .next (answer r 42 .done [] (stopRegulating (s.taken (.stop r)))) := by
  rw [show exec (.stop r) s = _ from live_serve_of_admits h, refuseOr_none]

/-- In a sound cycle SAFE_OUT is inactive once SAFE is left, and no SAFE cause stays. -/
theorem outsideSafe_of_cycleSound (hs : s.cycleSound = true) (h : s.leftSafe t next) :
    t.pins.safeOut = false ∧ s.regulator.causeOutsideSafe = none := by
  simp only [State.cycleSound, Bool.and_eq_true, beq_iff_eq] at hs
  obtain ⟨⟨⟨⟨-, hcause⟩, hline⟩, -⟩, -⟩ := hs
  unfold State.leftSafe at h
  unfold Regulator.causeOutsideSafe
  by_cases hsafe : s.regulator.state = .safe
  · rw [if_pos hsafe] at h ⊢
    exact ⟨h.1, rfl⟩
  · rw [if_neg hsafe] at h ⊢
    rw [decide_eq_false hsafe] at hcause hline
    exact ⟨h.1.trans (hline.trans (Bool.and_false _)), Option.isSome_eq_false_iff.mp hcause |> Option.isNone_iff_eq_none.mp⟩

/-- Settles O54: the regulator's start and stop events, each beside the picture of the part state. -/
theorem regulationStartsAndStops : Obligations.RegulationStartsAndStops := by
  refine ⟨fun r s h => ⟨fun hinvalid => ?_, fun hvalid hloaded => ?_, fun hvalid hloaded hidle => ?_⟩,
    fun r s h hvalid hloaded hstate => ?_, fun r s h hcycle => ?_⟩
  · rw [show exec (.start r) s = _ from live_serve_of_admits h, startRefusal_eq _ h.settled, State.startRefusal, if_pos hinvalid]
    rfl
  · rw [show exec (.start r) s = _ from live_serve_of_admits h, startRefusal_eq _ h.settled, State.startRefusal,
      if_neg (by rw [hvalid]; decide), if_pos hloaded]
    rfl
  · obtain ⟨hmgmt, hsafe, -, hopen, hpause, hfollow⟩ := startRegulating_takes (r := r) h.settled
    refine ⟨_, exec_start h hvalid hloaded, hmgmt, fun ha => ?_, fun ha => ?_, fun ha => ?_⟩
    · obtain ⟨hregulator, -, -, hline, -⟩ := hsafe ha (by rw [hidle]; decide)
      rw [hregulator]
      exact ⟨rfl, rfl, hline⟩
    · rcases ha with ha | ha
      · rw [(hopen ha).1]
      · rw [(hpause ha).1]
    · obtain ⟨hregulator, hgiven, -⟩ := hfollow ha
      have htargets (x : CellRecord) (st : Setting) (hx : s.cellInUse = some x) :=
        (hgiven x ((cellInUse_startTaken h.settled).trans hx) st).1
      obtain ⟨hparams, hbank, hclassifier⟩ := startTaken_reads (r := r) h.settled
      rw [hparams, hbank, hclassifier] at htargets
      refine ⟨?_, ?_, ?_, ?_, fun x st hx => htargets x st hx⟩
      all_goals rw [hregulator]
      split
      · exact .inr rfl
      · exact .inl rfl
  · obtain ⟨hmgmt, hsafe, hcause, hopen, hpause, hfollow⟩ := startRegulating_takes (r := r) h.settled
    exact ⟨_, exec_start h hvalid hloaded, hmgmt, fun ha hidle => hsafe ha (by rw [hidle]; decide), hcause, hopen, hpause, hfollow⟩
  · have hstop := stopRegulating_stops (s.taken (.stop r))
    have hmgmt := (stopRegulating_after (s.taken (.stop r))).1
    have hexec := exec_stop h
    generalize stopRegulating (s.taken (.stop r)) = u at hstop hmgmt hexec
    have hleft : s.leftSafe u .idle := by
      refine leftSafe_of_same ?_ ?_ ?_ ?_ ?_ hstop.left <;> rw [taken_eq h.settled] <;> rfl
    obtain ⟨hline, hcause⟩ := outsideSafe_of_cycleSound hcycle hleft
    have hregulator := hstop.regulator
    have hchannels := hstop.channels
    have hmoves := hstop.moves
    rw [State.withMgmt_regulator, taken_regulator h.settled, hcause] at hregulator
    rw [State.withMgmt_moves, taken_moves h.settled] at hmoves
    refine ⟨u, hexec, hleft, hmgmt, hregulator, hline, by rw [hchannels], by rw [hmoves]; rfl, by rw [hmoves]; rfl, fun st => ?_⟩
    rw [State.record, hmoves, dropDeferred_get]
    rfl

end Sys2Proof.Machine
end

section
/-! PROOF. The owner is lost (O49). -/

namespace Sys2Proof.Machine

variable {s t u : State} {r : Sender} {st : Setting} {was : PartState}

/-! ### Deferred goals gone -/

/-- The groups are released, and no goal waits. -/
structure NoneDeferred (s : State) : Prop where
  thresh : s.moves.heldThresh = false
  clean : s.moves.heldClean = false
  deferred : ∀ st, (s.record st).deferred = none

theorem noneDeferred_of_moves (h : t.moves = s.moves) (hs : NoneDeferred s) : NoneDeferred t := by
  obtain ⟨hthresh, hclean, hdeferred⟩ := hs
  refine ⟨h ▸ hthresh, h ▸ hclean, fun st => ?_⟩
  rw [State.record, h]
  exact hdeferred st

theorem groupHeld_of_noneDeferred (hs : NoneDeferred s) (st : Setting) : s.groupHeld st = false := by
  rw [State.groupHeld, hs.thresh, hs.clean, ite_self]

/-- A goal given while no group is held is not deferred. -/
theorem giveGoal_record_deferred (g : Goal) (hfree : s.groupHeld st = false) :
    ((giveGoal st g s).record st).deferred = none := by
  have hstored : ((storeGoal st g s).record st).deferred = none := by rw [storeGoal, setRecord_record, if_pos rfl]
  by_cases hkept : s.goalKept st = true
  · rw [giveGoal_of_kept hkept]
    exact hstored
  · rw [giveGoal_of_free hkept (fun h => by rw [hfree] at h; cases h.2)]
    have hgoal : ((storeGoal st g s).record st).goal = some g := by rw [storeGoal, setRecord_record, if_pos rfl]
    rw [issueSet, hgoal]
    rw [State.record, queueSet_moves, ← State.record, setRecord_record, if_pos rfl]
    exact hstored

theorem noneDeferred_giveGoal (st : Setting) (g : Goal) (hs : NoneDeferred s) : NoneDeferred (giveGoal st g s) := by
  have hmoves := giveGoal_moves st g s
  refine ⟨by rw [hmoves]; exact hs.thresh, by rw [hmoves]; exact hs.clean, fun o => ?_⟩
  by_cases ho : o = st
  · subst ho
    exact giveGoal_record_deferred g (groupHeld_of_noneDeferred hs o)
  · rw [giveGoal_other st o g s ho]
    exact hs.deferred o

theorem noneDeferred_quiet : Quiet NoneDeferred where
  touches h := noneDeferred_of_moves (h.moves (by decide))
  regulator _ {_} _ := noneDeferred_of_moves rfl
  result _ {_} := noneDeferred_of_moves rfl
  openGate := noneDeferred_of_moves rfl
  closeGate := noneDeferred_of_moves rfl
  safeOut _ _ := noneDeferred_of_moves rfl
  publish := noneDeferred_of_moves rfl
  notice _ _ _ {s} := noneDeferred_of_moves ((touches_raiseNotice (T := touchNotices) (by decide) (.refl _ s) _ _ _).moves (by decide))
  goal st g {_} := noneDeferred_giveGoal st g

theorem noneDeferred_moveOwnerLoss (s : State) : NoneDeferred (moveOwnerLoss s) := by
  refine keeps_interleave (fun o => ?_) (noneDeferred_quiet.steady.settledOf _)
  refine ⟨rfl, rfl, fun st => ?_⟩
  rw [State.record, State.withOrder_moves, State.withMoves_moves, dropDeferred_get]

/-! ### The regulator's states -/

/-- The search for the next step ends in HOLD or in a trial. -/
theorem tryNextStep_state (s : State) : (tryNextStep s).regulator.state ∈ [RegState.hold, .trialMove, .trialSettle] := by
  unfold tryNextStep
  split
  · exact List.mem_cons_self
  · split
    · unfold startTrial
      dsimp only
      split
      · exact .tail _ (.tail _ List.mem_cons_self)
      · exact .tail _ List.mem_cons_self
    · exact List.mem_cons_self

theorem revertSettled_state (s : State) : (revertSettled s).regulator.state ∈ [RegState.hold, .trialMove, .trialSettle] := by
  unfold revertSettled tryOrHold
  split
  · exact tryNextStep_state _
  · exact List.mem_cons_self

/-- A settled event leaves the regulator's state, or ends in a state of the cycle. -/
theorem takeSettled_state (st : Setting) (s : State) : (takeSettled st s).regulator.state = s.regulator.state ∨
    (takeSettled st s).regulator.state ∈ [RegState.settle, .hold, .trialMove, .trialSettle] := by
  unfold takeSettled
  split
  case h_1 =>
    split
    · exact .inr List.mem_cons_self
    · exact .inl rfl
  case h_2 =>
    split
    · exact .inr (.tail _ (.tail _ (.tail _ List.mem_cons_self)))
    · exact .inl rfl
  case h_3 =>
    split
    · exact .inr (.tail _ (revertSettled_state s))
    · exact .inl rfl
  case h_4 => exact .inl rfl

/-- The regulator is at work: neither IDLE nor in SAFE. -/
def State.working (s : State) : Prop := s.regulator.state ≠ .idle ∧ s.regulator.state ≠ .safe

theorem working_takeSettled (st : Setting) (h : s.working) : (takeSettled st s).working := by
  rcases takeSettled_state st s with hsame | hcycle
  · unfold State.working
    rw [hsame]
    exact h
  · unfold State.working
    generalize (takeSettled st s).regulator.state = x at hcycle
    simp only [List.mem_cons, List.not_mem_nil, or_false] at hcycle
    rcases hcycle with rfl | rfl | rfl | rfl <;> exact ⟨nofun, nofun⟩

theorem working_moveOwnerLoss (h : s.working) : (moveOwnerLoss s).working :=
  keeps_interleave (P := State.working) (fun _ => h) (settledOf_keep (fun _ _ => working_takeSettled _) (fun h => h) _)

/-- At rest, the regulator takes nothing from the deferred goals discarded. -/
theorem touches_moveOwnerLoss_resting (h : s.regulator.state = .idle ∨ s.regulator.state = .safe) :
    OnlyTouches [.moves, .pictures, .order] s (moveOwnerLoss s) :=
  ((touches_withMoves (by decide) (.refl _ s) _).trans (touches_withMoves (by decide) (.refl _ _) _)).trans
    ((discardDeferred_resting (s := s.withMoves { s.moves with heldThresh := false, heldClean := false }) h).mono (by decide))

/-! ### Owner loss -/

/-- The owner-loss event finds the regulator in a state of the cycle, in PAUSED, or in a SAFE that is whole. -/
structure ReadyForLoss (s : State) : Prop where
  started : s.regulator.state ≠ .idle
  safe : s.regulator.state = .safe → s.pins.safeOut = true ∧ s.channels.gate = false ∧ s.regulator.window = none

/-- SAFE for owner loss. -/
structure SafeForLoss (s : State) : Prop where
  state : s.regulator.state = .safe
  cause : s.regulator.safeCause = some .ownerLoss
  line : s.pins.safeOut = true
  gate : s.channels.gate = false
  window : s.regulator.window = none

theorem readyForLoss_moveOwnerLoss (h : ReadyForLoss s) : ReadyForLoss (moveOwnerLoss s) := by
  by_cases hsafe : s.regulator.state = .safe
  · have ht := touches_moveOwnerLoss_resting (.inr hsafe)
    refine ⟨by rw [ht.regulator (by decide)]; exact h.started, fun _ => ?_⟩
    rw [ht.regulator (by decide), ht.pins (by decide), ht.channels (by decide)]
    exact h.safe hsafe
  · obtain ⟨hidle, hnot⟩ := working_moveOwnerLoss ⟨h.started, hsafe⟩
    exact ⟨hidle, fun hs => absurd hs hnot⟩

theorem safeForLoss_moveOwnerLoss (h : SafeForLoss s) : SafeForLoss (moveOwnerLoss s) := by
  have ht := touches_moveOwnerLoss_resting (.inr h.state)
  exact ⟨by rw [ht.regulator (by decide)]; exact h.state, by rw [ht.regulator (by decide)]; exact h.cause,
    by rw [ht.pins (by decide)]; exact h.line, by rw [ht.channels (by decide)]; exact h.gate,
    by rw [ht.regulator (by decide)]; exact h.window⟩

theorem regOwnerLoss_of_working (h : s.working) : s.safeEntered (regOwnerLoss .regulating s) .ownerLoss := by
  have hentered := safeEntered_enterSafe .ownerLoss s
  obtain ⟨hidle, hsafe⟩ := h
  unfold regOwnerLoss
  rw [if_pos rfl]
  split
  · exact absurd ‹_› hidle
  · exact absurd ‹_› hsafe
  · exact hentered

theorem regOwnerLoss_of_safe (h : s.regulator.state = .safe) :
    regOwnerLoss .regulating s = changeSafeCause .ownerLoss s := by
  rw [regOwnerLoss, if_pos rfl, h]

theorem safeForLoss_regOwnerLoss (h : ReadyForLoss s) : SafeForLoss (regOwnerLoss .regulating s) := by
  by_cases hsafe : s.regulator.state = .safe
  · obtain ⟨hline, hgate, hwindow⟩ := h.safe hsafe
    rw [regOwnerLoss_of_safe hsafe]
    exact ⟨hsafe, rfl, hline, hgate, hwindow⟩
  · obtain ⟨hregulator, -, -, hline, -, hchannels, -⟩ := regOwnerLoss_of_working ⟨h.started, hsafe⟩
    exact ⟨by rw [hregulator], by rw [hregulator], hline, by rw [hchannels], by rw [hregulator]⟩

/-- The state from which the owner loss is handed on. -/
def State.ownerless (s : State) : State := stopBeat (s.withMgmt s.mgmt.loseOwner)

theorem loseOwner_eq (s : State) : loseOwner s = interleave
    ((if s.mgmt.partState = .awaitParam then [] else [[publish]]) ++ [[moveOwnerLoss], [regOwnerLoss s.mgmt.partState]])
    s.ownerless := rfl

/-- Each handing of an owner loss is a picture, the move unit's or the regulator's. -/
theorem mem_lossChains {c : List Handing} {g : Handing} (hc : c ∈ (if was = .awaitParam then [] else [[publish]]) ++
    [[moveOwnerLoss], [regOwnerLoss was]]) (hg : g ∈ c) : g = publish ∨ g = moveOwnerLoss ∨ g = regOwnerLoss was := by
  rcases List.mem_append.mp hc with hc | hc
  · split at hc
    · cases hc
    · obtain rfl := List.mem_singleton.mp hc
      exact .inl (List.mem_singleton.mp hg)
  · simp only [List.mem_cons, List.not_mem_nil, or_false] at hc
    rcases hc with rfl | rfl
    · exact .inr (.inl (List.mem_singleton.mp hg))
    · exact .inr (.inr (List.mem_singleton.mp hg))

theorem touches_loseOwner_ownerless (s : State) : OnlyTouches touchCycle s.ownerless (loseOwner s) := by
  refine touches_interleave (by decide) (.refl _ _) fun c hc g hg t ht => ?_
  rcases mem_lossChains hc hg with rfl | rfl | rfl
  · exact touches_publish (by decide) ht
  · exact touches_moveOwnerLoss (List.Subset.refl _) ht
  · exact touches_regOwnerLoss (List.Subset.refl _) ht _

theorem noneDeferred_loseOwner (s : State) : NoneDeferred (loseOwner s) := by
  rw [loseOwner_eq]
  refine interleave_once (P := fun _ => True) (Q := NoneDeferred) (g := moveOwnerLoss)
    (rest := (if s.mgmt.partState = .awaitParam then [] else [publish]) ++ [regOwnerLoss s.mgmt.partState]) ?_
    (fun _ => trivial) (fun _ _ _ _ => trivial) (fun t _ => noneDeferred_moveOwnerLoss t) fun g hg t ht => ?_
  · split
    · exact .refl _
    · exact .swap _ _ _
  · rcases List.mem_append.mp hg with hg | hg
    · split at hg
      · cases hg
      · obtain rfl := List.mem_singleton.mp hg
        exact noneDeferred_quiet.publish ht
    · obtain rfl := List.mem_singleton.mp hg
      exact noneDeferred_quiet.regOwnerLoss _ ht

theorem safeForLoss_loseOwner (hwas : s.mgmt.partState = .regulating) (h : ReadyForLoss s) : SafeForLoss (loseOwner s) := by
  rw [loseOwner_eq, hwas]
  refine interleave_once (P := ReadyForLoss) (Q := SafeForLoss) (g := regOwnerLoss .regulating) (rest := [publish, moveOwnerLoss])
    ?_ (fun _ => ⟨h.started, h.safe⟩) ?_ (fun _ => safeForLoss_regOwnerLoss) ?_
  · exact ((List.Perm.swap _ _ []).cons _).trans (.swap _ _ _)
  · simp only [List.mem_cons, List.not_mem_nil, or_false, forall_eq_or_imp, forall_eq]
    exact ⟨fun _ h => ⟨h.started, h.safe⟩, fun _ => readyForLoss_moveOwnerLoss⟩
  · simp only [List.mem_cons, List.not_mem_nil, or_false, forall_eq_or_imp, forall_eq]
    exact ⟨fun _ h => ⟨h.state, h.cause, h.line, h.gate, h.window⟩, fun _ => safeForLoss_moveOwnerLoss⟩

/-- A regulator at rest is left by the owner loss when the part is not REGULATING. -/
theorem loseOwner_regulator_resting (hwas : s.mgmt.partState ≠ .regulating)
    (h : s.regulator.state = .idle ∨ s.regulator.state = .safe) : (loseOwner s).regulator = s.regulator := by
  rw [loseOwner_eq]
  refine interleave_keeps (fun t => t.regulator = s.regulator) _ _ (fun _ => rfl) fun c hc g hg t ht => ?_
  rcases mem_lossChains hc hg with rfl | rfl | rfl
  · exact ht
  · rw [(touches_moveOwnerLoss_resting (ht ▸ h)).regulator (by decide), ht]
  · rw [regOwnerLoss, if_neg hwas, ht]

/-- What a sound cycle says of the regulator when the owner is lost. -/
theorem ofLoss_of_cycleSound (h : s.cycleSound = true) (hworks : s.works) :
    (s.mgmt.partState = .regulating → ReadyForLoss s) ∧
    (s.mgmt.partState ≠ .regulating → s.regulator.state = .idle ∨ s.regulator.state = .safe) := by
  simp only [State.cycleSound, Bool.and_eq_true, beq_iff_eq, Bool.or_eq_true, decide_eq_true_iff] at h
  obtain ⟨⟨⟨⟨⟨hwindow, hgate⟩, -⟩, hline⟩, hpart⟩, hidle⟩ := h
  refine ⟨fun hwas => ⟨hidle.resolve_left (not_not_intro hwas), fun hsafe => ?_⟩, fun hwas => hpart.resolve_right hwas⟩
  rw [hsafe] at hwindow hgate hline
  rw [show s.pins.inReset = false from hworks] at hline
  exact ⟨hline, hgate, Option.map_eq_none_iff.mp hwindow⟩

/-! ### The heartbeat and RELEASE OWNER -/

/-- The owner's request that is admitted in every part state runs its body, whatever the arbiter owes. -/
theorem serve_anyState_of_owner {c : Instr} {code : Nat} {mode : RequestMode} {body : State → State}
    (hbusy : s.mgmt.busy = false) (howner : s.mgmt.owner = some r.station) :
    serve c r code mode anyState body s = body (s.taken c) := by
  simp only [serve, judgeRequest]
  rw [show (takeRequest c s).mgmt.busy = false from taken_busy.trans hbusy,
    show ownerTest mode r (takeRequest c s) = _ from ownerTest_taken_of_passes (.inr howner)]
  rfl

theorem exec_heartbeatExpiry (hworks : s.works) (hrun : s.safe.beatRunning = true) (hcount : s.safe.beatCount = 0#16) :
    exec .heartbeatExpiry s = .next (beatExpires s) := by
  have harm : exec .heartbeatExpiry s = execHeartbeatExpiry s := rfl
  rw [harm, execHeartbeatExpiry, live_of_works hworks, State.beatDue, hrun, hcount]
  rfl

/-- Settles O49: what an owner loss leaves, by the block each of its handings changes. -/
theorem theOwnerIsLost : Obligations.TheOwnerIsLost := by
  refine ⟨fun s _ hcycle hworks => ?_, fun s => ⟨fun hidle hsafe => regOwnerLoss_of_working ⟨hidle, hsafe⟩,
    regOwnerLoss_of_safe, fun p hp => if_neg hp⟩, fun s hworks hrun hcount => exec_heartbeatExpiry hworks hrun hcount,
    fun r s hfree => ⟨fun howner => ?_, fun howner => ?_⟩⟩
  · obtain ⟨hmgmt, hsafe⟩ := loseOwner_after s
    obtain ⟨hready, hrest⟩ := ofLoss_of_cycleSound hcycle hworks
    have hdeferred := noneDeferred_loseOwner s
    have htouches := touches_loseOwner_ownerless s
    refine ⟨by rw [hmgmt]; rfl, by rw [hmgmt]; rfl, by rw [hmgmt]; rfl, by rw [hmgmt]; rfl, by rw [hmgmt]; rfl,
      by rw [hmgmt]; rfl, by rw [hmgmt]; rfl, hsafe, hdeferred.thresh, hdeferred.clean, hdeferred.deferred, fun hwas => ?_,
      fun hwas => loseOwner_regulator_resting hwas (hrest hwas), htouches.map (by decide), htouches.guards (by decide),
      htouches.classifier (by decide), htouches.store (by decide), s.ownerless, ?_, loseOwner_eq s⟩
    · have hlost := safeForLoss_loseOwner hwas (hready hwas)
      exact ⟨hlost.state, hlost.cause, hlost.line, hlost.gate, hlost.window⟩
    · exact touches_withSafe (by decide) (touches_withMgmt (by decide) (.refl _ s) _) _
  · have harm : exec (.releaseOwner r) s = execReleaseOwner r s := rfl
    rw [harm, execReleaseOwner, live_of_works hfree.1, serve_anyState_of_owner hfree.2 howner]
  · have harm : exec (.releaseOwner r) s = execReleaseOwner r s := rfl
    rw [harm, execReleaseOwner, live_of_works hfree.1,
      serve_of_notOwner (mode := .noClaim) hfree.2 nofun (by rw [howner]; nofun) (.inr (.inr rfl))]

end Sys2Proof.Machine
end

section
/-! PROOF. Settling leads to measuring (O41). -/

namespace Sys2Proof.Machine

variable {s t : State} {st : Setting}

theorem allSettled_iff : s.allSettled = true ↔ ∀ o, (s.record o).settled = true := by
  rw [State.allSettled, List.all_eq_true]
  exact ⟨fun h o => h o (Setting.mem_all o), fun h o _ => h o⟩

theorem trialOn_iff {g : Regulator} : g.trialOn st = true ↔ ∃ x, g.trial = some x ∧ x.setting = st := by
  unfold Regulator.trialOn
  cases g.trial with
  | none => simp
  | some x => simp

/-- The trial's setting has settled. -/
theorem onTrial_iff : (s.regulator.trialOn st && (s.record st).settled) = true ↔
    (∃ x, s.regulator.trial = some x ∧ x.setting = st) ∧ (s.record st).settled = true := by
  rw [Bool.and_eq_true, trialOn_iff]

/-! ### Settled events -/

theorem takeSettled_follow (h : s.regulator.state = .follow) :
    takeSettled st s = if s.allSettled then enterSettle s else s := by
  rw [takeSettled, h]

theorem takeSettled_trialMove (h : s.regulator.state = .trialMove) : takeSettled st s =
    if s.regulator.trialOn st && (s.record st).settled then enterTrialSettle s else s := by
  rw [takeSettled, h]

theorem takeSettled_revert (h : s.regulator.state = .revert) : takeSettled st s =
    if s.regulator.trialOn st && (s.record st).settled then revertSettled s else s := by
  rw [takeSettled, h]

theorem takeSettled_otherwise (hf : s.regulator.state ≠ .follow) (hm : s.regulator.state ≠ .trialMove)
    (hr : s.regulator.state ≠ .revert) : takeSettled st s = s := by
  unfold takeSettled
  split
  · exact absurd ‹_› hf
  · exact absurd ‹_› hm
  · exact absurd ‹_› hr
  · rfl

/-! ### Window A -/

theorem exec_windowAExpiry (hworks : s.works) (h : s.windowDue .a = true) :
    exec .windowAExpiry s = .next (windowAEnds s) := by
  have harm : exec .windowAExpiry s = execWindowAExpiry s := rfl
  rw [harm, execWindowAExpiry, live_of_works hworks, h]
  rfl

theorem channel_openGate (s : State) (i : Fin 24) : s.channels.openGate.entries.get i =
    ⟨(s.channel i).defn, { (s.channel i).rt with
      sum := 0#32
      count := 0#16
      interrupted := (s.channel i).defn.enabled && (s.channel i).defn.role.isMeasured &&
        decide ((s.channel i).rt.lock = .lost) }⟩ := Table.get_map ..

/-- MEASURE or TRIAL_MEASURE entered: the gate opens on cleared accumulators, and timer B starts (R40, R122). -/
structure Measures (state : RegState) (s t : State) : Prop where
  regulator : t.regulator = { s.regulator with state := state, window := some (.b, ⟨s.partTime, s.mgmt.params.item 27 * 10⟩) }
  gate : t.channels.gate = true
  channel : ∀ i, t.channel i = ⟨(s.channel i).defn, { (s.channel i).rt with
    sum := 0#32
    count := 0#16
    interrupted := (s.channel i).defn.enabled && (s.channel i).defn.role.isMeasured &&
      decide ((s.channel i).rt.lock = .lost) }⟩
  touches : OnlyTouches [.regulator, .channels, .pictures] s t

theorem measures_enterMeasure (state : RegState) (s : State) : Measures state s (enterMeasure state s) where
  regulator := rfl
  gate := rfl
  channel := channel_openGate s
  touches := touches_publish (by decide) (touches_withRegulator (by decide) (touches_withChannels (by decide) (.refl _ s) _) _)

/-- Settles O41: settled events by the regulator's state, the entries, and the end of window A. -/
theorem settlingLeadsToMeasuring : Obligations.SettlingLeadsToMeasuring := by
  refine ⟨fun st s => ⟨fun hf hall => ?_, fun hf hnot => ?_, fun hm hon => ?_, fun hr hon => ?_, fun hmr hoff => ?_,
    takeSettled_otherwise⟩, fun s => ⟨rfl, rfl, rfl, rfl⟩, fun s hworks hdue => ?_⟩
  · rw [takeSettled_follow hf, allSettled_iff.mpr hall, if_pos rfl]
  · obtain ⟨o, ho⟩ := hnot
    rw [takeSettled_follow hf, if_neg fun hall => by rw [allSettled_iff.mp hall o] at ho; cases ho]
  · rw [takeSettled_trialMove hm, if_pos (onTrial_iff.mpr hon)]
  · rw [takeSettled_revert hr, if_pos (onTrial_iff.mpr hon)]
    rfl
  · rcases hmr with hm | hr
    · rw [takeSettled_trialMove hm, if_neg ((not_congr onTrial_iff).mpr hoff)]
    · rw [takeSettled_revert hr, if_neg ((not_congr onTrial_iff).mpr hoff)]
  · intro measures
    have hexec := exec_windowAExpiry hworks hdue
    have hends (state : RegState) (h : windowAEnds s = enterMeasure state s) :
        ∃ t, exec .windowAExpiry s = .next t ∧ measures t state := by
      obtain ⟨hregulator, hgate, hchannel, htouches⟩ := measures_enterMeasure state s
      exact ⟨_, h ▸ hexec, hregulator, hgate, hchannel, htouches⟩
    rw [windowAEnds] at hexec hends
    refine ⟨fun hstate hfeed => ?_, fun hstate hfeed => hends _ ?_, fun hstate => hends _ ?_, fun hstate hfeed => ?_⟩
    · rw [hexec, hstate]
      exact congrArg _ (if_pos hfeed)
    · rcases hstate with hstate | hstate <;> rw [hstate] <;> exact if_neg hfeed
    · rw [hstate]
    · rw [hexec, hstate]
      exact congrArg _ (if_pos hfeed)

end Sys2Proof.Machine
end

section
/-! PROOF. Trials: the search for a step, and the trial kept, reverted or abandoned (O44). -/

namespace Sys2Proof.Machine

variable {s t u : State} {st : Setting} {x : Regulator}

/-! ### What does not read the regulator commutes with it -/

theorem queueSet_withRegulator (st : Setting) (x : Regulator) (s : State) :
    queueSet st (s.withRegulator x) = (queueSet st s).withRegulator x := by
  unfold queueSet
  rw [show (s.withRegulator x).driveStation st = s.driveStation st from rfl,
    show (s.withRegulator x).record st = s.record st from rfl]
  cases s.driveStation st with
  | none => rfl
  | some d =>
    cases (s.record st).leg <;> rfl

theorem issueSet_withRegulator (st : Setting) (x : Regulator) (s : State) :
    issueSet st (s.withRegulator x) = (issueSet st s).withRegulator x := by
  unfold issueSet
  rw [show (s.withRegulator x).record st = s.record st from rfl]
  cases (s.record st).goal with
  | none => rfl
  | some g => exact queueSet_withRegulator st x (setRecord st ((s.record st).issue s.mgmt.params st s.partTime g.value) s)

theorem giveGoal_withRegulator (st : Setting) (g : Goal) (x : Regulator) (s : State) :
    giveGoal st g (s.withRegulator x) = (giveGoal st g s).withRegulator x := by
  by_cases hkept : s.goalKept st = true
  · rw [giveGoal_of_kept hkept, giveGoal_of_kept (s := s.withRegulator x) hkept]
    rfl
  · by_cases hheld : g.source = .regulator ∧ s.groupHeld st = true
    · rw [giveGoal_of_held hkept hheld, giveGoal_of_held (s := s.withRegulator x) hkept hheld]
      rfl
    · rw [giveGoal_of_free hkept hheld, giveGoal_of_free (s := s.withRegulator x) hkept hheld]
      exact issueSet_withRegulator st x (storeGoal st g s)

theorem sendAttention_withRegulator (x : Regulator) (s : State) :
    sendAttention (s.withRegulator x) = (sendAttention s).withRegulator x := by
  unfold sendAttention
  rw [State.withRegulator_mgmt]
  cases s.mgmt.params.attentionEnable with
  | false => rfl
  | true => cases s.mgmt.owner <;> rfl

theorem raiseNotice_withRegulator (kind : NoticeKind) (subject : Nat) (detail : Word16) (x : Regulator) (s : State) :
    raiseNotice kind subject detail (s.withRegulator x) = (raiseNotice kind subject detail s).withRegulator x := by
  unfold raiseNotice
  dsimp only
  rw [State.withRegulator_mgmt, State.withRegulator_notices]
  split
  · split
    · rfl
    · split
      · exact sendAttention_withRegulator x (judgeAttn 
          (s.withNotices (s.notices.join ⟨kind, s.partTime, byteOf subject, detail⟩)))
      · rfl
  · rfl

/-! ### The search of the plan (R128) -/

theorem trialConditions_iff : s.trialConditions = true ↔ s.mgmt.params.item 30 = 1 ∧
    (∃ c, s.cellInUse = some c ∧ c.trialPermission = true) ∧ s.moves.heldThresh = false ∧ s.moves.heldClean = false ∧
    s.regulator.exhausted = false := by
  unfold State.trialConditions Params.trialsEnable
  cases s.cellInUse with
  | none => simp
  | some c => simp [and_assoc]

theorem searchSteps_cursor_le {ok : PlanStep → Bool} {cursor : Nat} {p : PlanStep} {k : Nat} : ∀ {l : List PlanStep} {b : Nat},
    searchSteps ok cursor b l = some (k, p) → cursor ≤ k
  | [], _, h => nomatch h
  | a :: as, b, h => by
    rw [searchSteps] at h
    split at h
    · cases h
      rename_i htest
      exact htest.1
    · exact searchSteps_cursor_le h

theorem covers_iff {c : StepCondition} {o : WindowOutcome} : c.covers o = true ↔ c = .any ∨
    c = .loss ∧ (o = .highLoss ∨ o = .both) ∨ c = .tailings ∧ (o = .highTailings ∨ o = .both) := by
  cases c <;> cases o <;> decide

theorem isHigh_iff {o : WindowOutcome} : o.isHigh = true ↔ o = .highLoss ∨ o = .highTailings ∨ o = .both := by
  cases o <;> decide

/-- The tests of a step (R128). -/
theorem stepEligible_iff {c : CellRecord} {o : WindowOutcome} {p : PlanStep} : s.stepEligible c o p = true ↔
    p.condition.covers o = true ∧ (s.record p.setting).manual = false ∧ (s.record p.setting).state ≠ .fault ∧
    (c.trimOffset p.setting + p.amount.toInt).natAbs ≤ s.mgmt.params.item (20 + p.setting.num) ∧
    (s.mgmt.params.item p.setting.num : Int) ≤
      unclampedTarget s.activeBank c s.classifier.adopted.side p.setting + p.amount.toInt ∧
    unclampedTarget s.activeBank c s.classifier.adopted.side p.setting + p.amount.toInt ≤
      s.mgmt.params.item (5 + p.setting.num) := by
  simp only [State.stepEligible, Bool.and_eq_true, Bool.not_eq_true', decide_eq_true_iff, and_assoc]
  rfl

/-! ### A trial starts -/

theorem tryNextStep_of_step {b : WindowResult} {k : Nat} {p : PlanStep} (hb : s.regulator.baseline = some b)
    (h : s.searchPlan b.outcome = some (k, p)) : tryNextStep s = startTrial k p s := by
  rw [tryNextStep, hb]
  dsimp only
  rw [h]

theorem tryNextStep_of_none {b : WindowResult} (hb : s.regulator.baseline = some b) (h : s.searchPlan b.outcome = none) :
    tryNextStep s = planExhausted s := by
  rw [tryNextStep, hb]
  dsimp only
  rw [h]

/-- TRIAL_MOVE entered for a step: the trial, the goal and the target set. -/
def State.trialStarted (s : State) (k : Nat) (p : PlanStep) : State :=
  (giveGoal p.setting ⟨s.trialTarget p, .regulator⟩ s).withRegulator { s.regulator with
    state := .trialMove
    window := none
    targets := s.regulator.targets.set p.setting (some (s.trialTarget p))
    cursor := k
    trial := some (s.trialOf k p) }

theorem startTrial_eq (k : Nat) (p : PlanStep) (s : State) : startTrial k p s =
    if ((s.trialStarted k p).record p.setting).settled then enterTrialSettle (publish (s.trialStarted k p))
    else publish (s.trialStarted k p) := by
  have hstarted : (giveTarget p.setting (s.trialOf k p).target
      (s.withRegulator { s.regulator with window := none, cursor := k, trial := some (s.trialOf k p) })).withRegulator
      { (giveTarget p.setting (s.trialOf k p).target
        (s.withRegulator { s.regulator with window := none, cursor := k, trial := some (s.trialOf k p) })).regulator with
        state := .trialMove } = s.trialStarted k p := by
    rw [giveTarget_regulator, giveTarget, giveGoal_withRegulator, giveGoal_withRegulator]
    rfl
  unfold startTrial
  dsimp only
  rw [hstarted]
  rfl

/-- The search for the next step keeps the baseline, and passes over no step before the cursor. -/
structure Searched (s t : State) : Prop where
  baseline : t.regulator.baseline = s.regulator.baseline
  cursor : s.regulator.cursor ≤ s.activeBank.plan.length → s.regulator.cursor ≤ t.regulator.cursor
  touches : OnlyTouches touchCycle s t

theorem searched_enterHold (s : State) : Searched s (enterHold s) :=
  ⟨rfl, fun _ => Nat.le_refl _, touches_enterHold (by decide) (.refl _ s)⟩

theorem startTrial_regulator (k : Nat) (p : PlanStep) (s : State) :
    (startTrial k p s).regulator.baseline = s.regulator.baseline ∧ (startTrial k p s).regulator.cursor = k := by
  rw [startTrial_eq]
  split <;> exact ⟨rfl, rfl⟩

theorem planExhausted_regulator (s : State) : (planExhausted s).regulator.baseline = s.regulator.baseline ∧
    (planExhausted s).regulator.cursor = s.activeBank.plan.length := by
  unfold planExhausted
  dsimp only
  rw [raiseNotice_withRegulator]
  exact ⟨rfl, rfl⟩

theorem searched_tryNextStep (s : State) : Searched s (tryNextStep s) := by
  have htouches : OnlyTouches touchCycle s (tryNextStep s) := touches_tryNextStep (List.Subset.refl _) (.refl _ s)
  cases hb : s.regulator.baseline with
  | none =>
    have hhold : tryNextStep s = enterHold s := by rw [tryNextStep, hb]
    rw [hhold]
    exact searched_enterHold s
  | some b =>
    cases hstep : s.searchPlan b.outcome with
    | none =>
      obtain ⟨hbase, hcursor⟩ := planExhausted_regulator s
      have heq := tryNextStep_of_none hb hstep
      exact ⟨by rw [heq, hbase], fun hle => by rw [heq, hcursor]; exact hle, htouches⟩
    | some step =>
      obtain ⟨k, p⟩ := step
      obtain ⟨hbase, hcursor⟩ := startTrial_regulator k p s
      have heq := tryNextStep_of_step hb hstep
      refine ⟨by rw [heq, hbase], fun _ => ?_, htouches⟩
      rw [heq, hcursor]
      unfold State.searchPlan at hstep
      split at hstep
      · cases hstep
      · exact searchSteps_cursor_le hstep

theorem searched_tryOrHold (s : State) : Searched s (tryOrHold s) := by
  unfold tryOrHold
  split
  · exact searched_tryNextStep s
  · exact searched_enterHold s

/-! ### Keeps on their way -/

theorem plan_keep (b : Bank) (bound n : Nat) (st : Setting) (amount : Int) : (b.keep bound n st amount).plan = b.plan := by
  unfold Bank.keep
  split <;> rfl

theorem plan_takeKeep (k o : BankId) (n : Nat) (st : Setting) (amount : Int) (s : State) :
    ((takeKeep k n st amount s).map.bank o).plan = (s.map.bank o).plan := by
  rw [takeKeep, State.withMap_map, SettingMap.bank_withBank]
  split
  · rename_i h
    rw [plan_keep, h]
  · rfl

theorem active_takeKeep (k : BankId) (n : Nat) (st : Setting) (amount : Int) (s : State) :
    (takeKeep k n st amount s).map.active = s.map.active := by
  cases k <;> rfl

theorem plan_takeWaitingKeep (o : BankId) (s : State) : ((takeWaitingKeep s).map.bank o).plan = (s.map.bank o).plan ∧
    (takeWaitingKeep s).map.active = s.map.active := by
  unfold takeWaitingKeep
  split
  · exact ⟨rfl, rfl⟩
  · exact ⟨plan_takeKeep .., active_takeKeep ..⟩

theorem takeWaitingKeep_keep (s : State) : (takeWaitingKeep s).keep = none := by
  unfold takeWaitingKeep
  split
  · assumption
  · rfl

theorem takeWaitingKeep_withOrder (o : List Nat) (s : State) :
    takeWaitingKeep (s.withOrder o) = (takeWaitingKeep s).withOrder o := by
  unfold takeWaitingKeep
  rw [State.withOrder_keep]
  cases s.keep <;> rfl

/-- A keep handed to the map is taken at once, or waits. -/
theorem handKeep_at_once {k : Keep} (h : s.order.headD 0 % 2 = 0) : (handKeep k s).keep = none ∧
    (handKeep k s).map = (takeWaitingKeep s).map.withBank k.bank (((takeWaitingKeep s).map.bank k.bank).keep
      (s.mgmt.params.item (20 + k.setting.num)) k.cell k.setting k.amount.toInt) := by
  have hmgmt : (takeWaitingKeep s).mgmt = s.mgmt :=
    (touches_takeWaitingKeep (T := [.map, .keep]) (by decide) (.refl _ s)).mgmt (by decide)
  unfold handKeep
  dsimp only
  rw [if_pos h, takeWaitingKeep_withOrder]
  refine ⟨takeWaitingKeep_keep s, ?_⟩
  rw [takeKeep, State.withMap_map, State.withOrder_mgmt, hmgmt]
  rfl

theorem handKeep_later {k : Keep} (h : s.order.headD 0 % 2 ≠ 0) : (handKeep k s).keep = some k ∧
    (handKeep k s).map = (takeWaitingKeep s).map := by
  unfold handKeep
  dsimp only
  rw [if_neg h, postponeKeep, takeWaitingKeep_withOrder]
  exact ⟨rfl, rfl⟩

theorem plan_handKeep (k : Keep) (s : State) : (handKeep k s).activeBank.plan = s.activeBank.plan := by
  have hwaiting (o : BankId) := plan_takeWaitingKeep o (s.withOrder s.order.tail)
  unfold handKeep State.activeBank
  dsimp only
  split
  · rw [plan_takeKeep, active_takeKeep, (hwaiting s.map.active).2, (hwaiting _).1]
    rfl
  · rw [postponeKeep, State.withKeep_map, (hwaiting s.map.active).2, (hwaiting _).1]
    rfl

/-! ### A trial kept (R131) -/

theorem improves_iff {w b : WindowResult} {margin : Nat} : improves w (some b) margin = true ↔
    w.outcome ≠ .void ∧ w.s.toNat + margin ≤ b.s.toNat := by
  simp only [improves, Bool.and_eq_true, decide_eq_true_iff]

/-- The keep of a trial. -/
def Trial.keep (x : Trial) : Keep := ⟨x.bank, x.cell, x.setting, x.amount⟩

/-- A trial kept, before the regulator goes on. -/
def State.trialKept (s : State) (x : Trial) (w : WindowResult) : State :=
  (raiseNotice .trialKept x.cell x.detail (handKeep x.keep s)).withRegulator
    { s.regulator with cursor := x.position + 1, trial := none, baseline := some w }

theorem keepTrial_eq (x : Trial) (w : WindowResult) (s : State) : keepTrial x w s =
    if w.outcome = .good then enterHold (s.trialKept x w) else tryOrHold (s.trialKept x w) := by
  have hregulator : (raiseNotice .trialKept x.cell x.detail (handKeep ⟨x.bank, x.cell, x.setting, x.amount⟩ s)).regulator =
      s.regulator := (touches_raiseNotice (T := .map :: .keep :: .order :: touchNotices) (by decide)
    (touches_handKeep (by decide) (.refl _ s) _) _ _ _).regulator (by decide)
  unfold keepTrial
  dsimp only
  rw [hregulator]
  rfl

theorem searched_keepTrial (x : Trial) (w : WindowResult) (s : State) : Searched (s.trialKept x w) (keepTrial x w s) := by
  rw [keepTrial_eq]
  split
  · exact searched_enterHold _
  · exact searched_tryOrHold _

theorem trialKept_map (s : State) (x : Trial) (w : WindowResult) : (s.trialKept x w).map = (handKeep x.keep s).map :=
  (touches_raiseNotice (T := touchNotices) (by decide) (.refl _ (handKeep x.keep s)) _ _ _).map (by decide)

theorem trialKept_keep (s : State) (x : Trial) (w : WindowResult) : (s.trialKept x w).keep = (handKeep x.keep s).keep :=
  (touches_raiseNotice (T := touchNotices) (by decide) (.refl _ (handKeep x.keep s)) _ _ _).keep (by decide)

theorem trialKept_notices (s : State) (x : Trial) (w : WindowResult) :
    (s.trialKept x w).notices = (raiseNotice .trialKept x.cell x.detail s).notices := by
  have h : OnlyTouches [.map, .keep, .order] s (handKeep x.keep s) := touches_handKeep (by decide) (.refl _ s) _
  exact notices_raiseNotice_congr (h.notices (by decide)) (by rw [h.mgmt (by decide)]) (h.partTime (by decide))

/-! ### A trial reverted (R132) -/

/-- REVERT entered with the target worked out afresh, when the cell is written. -/
def State.trialReverted (s : State) (x : Trial) (v : Word16) : State :=
  publish ((raiseNotice .trialReverted x.cell x.detail (giveGoal x.setting ⟨v, .regulator⟩ s)).withRegulator { s.regulator with
    state := .revert
    targets := s.regulator.targets.set x.setting (some v)
    cursor := x.position + 1 })

/-- REVERT entered, whether or not the cell is written. -/
def State.reverting (s : State) (x : Trial) : State :=
  publish ((raiseNotice .trialReverted x.cell x.detail (giveRevertGoal x.setting s)).withRegulator
    { (raiseNotice .trialReverted x.cell x.detail (giveRevertGoal x.setting s)).regulator with
      cursor := x.position + 1, state := .revert })

theorem revertTrial_eq (x : Trial) (s : State) : revertTrial x s =
    if ((s.reverting x).record x.setting).settled then revertSettled (s.reverting x) else s.reverting x := rfl

theorem reverting_of_cell {x : Trial} {c : CellRecord} (hc : s.cellInUse = some c) : s.reverting x =
    s.trialReverted x (effectiveTarget s.mgmt.params s.activeBank c s.classifier.adopted.side x.setting) := by
  have hgoal : giveRevertGoal x.setting s = giveTarget x.setting
      (effectiveTarget s.mgmt.params s.activeBank c s.classifier.adopted.side x.setting) s := by
    rw [giveRevertGoal, hc]
  rw [State.reverting, hgoal, giveTarget, giveGoal_withRegulator, raiseNotice_withRegulator]
  rfl

theorem reverting_baseline (s : State) (x : Trial) : (s.reverting x).regulator.baseline = s.regulator.baseline := by
  change (raiseNotice .trialReverted x.cell x.detail (giveRevertGoal x.setting s)).regulator.baseline = _
  rw [(touches_raiseNotice (T := touchNotices) (by decide) (.refl _ _) _ _ _).regulator (by decide)]
  unfold giveRevertGoal
  split
  · rfl
  · rw [giveTarget_regulator]

theorem revertTrial_baseline (s : State) (x : Trial) : (revertTrial x s).regulator.baseline = s.regulator.baseline := by
  rw [revertTrial_eq]
  split
  · exact (searched_tryOrHold _).baseline.trans (reverting_baseline s x)
  · exact reverting_baseline s x

/-- A drive that may be moved is not settled right after a goal. -/
theorem giveGoal_unsettled {g : Goal} {d : Byte} (hd : s.driveStation st = some d) (hmanual : (s.record st).manual = false)
    (hfault : (s.record st).state ≠ .fault) : ((giveGoal st g s).record st).settled = false := by
  have hfree : ¬ s.goalKept st = true := by
    rw [goalKept_iff]
    rintro (h | h | h)
    · rw [hmanual] at h; cases h
    · exact hfault h
    · rw [hd] at h; cases h
  by_cases hheld : g.source = .regulator ∧ s.groupHeld st = true
  · rw [giveGoal_of_held hfree hheld, setRecord_record, if_pos rfl]
    unfold MoveRecord.settled
    dsimp only
    rw [hmanual]
    split
    · rfl
    · exact absurd ‹_› hfault
    · rfl
  · rw [giveGoal_of_free hfree hheld, issueSet_storeGoal, State.record, queueSet_moves, ← State.record, setRecord_record,
      if_pos rfl, MoveRecord.settled, State.issued, hmanual]
    rfl

/-! ### Exclusion (R137) -/

theorem inTrial_iff {x : RegState} : x.inTrial = true ↔
    x = .trialMove ∨ x = .trialSettle ∨ x = .trialMeasure ∨ x = .revert := by
  cases x <;> decide

theorem followed_takeExclusion {x : Trial} (htrial : s.regulator.trial = some x) (hin : s.regulator.state.inTrial = true) :
    s.followed (takeExclusion x.setting s) (x.position + 1) s.regulator.exhausted := by
  have hsafe : s.regulator.state ≠ .safe := fun h => by rw [h] at hin; cases hin
  have heq : takeExclusion x.setting s =
      enterFollow true (s.withRegulator { s.regulator with cursor := x.position + 1 }) := by
    rw [takeExclusion, htrial]
    exact if_pos ⟨rfl, hin⟩
  have hentered := enterFollow_entered true (s.withRegulator { s.regulator with cursor := x.position + 1 })
  rw [heq]
  generalize enterFollow true (s.withRegulator { s.regulator with cursor := x.position + 1 }) = t at hentered
  refine ⟨?_, fun c hc st => ?_, hentered.moves, hentered.channels, ?_,
    (touches_withRegulator (by decide) (.refl _ s) _).trans (hentered.touches.mono (by decide))⟩
  · rw [hentered.regulator, Regulator.causeOutsideSafe, if_neg hsafe]
    rfl
  · obtain ⟨htarget, hrecord⟩ := hentered.given c hc st
    refine ⟨htarget, hrecord.trans ?_⟩
    rw [giveGoal_withRegulator]
    rfl
  · rw [State.leftSafe, if_neg hsafe, hentered.touches.pins (by decide), hentered.touches.notices (by decide)]
    exact ⟨rfl, rfl⟩

theorem takeExclusion_other (h : ¬ (s.regulator.state.inTrial = true ∧ ∃ x, s.regulator.trial = some x ∧ x.setting = st)) :
    takeExclusion st s = s := by
  unfold takeExclusion
  cases htrial : s.regulator.trial with
  | none => rfl
  | some x => exact if_neg fun hx => h ⟨hx.2, x, htrial, hx.1⟩

/-! ### The trials of a plan -/

theorem decideMeasure_eq (w : WindowResult) (s : State) : decideMeasure w s =
    if (w.outcome = .highLoss ∨ w.outcome = .highTailings ∨ w.outcome = .both) ∧ s.trialConditions = true then
      tryNextStep (s.withRegulator { s.regulator with baseline := some w })
    else enterHold s := by
  unfold decideMeasure
  simp only [Bool.and_eq_true, isHigh_iff]

/-- A step passes the tests and is not before the cursor, and its place in the plan (R128). -/
def State.offers (s : State) (c : CellRecord) (o : WindowOutcome) (k : Nat) (p : PlanStep) : Prop :=
  s.regulator.cursor ≤ k ∧ s.activeBank.plan[k]? = some p ∧ s.stepEligible c o p = true

theorem searchPlan_of_offers {c : CellRecord} {o : WindowOutcome} {k : Nat} {p : PlanStep} (hc : s.cellInUse = some c)
    (h : s.offers c o k p) (hfirst : ∀ j q, s.offers c o j q → k ≤ j) : s.searchPlan o = some (k, p) := by
  obtain ⟨hcursor, hplan, hok⟩ := h
  rw [State.searchPlan, hc]
  exact (searchSteps_spec _ _ _ 0).1 k p (Nat.zero_le _) hplan hcursor hok
    fun j q _ hq hj hqok => hfirst j q ⟨hj, hq, hqok⟩

theorem searchPlan_of_no_offers {c : CellRecord} {o : WindowOutcome} (hc : s.cellInUse = some c)
    (h : ∀ k p, ¬ s.offers c o k p) : s.searchPlan o = none := by
  rw [State.searchPlan, hc]
  exact (searchSteps_spec _ _ _ 0).2 fun k p _ hp hk => Bool.eq_false_iff.mpr fun hok => h k p ⟨hk, hp, hok⟩

/-- Settles O44: the search finds the first eligible step, and a trial's result is judged against the baseline. -/
theorem aTrialIsKeptOrReverted : Obligations.ATrialIsKeptOrReverted := by
  refine ⟨fun s => trialConditions_iff, fun w s => ⟨fun hhigh hcond => ?_, fun hnot => ?_⟩, fun s b c hb hc => ?_,
    fun s x w b hx hb => ?_, fun st s => ⟨fun x hx hst hin => ?_, fun hnot => ?_⟩⟩
  · rw [decideMeasure_eq, if_pos ⟨hhigh, hcond⟩]
  · rw [decideMeasure_eq, if_neg hnot]
  · intro aim covers eligible
    have haim (p : PlanStep) : unclampedTarget s.activeBank c s.classifier.adopted.side p.setting + p.amount.toInt = aim p := by
      obtain ⟨setting, amount, condition⟩ := p
      cases setting <;> rfl
    have hoffers (k : Nat) (p : PlanStep) : s.offers c b.outcome k p ↔ eligible k p := by
      unfold State.offers
      rw [stepEligible_iff, covers_iff, haim]
    refine ⟨fun k p hel hfirst => ?_, fun hnone => ?_⟩
    · have hfound := searchPlan_of_offers hc ((hoffers k p).mpr hel) fun j q hq => hfirst j q ((hoffers j q).mp hq)
      have htarget : s.trialTarget p = BitVec.ofInt 16 (aim p) := by
        rw [State.trialTarget, hc, ← haim p]
      rw [tryNextStep_of_step hb hfound, startTrial_eq, State.trialStarted, State.trialOf, htarget]
      rfl
    · exact tryNextStep_of_none hb (searchPlan_of_no_offers hc fun k p h => hnone k p ((hoffers k p).mp h))
  · intro t improved earlier keep u
    have hjudge : t = if improves w (some b) s.mgmt.params.gainMargin then keepTrial x w s else revertTrial x s := by
      change judgeTrial w s = _
      rw [judgeTrial, hx, hb]
    refine ⟨fun himp => ?_, fun hnot c hc => ?_, fun hnot => ?_⟩
    · have ht : t = keepTrial x w s := hjudge.trans (if_pos (improves_iff.mpr himp))
      have hsearch := searched_keepTrial x w s
      rw [← ht] at hsearch
      have hmap : t.map = (handKeep keep s).map := (hsearch.touches.map (by decide)).trans (trialKept_map s x w)
      have hkeep : t.keep = (handKeep keep s).keep := (hsearch.touches.keep (by decide)).trans (trialKept_keep s x w)
      have hplan : (s.trialKept x w).activeBank.plan = s.activeBank.plan := by
        rw [State.activeBank, trialKept_map]
        exact plan_handKeep x.keep s
      refine ⟨fun hnow => ?_, fun hlater => ?_, hsearch.baseline, fun hlt => hsearch.cursor ?_, fun hgood => ?_, fun hhigh => ?_,
        fun hgood => ?_⟩
      · obtain ⟨hnone, htaken⟩ := handKeep_at_once (k := keep) hnow
        exact ⟨hkeep.trans hnone, hmap.trans htaken⟩
      · obtain ⟨hwaits, htaken⟩ := handKeep_later (k := keep) hlater
        exact ⟨hkeep.trans hwaits, hmap.trans htaken⟩
      · rw [hplan]
        exact hlt
      · rw [ht, keepTrial_eq, if_pos hgood]
        rfl
      · rw [ht, keepTrial_eq, if_neg hhigh]
        rfl
      · rw [ht, keepTrial_eq, if_pos hgood]
        exact ⟨rfl, rfl, rfl, trialKept_notices s x w⟩
    · have ht : t = revertTrial x s := hjudge.trans (if_neg ((not_congr improves_iff).mpr hnot))
      rw [ht, revertTrial_eq, reverting_of_cell hc]
      rfl
    · have ht : t = revertTrial x s := hjudge.trans (if_neg ((not_congr improves_iff).mpr hnot))
      have htouches : OnlyTouches touchCycle s t := by
        rw [ht]
        exact touches_revertTrial (List.Subset.refl _) (.refl _ s) x
      refine ⟨htouches.map (by decide), htouches.keep (by decide), ?_, fun c d hc hd hmanual hfault => ?_⟩
      · rw [ht, revertTrial_baseline, hb]
      · have hmoves (v : Word16) : (s.trialReverted x v).moves = (giveGoal x.setting ⟨v, .regulator⟩ s).moves :=
          (touches_raiseNotice (T := touchNotices) (by decide) (.refl _ _) _ _ _).moves (by decide)
        have hunsettled : ((s.reverting x).record x.setting).settled = false := by
          rw [reverting_of_cell hc, State.record, hmoves]
          exact giveGoal_unsettled hd hmanual hfault
        rw [ht, revertTrial_eq, hunsettled, if_neg Bool.false_ne_true, reverting_of_cell hc]
        exact ⟨rfl, rfl, hx, rfl⟩
  · subst hst
    exact followed_takeExclusion hx (inTrial_iff.mpr hin)
  · exact takeExclusion_other fun h => hnot ⟨inTrial_iff.mp h.1, h.2⟩

end Sys2Proof.Machine
end

section
/-! PROOF. The end of window B and its result (O42). -/

namespace Sys2Proof.Machine

variable {s t : State} {c : ChannelUnit} {w : Option WindowResult}

/-! ### The channel unit while the gate is closed -/

/-- The gate is closed on these channels, and this is the last result. -/
structure Closed (c : ChannelUnit) (w : Option WindowResult) (s : State) : Prop where
  channels : s.channels = c
  last : s.regulator.last = w

theorem closed_of_touches {T : List Block} (h : OnlyTouches T s t) (hT : Block.channels ∉ T ∧ Block.regulator ∉ T)
    (hs : Closed c w s) : Closed c w t :=
  ⟨(h.channels hT.1).trans hs.channels, (congrArg Regulator.last (h.regulator hT.2)).trans hs.last⟩

/-- Once the gate is closed, what the regulator and the arbiter do leaves the channels and the last result. -/
theorem closed_calm (hc : c.gate = false) : Calm (Closed c w) where
  touches h := closed_of_touches h (by decide)
  regulator _ {_} hlast h := ⟨h.channels, hlast.trans h.last⟩
  closeGate {s} h := ⟨by rw [State.withChannels_channels, h.channels, ChannelUnit.closeGate, ← hc], h.last⟩
  safeOut _ _ h := ⟨h.channels, h.last⟩
  publish h := ⟨h.channels, h.last⟩
  notice _ _ _ {s} := closed_of_touches (touches_raiseNotice (T := touchNotices) (by decide) (.refl _ s) _ _ _) (by decide)
  goal _ _ {s} := closed_of_touches (touches_giveGoal (T := touchMoves) (by decide) (.refl _ s) _ _) (by decide)

theorem closed_handKeep (k : Keep) (h : Closed c w s) : Closed c w (handKeep k s) :=
  closed_of_touches (touches_handKeep (T := [.map, .keep, .order]) (by decide) (.refl _ s) k) (by decide) h

/-! ### The result (R123 to R125) -/

theorem isLoss_iff (r : Role) : r.isLoss = (decide (r = .shoeLoss) || decide (r = .sepLoss)) := by
  cases r <;> rfl

theorem enabledOf_isLoss (u : ChannelUnit) : u.enabledOf Role.isLoss = u.entries.list.filter
    (fun c => c.defn.enabled && (decide (c.defn.role = .shoeLoss) || decide (c.defn.role = .sepLoss))) := by
  simp only [ChannelUnit.enabledOf, isLoss_iff]

/-- The first test of R123 that holds names the cause. -/
theorem voidCause_some (floor : Nat) (g : Channel) (losses : List Channel) : voidCause floor (some g) losses =
    if g.rt.count = 0#16 then 1
    else if g.rt.mean < floor ∨ g.rt.mean ≤ 0 then 2
    else if losses = [] ∨ ∃ c ∈ losses, c.rt.count = 0#16 then 3
    else if g.rt.interrupted = true ∨ ∃ c ∈ losses, c.rt.interrupted = true then 4 else 0 := by
  simp only [voidCause, Bool.or_eq_true, List.isEmpty_iff, List.any_eq_true, decide_eq_true_iff]

theorem windowResult_void {kind : ResultKind} {cause : Nat} (h : voidCause s.mgmt.params.flowFloor
    (s.channels.enabledOf (fun r => decide (r = .grainFlow))).head? (s.channels.enabledOf Role.isLoss) = cause + 1) :
    s.windowResult kind = ⟨kind, cellNumber s.classifier.adopted, .void, cause + 1, 0#16, 0#16, 0#16, s.partTime⟩ := by
  unfold State.windowResult
  dsimp only
  rw [h]
  rfl

theorem windowResult_measured {kind : ResultKind} {g : Channel}
    (hg : (s.channels.enabledOf (fun r => decide (r = .grainFlow))).head? = some g)
    (h : voidCause s.mgmt.params.flowFloor (some g) (s.channels.enabledOf Role.isLoss) = 0) :
    s.windowResult kind =
      { kind := kind, cell := s.adoptedCell
        outcome := windowOutcome (lossFigure (lossSum (s.channels.enabledOf Role.isLoss)) g.rt.mean)
          (tailingsFigure (s.channels.enabledOf (fun r => decide (r = .tailings))).head?)
          (s.activeBank.lossLimit s.adoptedCell) (s.activeBank.tailingsLimit s.adoptedCell)
        voidCause := 0
        l := BitVec.ofNat 16 (lossFigure (lossSum (s.channels.enabledOf Role.isLoss)) g.rt.mean)
        t := BitVec.ofNat 16 (tailingsFigure (s.channels.enabledOf (fun r => decide (r = .tailings))).head?)
        s := BitVec.ofNat 16 (scoreFigure (lossFigure (lossSum (s.channels.enabledOf Role.isLoss)) g.rt.mean)
          (tailingsFigure (s.channels.enabledOf (fun r => decide (r = .tailings))).head?)
          (s.activeBank.lossLimit s.adoptedCell) (s.activeBank.tailingsLimit s.adoptedCell))
        time := s.partTime } := by
  unfold State.windowResult
  dsimp only
  rw [hg, h]
  rfl

theorem windowOutcome_eq (l t lossLimit tailingsLimit : Nat) : windowOutcome l t lossLimit tailingsLimit =
    if l ≤ lossLimit then (if t ≤ tailingsLimit then .good else .highTailings)
    else (if t ≤ tailingsLimit then .highLoss else .both) := by
  simp only [windowOutcome, ← Nat.not_le, ite_not]

/-! ### The expiry of timer B -/

theorem exec_windowBExpiry (hworks : s.works) (h : s.windowDue .b = true) :
    exec .windowBExpiry s = .next (windowBEnds s) := by
  have harm : exec .windowBExpiry s = execWindowBExpiry s := rfl
  rw [harm, execWindowBExpiry, live_of_works hworks, h]
  rfl

theorem resultKind_eq (x : RegState) : x.resultKind = if x = .trialMeasure then .trial else .measure := by
  cases x <;> rfl

/-- The gate is closed, the accumulators stay. -/
def State.gateClosed (s : State) : State := s.withChannels { s.channels with gate := false }

/-- The result of the window that runs. -/
def State.windowEnd (s : State) : WindowResult :=
  s.gateClosed.windowResult (if s.regulator.state = .trialMeasure then .trial else .measure)

/-- The result raises the loss alarm (R125). -/
def State.alarmed (s : State) : Prop := s.windowEnd.outcome ≠ .void ∧
  s.mgmt.params.item 33 * (s.map.bank s.map.active).lossLimit (cellNumber s.classifier.adopted) < s.windowEnd.l.toNat * 100

theorem lossAlarm_iff (s : State) : s.gateClosed.lossAlarm s.windowEnd = true ↔ s.alarmed := by
  rw [State.lossAlarm, Bool.and_eq_true, decide_eq_true_iff, decide_eq_true_iff]
  rfl

theorem windowBEnds_eq (s : State) : windowBEnds s = interleave
    [[publish], [afterResult s.windowEnd, handLossAlarm (s.gateClosed.lossAlarm s.windowEnd)]]
    (s.gateClosed.withRegulator { s.regulator with window := none, last := some s.windowEnd }) := by
  unfold windowBEnds State.windowEnd
  dsimp only
  rw [resultKind_eq]
  rfl

theorem closed_windowBEnds (s : State) : Closed s.gateClosed.channels (some s.windowEnd) (windowBEnds s) := by
  have hcalm : Calm (Closed s.gateClosed.channels (some s.windowEnd)) := closed_calm rfl
  rw [windowBEnds_eq]
  refine keeps_interleave (fun _ => ⟨rfl, rfl⟩) fun l hl g hg t ht => ?_
  simp only [List.mem_cons, List.not_mem_nil, or_false] at hl
  rcases hl with rfl | rfl
  · obtain rfl := List.mem_singleton.mp hg
    exact hcalm.publish ht
  · simp only [List.mem_cons, List.not_mem_nil, or_false] at hg
    rcases hg with rfl | rfl
    · exact hcalm.afterResult (fun k _ => closed_handKeep k) _ ht
    · unfold handLossAlarm
      split
      · exact hcalm.steady.takeEvent _ ht
      · exact ht

theorem windowEnd_kind (h : s.regulator.state = .measure) : s.windowEnd.kind = .measure := by
  unfold State.windowEnd State.windowResult
  rw [h]
  dsimp only
  split <;> rfl

/-- A window that raises no alarm and calls for no trial leads to HOLD (R126). -/
theorem windowBEnds_hold (hstate : s.regulator.state = .measure)
    (hw : s.windowEnd.outcome = .good ∨ s.windowEnd.outcome = .void) (hquiet : ¬ s.alarmed) :
    (windowBEnds s).regulator.state = .hold ∧
    (windowBEnds s).regulator.window = some (.a, ⟨s.partTime, s.mgmt.params.item 28 * 10⟩) ∧
    OnlyTouches [.regulator, .channels, .pictures, .order] s (windowBEnds s) := by
  have hstart : OnlyTouches [.regulator, .channels] s
      (s.gateClosed.withRegulator { s.regulator with window := none, last := some s.windowEnd }) :=
    touches_withRegulator (by decide) (touches_withChannels (by decide) (.refl _ s) _) _
  have halarm : s.gateClosed.lossAlarm s.windowEnd = false := Bool.eq_false_iff.mpr ((not_congr (lossAlarm_iff s)).mpr hquiet)
  have hafter (t : State) : afterResult s.windowEnd t = enterHold t := by
    rw [afterResult, windowEnd_kind hstate]
    dsimp only
    rw [decideMeasure_eq, if_neg]
    rintro ⟨hhigh, -⟩
    rcases hw with hw | hw <;> rw [hw] at hhigh <;> rcases hhigh with h | h | h <;> cases h
  rw [windowBEnds_eq, halarm]
  refine interleave_once (P := fun t => OnlyTouches [.regulator, .channels, .pictures, .order] s t)
    (Q := fun t => t.regulator.state = .hold ∧
      t.regulator.window = some (.a, ⟨s.partTime, s.mgmt.params.item 28 * 10⟩) ∧
      OnlyTouches [.regulator, .channels, .pictures, .order] s t)
    (g := afterResult s.windowEnd) (rest := [publish, handLossAlarm false]) (.swap _ _ _)
    (fun o => touches_withOrder (by decide) (hstart.mono (by decide)) o) ?_ (fun t ht => ?_) ?_
  · simp only [List.mem_cons, List.not_mem_nil, or_false, forall_eq_or_imp, forall_eq]
    exact ⟨fun _ h => touches_publish (by decide) h, fun _ h => h⟩
  · rw [hafter, ← ht.partTime (by decide), ← ht.mgmt (by decide)]
    exact ⟨rfl, rfl, touches_publish (by decide) (touches_withRegulator (by decide) ht _)⟩
  · simp only [List.mem_cons, List.not_mem_nil, or_false, forall_eq_or_imp, forall_eq]
    exact ⟨fun _ ⟨h, hw, ht⟩ => ⟨h, hw, touches_publish (by decide) ht⟩, fun _ h => h⟩

/-- Settles O42: the tests of the void causes in turn, and the handings of the result. -/
theorem aWindowEndsInItsResult : Obligations.AWindowEndsInItsResult := by
  refine ⟨fun s kind => ?_, fun s hworks hdue => ?_⟩
  · intro w flow losses tailings mean noFlow lowFlow noLoss interrupted void
    have hlosses : s.channels.enabledOf Role.isLoss = losses := enabledOf_isLoss s.channels
    have hflow : (s.channels.enabledOf (fun r => decide (r = .grainFlow))).head? = flow := rfl
    have hvoid (cause : Nat) (h : voidCause s.mgmt.params.flowFloor flow losses = cause + 1) : void (cause + 1) :=
      windowResult_void (by rw [hlosses, hflow]; exact h)
    rcases Option.eq_none_or_eq_some flow with hg | ⟨g, hg⟩
    · have hnone : noFlow := fun g h => nomatch hg.symm.trans h
      exact ⟨fun _ => hvoid 0 (by rw [hg]; rfl), fun h => absurd hnone h, fun h => absurd hnone h, fun h => absurd hnone h,
        fun h => absurd hnone h⟩
    · have hno : noFlow ↔ g.rt.count = 0#16 := ⟨fun h => h g hg, fun h x hx => Option.some.inj (hg.symm.trans hx) ▸ h⟩
      have hlow : lowFlow ↔ g.rt.mean < s.mgmt.params.flowFloor ∨ g.rt.mean ≤ 0 :=
        ⟨fun ⟨x, hx, h⟩ => Option.some.inj (hg.symm.trans hx) ▸ h, fun h => ⟨g, hg, h⟩⟩
      have hint : interrupted ↔ g.rt.interrupted = true ∨ ∃ c ∈ losses, c.rt.interrupted = true :=
        or_congr_left ⟨fun ⟨x, hx, h⟩ => Option.some.inj (hg.symm.trans hx) ▸ h, fun h => ⟨g, hg, h⟩⟩
      have hcause := voidCause_some s.mgmt.params.flowFloor g losses
      rw [hg] at hvoid
      refine ⟨fun h1 => hvoid 0 ?_, fun h1 h2 => hvoid 1 ?_, fun h1 h2 h3 => hvoid 2 ?_, fun h1 h2 h3 h4 => hvoid 3 ?_,
        fun h1 h2 h3 h4 x hx => ?_⟩
      · rw [hcause, if_pos (hno.mp h1)]
      · rw [hcause, if_neg ((not_congr hno).mp h1), if_pos (hlow.mp h2)]
      · rw [hcause, if_neg ((not_congr hno).mp h1), if_neg ((not_congr hlow).mp h2), if_pos h3]
      · rw [hcause, if_neg ((not_congr hno).mp h1), if_neg ((not_congr hlow).mp h2), if_neg h3, if_pos (hint.mp h4)]
      · intro n lossLimit tailingsLimit l t
        obtain rfl : g = x := Option.some.inj (hg.symm.trans hx)
        rw [if_neg ((not_congr hno).mp h1), if_neg ((not_congr hlow).mp h2), if_neg h3, if_neg ((not_congr hint).mp h4)] at hcause
        have hl : lossFigure (lossSum losses) g.rt.mean = l := Nat.min_comm _ _
        have ht : tailingsFigure tailings = t := by
          change tailingsFigure tailings = match tailings with
            | some c => if c.rt.count = 0#16 then 0 else (mean c).toNat
            | none => 0
          cases tailings <;> rfl
        refine (windowResult_measured (hflow.trans hg) (by rw [hlosses]; exact hcause)).trans ?_
        rw [hlosses, windowOutcome_eq, hl, show tailingsFigure
          (s.channels.enabledOf (fun r => decide (r = .tailings))).head? = t from ht, scoreFigure, saturateU16, Nat.min_comm]
        rfl
  · intro closed w alarm
    have hhanding : handLossAlarm (s.gateClosed.lossAlarm s.windowEnd) = fun u => if alarm then takeEvent 5 u else u := by
      funext u
      unfold handLossAlarm
      by_cases halarm : s.alarmed
      · rw [if_pos ((lossAlarm_iff s).mpr halarm)]
        exact (if_pos halarm).symm
      · rw [if_neg ((not_congr (lossAlarm_iff s)).mpr halarm)]
        exact (if_neg halarm).symm
    have hclosed := closed_windowBEnds s
    refine ⟨_, exec_windowBExpiry hworks hdue, hclosed.last, by rw [hclosed.channels]; rfl, fun i => ?_, ?_,
      windowBEnds_hold⟩
    · rw [State.channel, hclosed.channels]
      rfl
    · rw [windowBEnds_eq, hhanding]
      rfl

end Sys2Proof.Machine
end

section
/-! PROOF. Drives that do not answer: the SET sent again, and FAULT (O39). -/

namespace Sys2Proof.Machine

variable {s t : State} {st o : Setting} {m : MoveRecord} {cause : FaultCause} {g : Goal}

/-! ### A record in FAULT -/

/-- The record of a setting is this one, but for a goal that is kept or waits. -/
def Stays (st : Setting) (m : MoveRecord) (s : State) : Prop :=
  ∃ goal deferred, s.record st = { m with goal := goal, deferred := deferred }

theorem stays_setRecord (st : Setting) (m : MoveRecord) (s : State) : Stays st m (setRecord st m s) :=
  ⟨m.goal, m.deferred, by rw [setRecord_record, if_pos rfl]⟩

theorem record_of_moves (h : t.moves = s.moves) : t.record st = s.record st := by
  unfold State.record
  rw [h]

theorem stays_of_moves (h : t.moves = s.moves) (hs : Stays st m s) : Stays st m t := by
  unfold Stays
  rw [record_of_moves h]
  exact hs

/-- A goal only waits in a record in FAULT. -/
theorem stays_giveGoal_self (hm : m.state = .fault) (g : Goal) (h : Stays st m s) : Stays st m (giveGoal st g s) := by
  obtain ⟨goal, deferred, hrecord⟩ := h
  have hkept : s.goalKept st = true := goalKept_iff.mpr (.inr (.inl (by rw [hrecord]; exact hm)))
  refine ⟨some g, none, ?_⟩
  rw [giveGoal_of_kept hkept, storeGoal, setRecord_record, if_pos rfl, hrecord]

/-- A predicate of one setting's record is calm when a goal for that setting keeps it. -/
theorem record_calm {K : MoveRecord → Prop} (hK : ∀ g s, K (s.record st) → K ((giveGoal st g s).record st)) :
    Calm (fun s => K (s.record st)) where
  touches h hs := by rw [record_of_moves (h.moves (by decide))]; exact hs
  regulator _ {_} _ h := h
  closeGate h := h
  safeOut _ _ h := h
  publish h := h
  notice _ _ _ {s} hs := by
    rw [record_of_moves ((touches_raiseNotice (T := touchNotices) (by decide) (.refl _ s) _ _ _).moves (by decide))]
    exact hs
  goal o g {s} hs := by
    by_cases ho : st = o
    · subst ho
      exact hK g s hs
    · rw [giveGoal_other o st g s ho]
      exact hs

theorem stays_calm (hm : m.state = .fault) : Calm (Stays st m) :=
  record_calm (K := fun r => ∃ goal deferred, r = { m with goal := goal, deferred := deferred })
    fun g _ h => stays_giveGoal_self hm g h

/-- The record stands in FAULT, and DRIVE_FAULT is known of. -/
structure Faulted (st : Setting) (m : MoveRecord) (s : State) : Prop where
  stays : Stays st m s
  known : s.moves.driveFault = true

theorem faulted_of_moves (h : t.moves = s.moves) (hs : Faulted st m s) : Faulted st m t :=
  ⟨stays_of_moves h hs.stays, by rw [h]; exact hs.known⟩

theorem faulted_calm (hm : m.state = .fault) : Calm (Faulted st m) where
  touches h := faulted_of_moves (h.moves (by decide))
  regulator _ {_} _ := faulted_of_moves rfl
  closeGate := faulted_of_moves rfl
  safeOut _ _ := faulted_of_moves rfl
  publish := faulted_of_moves rfl
  notice _ _ _ {s} := faulted_of_moves ((touches_raiseNotice (T := touchNotices) (by decide) (.refl _ s) _ _ _).moves (by decide))
  goal o g {_} h := ⟨(stays_calm hm).goal o g h.stays, by rw [giveGoal_moves]; exact h.known⟩

theorem anyFault_of_stays (hm : m.state = .fault) (h : Stays st m s) : s.anyFault = true := by
  obtain ⟨_, _, hrecord⟩ := h
  rw [State.anyFault, List.any_eq_true]
  exact ⟨st, Setting.mem_all st, decide_eq_true (by rw [hrecord]; exact hm)⟩

/-- The judgement of DRIVE_FAULT finds the record in FAULT. -/
theorem faulted_judgeDriveFault (hm : m.state = .fault) (h : Stays st m s) : Faulted st m (judgeDriveFault s) := by
  have hany := anyFault_of_stays hm h
  unfold judgeDriveFault
  rw [hany]
  split
  · exact ⟨h, (by assumption : true = s.moves.driveFault).symm⟩
  · exact (faulted_calm hm).steady.setCondition _ _ ⟨h, rfl⟩

/-- The handings of a record that enters FAULT. -/
theorem enterFault_eq (h : (s.record st).state ≠ .fault) : enterFault st cause s = interleave
    ([[raiseNotice .driveFault st.num (BitVec.ofNat 16 cause.code)], [takeExclusion st], [judgeDriveFault]] ++
      newlySettled (s.record st).settled st) (setRecord st ((s.record st).fail cause) s) := if_neg h

theorem enterFault_of_fault (h : (s.record st).state = .fault) : enterFault st cause s = s := if_pos h

/-- What goes with the judgement of DRIVE_FAULT when a record enters FAULT. -/
theorem besideJudging_keep {P : State → Prop} (hP : Calm P) {was : Bool} {kind : NoticeKind} {subject : Nat} {detail : Word16} :
    ∀ h ∈ [raiseNotice kind subject detail, takeExclusion st] ++ (newlySettled was st).flatten, ∀ t, P t → P (h t) := by
  intro h hh t ht
  rcases List.mem_append.mp hh with hh | hh
  · simp only [List.mem_cons, List.not_mem_nil, or_false] at hh
    rcases hh with rfl | rfl
    · exact hP.notice _ _ _ ht
    · exact hP.takeExclusion _ ht
  · obtain ⟨c, hc, hhc⟩ := List.mem_flatten.mp hh
    exact hP.steady.newlySettled _ _ c hc h hhc t ht

theorem faulted_enterFault (h : (s.record st).state ≠ .fault) :
    Faulted st ((s.record st).fail cause) (enterFault st cause s) := by
  have hm : ((s.record st).fail cause).state = .fault := rfl
  rw [enterFault_eq h]
  refine interleave_once (P := Stays st ((s.record st).fail cause)) (g := judgeDriveFault)
    (rest := [raiseNotice .driveFault st.num (BitVec.ofNat 16 cause.code), takeExclusion st] ++
      (newlySettled (s.record st).settled st).flatten) ?_
    (fun o => stays_of_moves rfl (stays_setRecord st _ s)) (besideJudging_keep (stays_calm hm))
    (fun t => faulted_judgeDriveFault hm) (besideJudging_keep (faulted_calm hm))
  rw [List.flatten_append]
  exact List.perm_middle (l₁ := [raiseNotice .driveFault st.num (BitVec.ofNat 16 cause.code), takeExclusion st])

/-! ### The timers of an exchange -/

theorem exec_acceptTimerExpiry (hworks : s.works) (h : s.acceptDue st = true) :
    exec (.acceptTimerExpiry st) s = .next (acceptExpires st s) := by
  have harm : exec (.acceptTimerExpiry st) s = execAcceptTimerExpiry st s := rfl
  rw [harm, execAcceptTimerExpiry, live_of_works hworks, h]
  rfl

theorem exec_moveTimerExpiry (hworks : s.works) (h : s.moveDue st = true) :
    exec (.moveTimerExpiry st) s = .next (enterFault st .moveTimeout s) := by
  have harm : exec (.moveTimerExpiry st) s = execMoveTimerExpiry st s := rfl
  rw [harm, execMoveTimerExpiry, live_of_works hworks, h]
  rfl

theorem exec_driveTrackingExpiry (hworks : s.works) (h : s.trackingDue st = true) :
    exec (.driveTrackingExpiry st) s = .next (trackingExpires st s) := by
  have harm : exec (.driveTrackingExpiry st) s = execDriveTrackingExpiry st s := rfl
  rw [harm, execDriveTrackingExpiry, live_of_works hworks, h]
  rfl

theorem resendSet_eq {d : Byte} {l : Word16} (hd : s.driveStation st = some d) (hl : (s.record st).leg = some l) :
    resendSet st s = queuePart (setFrame s.ownStation d st (BitVec.ofInt 16 (s.mgmt.params.clamp st l.toNat)) (s.record st).tag)
      (setRecord st { s.record st with
        leg := some (BitVec.ofInt 16 (s.mgmt.params.clamp st l.toNat))
        resendUsed := true
        acceptTimer := some ⟨s.partTime, 20⟩ } s) := by
  unfold resendSet
  dsimp only
  rw [hl]
  exact queueSet_setRecord hd rfl

/-- A record in FAULT as this one says, its exchange given up, and DRIVE_FAULT known of. -/
structure GivenUp (st : Setting) (tag : Tag) (leg : Option Word16) (cause : FaultCause) (s t : State) : Prop where
  state : (t.record st).state = .fault
  cause : (t.record st).cause = cause
  accept : (t.record st).acceptTimer = none
  move : (t.record st).moveTimer = none
  tag : (t.record st).tag = tag
  leg : (t.record st).leg = leg
  known : t.moves.driveFault = true
  touches : OnlyTouches touchGuards s t

theorem givenUp_enterFault (h : (s.record st).state ≠ .fault) :
    GivenUp st (s.record st).tag (s.record st).leg cause s (enterFault st cause s) := by
  obtain ⟨⟨goal, deferred, hrecord⟩, hknown⟩ := faulted_enterFault (cause := cause) h
  have htouches : OnlyTouches touchGuards s (enterFault st cause s) :=
    touches_enterFault (List.Subset.refl _) (.refl _ s) _ _
  constructor
  case known => exact hknown
  case touches => exact htouches
  all_goals rw [hrecord]; rfl

/-- Settles O39: the two expiries of the accept timer, that of the move timer, and those of the drive's tracking. -/
theorem expiredMovesAreResentOrFail : Obligations.ExpiredMovesAreResentOrFail := by
  intro st s hworks r fails
  have hfails {u t : State} {cause : FaultCause} (hu : OnlyTouches touchGuards s u)
      (h : GivenUp st r.tag r.leg cause u t) : fails t cause :=
    ⟨h.state, h.cause, h.accept, h.move, h.tag, h.leg, h.known, hu.trans h.touches⟩
  refine ⟨fun d l hdue hfirst hd hl => ?_, fun hdue hsecond => ?_, fun hdue => ?_, fun hdue hlocked => ?_,
    fun hdue hmissed hstate => ?_, fun hdue hmissed hstate => ?_⟩
  · rw [exec_acceptTimerExpiry hworks hdue, acceptExpires, show (s.record st).resendUsed = false from hfirst,
      if_neg Bool.false_ne_true, resendSet_eq hd hl]
    rfl
  · have hissued : (s.record st).state = .issued := of_decide_eq_true (Bool.and_eq_true_iff.mp hdue).1
    refine ⟨_, exec_acceptTimerExpiry hworks hdue, ?_⟩
    rw [acceptExpires, if_pos hsecond]
    exact hfails (.refl _ s) (givenUp_enterFault (by rw [hissued]; nofun))
  · have hmoving : (s.record st).state = .moving := of_decide_eq_true (Bool.and_eq_true_iff.mp hdue).1
    exact ⟨_, exec_moveTimerExpiry hworks hdue, hfails (.refl _ s) (givenUp_enterFault (by rw [hmoving]; nofun))⟩
  · rw [exec_driveTrackingExpiry hworks hdue, trackingExpires, show (s.record st).tracking = .locked from hlocked]
    rfl
  · have hexec := exec_driveTrackingExpiry hworks hdue
    rw [trackingExpires, show (s.record st).tracking = .oneMissed from hmissed] at hexec
    have hrecord : (setRecord st { s.record st with tracking := .lost, trackWindow := none } s).record st =
        { s.record st with tracking := .lost, trackWindow := none } := by rw [setRecord_record, if_pos rfl]
    have hstate' : ((setRecord st { s.record st with tracking := .lost, trackWindow := none } s).record st).state ≠ .fault := by
      rw [hrecord]
      exact hstate
    have hup := givenUp_enterFault (cause := .reportLost) hstate'
    obtain ⟨⟨goal, deferred, hlost⟩, -⟩ := faulted_enterFault (cause := .reportLost) hstate'
    rw [hrecord] at hup hlost
    exact ⟨_, hexec, by rw [hlost]; rfl, by rw [hlost]; rfl,
      hfails (touches_setRecord (by decide) (.refl _ s) _ _) hup⟩
  · rw [exec_driveTrackingExpiry hworks hdue, trackingExpires, show (s.record st).tracking = .oneMissed from hmissed]
    exact congrArg _ (enterFault_of_fault (by rw [setRecord_record, if_pos rfl]; exact hstate))

end Sys2Proof.Machine
end

section
/-! PROOF. Effective targets, and keeps (O32). -/

namespace Sys2Proof.Machine

variable {p : Params} {b : Bank} {c : CellRecord} {st o : Setting} {side bound n m : Nat} {amount x : Int}

theorem effectiveTarget_toNat (p : Params) (b : Bank) (c : CellRecord) (side : Nat) (st : Setting) :
    ((effectiveTarget p b c side st).toNat : Int) = p.clamp st (unclampedTarget b c side st) := clamp_toNat p st _

theorem clampInt_of_lt {lo hi : Int} (h : x < lo) : clampInt lo hi x = lo := if_pos h

theorem clampInt_of_gt {lo hi : Int} (hlo : lo ≤ x) (h : hi < x) : clampInt lo hi x = hi :=
  (if_neg (Int.not_lt.mpr hlo)).trans (if_pos h)

theorem clampInt_of_mem {lo hi : Int} (hlo : lo ≤ x) (hhi : x ≤ hi) : clampInt lo hi x = x :=
  (if_neg (Int.not_lt.mpr hlo)).trans (if_neg (Int.not_lt.mpr hhi))

/-- A step held within the trim bound. -/
theorem clampInt_bound (bound : Nat) (x : Int) : clampInt (-(bound : Int)) bound x =
    if x.natAbs ≤ bound then x else if x < 0 then -(bound : Int) else bound := by
  unfold clampInt
  split <;> split <;> omega

theorem PerSetting.get_fill {α : Type} (a : α) (st : Setting) : (PerSetting.fill a).get st = a := by cases st <;> rfl

/-! ### Keeps (R74) -/

theorem trimOffset_getD (c : CellRecord) (st : Setting) : ((c.trim.getD emptyTrim).offsets.get st).toInt = c.trimOffset st := by
  rw [CellRecord.trimOffset]
  cases c.trim with
  | none => rw [Option.getD_none, emptyTrim, PerSetting.get_fill]; rfl
  | some t => rfl

theorem keep_of_unwritten (h : b.cell n = none) : b.keep bound n st amount = b := by rw [Bank.keep, h]

theorem keep_of_written (h : b.cell n = some c) :
    b.keep bound n st amount = { b with cells := b.cells.put n (some (c.keep bound st amount)) } := by rw [Bank.keep, h]

theorem cell_lt (h : b.cell n = some c) : n < 120 := by
  have hget := (Table.get?_eq_getElem? _ _).symm.trans (Bank.cell_of_get?.mp h)
  have hlt := (List.getElem?_eq_some_iff.mp hget).1
  rw [b.cells.size] at hlt
  exact hlt

theorem cell_put {f : Option CellRecord} (h : n < 120) :
    ({ b with cells := b.cells.put n f } : Bank).cell m = if m = n then f else b.cell m := by
  unfold Bank.cell
  rw [Table.get?_put]
  by_cases hm : m = n
  · rw [if_pos ⟨hm, h⟩, if_pos hm]
    rfl
  · rw [if_neg (fun hh => hm hh.1), if_neg hm]

/-- Settles O32: the clamp by the place of the sum, and a keep by the cell it names. -/
theorem targetsAreTrimmedAndClamped : Obligations.TargetsAreTrimmedAndClamped := by
  refine ⟨fun p b c side st => ?_, fun b bound n st amount hbound =>
    ⟨keep_of_unwritten, fun c hc => ⟨(c.trim.getD emptyTrim).add bound st amount, ?_, ?_, fun o ho => ?_, ?_⟩, fun m hm => ?_, ?_⟩⟩
  · intro sum
    have hsum : unclampedTarget b c side st = sum := by
      obtain ⟨targets, permission, llim, tlim, trim⟩ := c
      cases trim <;> cases st <;> rfl
    have htarget := effectiveTarget_toNat p b c side st
    rw [hsum] at htarget
    exact ⟨fun h => htarget.trans (clampInt_of_lt h), fun hlo hhi => htarget.trans (clampInt_of_gt hlo hhi),
      fun hlo hhi => htarget.trans (clampInt_of_mem hlo hhi)⟩
  · rw [keep_of_written hc, cell_put (cell_lt hc), if_pos rfl]
    rfl
  · intro sum
    rw [Trim.add, PerSetting.get_set, if_pos rfl, trimOffset_getD, clampInt_bound, BitVec.toInt_ofInt_eq_self (by decide)]
    · split
      · omega
      · split <;> omega
    · split
      · omega
      · split <;> omega
  · rw [Trim.add, PerSetting.get_set, if_neg ho, trimOffset_getD]
  · rw [Trim.add, Nat.min_comm]
    cases c.trim <;> rfl
  · cases hc : b.cell n with
    | none => rw [keep_of_unwritten hc]
    | some c => rw [keep_of_written hc, cell_put (cell_lt hc), if_neg hm]
  · cases hc : b.cell n with
    | none => rw [keep_of_unwritten hc]
    | some c => rw [keep_of_written hc]

end Sys2Proof.Machine
end

section
/-! PROOF. The drives' answers (O38). -/

namespace Sys2Proof.Machine

variable {s t : State} {st o : Setting} {m : MoveRecord} {g : Goal} {f : Frame} {n lo hi outcome status : Byte} {v : Word16}

/-! ### Matching a drive frame -/

theorem matchDrive_some (hn : n.toNat = st.num) (h : s.driveStation st = some f.source) :
    s.matchDrive n f.source = some st := by
  rw [State.matchDrive, hn, setting_ofNum_num]
  exact if_pos h

theorem matchDrive_other (hn : n.toNat = st.num) (h : s.driveStation st ≠ some f.source) :
    s.matchDrive n f.source = none := by
  rw [State.matchDrive, hn, setting_ofNum_num]
  exact if_neg h

theorem matchDrive_none (h : 4 < n.toNat ∨ ∃ st : Setting, n.toNat = st.num ∧ s.driveStation st ≠ some f.source) :
    s.matchDrive n f.source = none := by
  rcases h with h | ⟨st, hn, h⟩
  · rw [State.matchDrive, setting_ofNum_isNone.mpr h]
  · exact matchDrive_other hn h

theorem takeDriveFrame_accept (hk : f.kind = .accept) (hp : f.payload = [n]) (hmatch : s.matchDrive n f.source = some st) :
    takeDriveFrame f s = takeAccept st f.tag s := by
  rw [takeDriveFrame, hk, hp]
  dsimp only
  rw [hmatch]

theorem takeDriveFrame_report (hk : f.kind = .report) (hp : f.payload = [n, lo, hi, status])
    (hmatch : s.matchDrive n f.source = some st) : takeDriveFrame f s = takeReport st (word16 lo hi) status s := by
  rw [takeDriveFrame, hk, hp]
  dsimp only
  rw [hmatch]

theorem takeDriveFrame_done (hk : f.kind = .done) (hp : f.payload = [n, outcome, lo, hi])
    (hmatch : s.matchDrive n f.source = some st) : takeDriveFrame f s =
      if 2 < outcome.toNat then countUnmatched s else takeDone st f.tag outcome.toNat (word16 lo hi) s := by
  rw [takeDriveFrame, hk, hp]
  dsimp only
  rw [hmatch]

/-- A drive frame of the length of its kind that matches no setting is only counted (R90). -/
theorem takeDriveFrame_unmatched {rest : List Byte} (hp : f.payload = n :: rest)
    (hk : f.kind = .accept ∧ rest.length = 0 ∨ f.kind = .report ∧ rest.length = 3 ∨ f.kind = .done ∧ rest.length = 3)
    (hmatch : s.matchDrive n f.source = none) : takeDriveFrame f s = countUnmatched s := by
  rcases hk with ⟨hk, hlen⟩ | ⟨hk, hlen⟩ | ⟨hk, hlen⟩
  · obtain rfl := List.length_eq_zero_iff.mp hlen
    rw [takeDriveFrame, hk, hp]
    dsimp only
    rw [hmatch]
  · obtain ⟨a, b, c, rfl⟩ := exists_three hlen
    rw [takeDriveFrame, hk, hp]
    dsimp only
    rw [hmatch]
  · obtain ⟨a, b, c, rfl⟩ := exists_three hlen
    rw [takeDriveFrame, hk, hp]
    dsimp only
    rw [hmatch]

/-! ### A move ends -/

/-- The record after a DONE that ends the move (R98). -/
def MoveRecord.ended (r : MoveRecord) (v : Word16) (limited : Bool) : MoveRecord :=
  { r with state := .idle, moveTimer := none, lastActual := some v, limited := limited }

/-- The settled event of a move that ends (R109). -/
def settledEvent (r : MoveRecord) (st : Setting) : List (List Handing) :=
  if r.manual = false ∧ r.deferred = none then [[takeSettled st], [publish]] else []

/-- The record with its last leg done. -/
def MoveRecord.arrived (r : MoveRecord) (v : Word16) : MoveRecord := { r with moveTimer := none, lastActual := some v }

theorem endMove_arrived {extra : List (List Handing)} {limited : Bool} (hstate : (s.record st).state = .moving) :
    endMove st limited extra (setRecord st ((s.record st).arrived v) s) =
      interleave (extra ++ settledEvent (s.record st) st)
        (setRecord st ((s.record st).ended v (limited || (s.record st).limited)) s) := by
  have hevent : (if ({ (s.record st).arrived v with
        state := .idle, limited := limited || ((s.record st).arrived v).limited } : MoveRecord).settled then
      newlySettled ((s.record st).arrived v).settled st else []) = settledEvent (s.record st) st := by
    unfold MoveRecord.settled settledEvent newlySettled settledHandings MoveRecord.arrived
    dsimp only
    rw [hstate]
    cases (s.record st).manual <;> cases (s.record st).deferred <;> rfl
  unfold endMove
  dsimp only
  rw [setRecord_record, if_pos rfl, setRecord_setRecord, hevent]
  rfl

theorem finishLeg_reached : finishLeg st 0 v s =
    if ((setRecord st ((s.record st).arrived v) s).record st).lastLeg s.mgmt.params st then
      endMove st false [] (setRecord st ((s.record st).arrived v) s)
    else issueSet st (setRecord st ((s.record st).arrived v) s) := rfl

theorem finishLeg_last {g : Goal} {l : Word16} (hstate : (s.record st).state = .moving)
    (hg : (s.record st).goal = some g) (hl : (s.record st).leg = some l)
    (hlast : (l.toNat : Int) = s.mgmt.params.clamp st g.value.toNat) : finishLeg st 0 v s =
      interleave (settledEvent (s.record st) st) (setRecord st ((s.record st).ended v (s.record st).limited) s) := by
  have hleg : ((setRecord st ((s.record st).arrived v) s).record st).lastLeg s.mgmt.params st = true := by
    rw [setRecord_record, if_pos rfl, MoveRecord.lastLeg, MoveRecord.arrived, hg, hl]
    exact decide_eq_true hlast
  rw [finishLeg_reached, if_pos hleg, endMove_arrived hstate]
  rfl

theorem finishLeg_next {g : Goal} {l : Word16} (hg : (s.record st).goal = some g) (hl : (s.record st).leg = some l)
    (hlast : (l.toNat : Int) ≠ s.mgmt.params.clamp st g.value.toNat) :
    finishLeg st 0 v s = issueSet st (setRecord st ((s.record st).arrived v) s) := by
  have hleg : ¬ ((setRecord st ((s.record st).arrived v) s).record st).lastLeg s.mgmt.params st = true := by
    rw [setRecord_record, if_pos rfl, MoveRecord.lastLeg, MoveRecord.arrived, hg, hl]
    exact fun h => hlast (of_decide_eq_true h)
  rw [finishLeg_reached, if_neg hleg]

theorem finishLeg_limited (hstate : (s.record st).state = .moving) : finishLeg st 1 v s =
    interleave ([[raiseNotice .moveLimited st.num v]] ++ settledEvent (s.record st) st)
      (setRecord st ((s.record st).ended v true) s) := by
  have hfinish : finishLeg st 1 v s =
      endMove st true [[raiseNotice .moveLimited st.num v]] (setRecord st ((s.record st).arrived v) s) := rfl
  rw [hfinish, endMove_arrived hstate, Bool.true_or]

theorem finishLeg_refused : finishLeg st 2 v s = enterFault st .refused (setRecord st ((s.record st).arrived v) s) := rfl

/-! ### What stays of a move that ended -/

/-- The last actual is this one, and no move is timed. -/
structure Arrived (v : Word16) (r : MoveRecord) : Prop where
  actual : r.lastActual = some v
  timer : r.moveTimer = none

/-- What a goal does to a record: it is kept, it waits, or a SET is issued for it. -/
theorem giveGoal_record_cases (st : Setting) (g : Goal) (s : State) :
    (giveGoal st g s).record st = { s.record st with goal := some g, deferred := none } ∨
    (giveGoal st g s).record st = { s.record st with deferred := some g.value } ∨
    (giveGoal st g s).record st = s.issued st g := by
  by_cases hkept : s.goalKept st = true
  · rw [giveGoal_of_kept hkept, storeGoal, setRecord_record, if_pos rfl]
    exact .inl rfl
  · by_cases hheld : g.source = .regulator ∧ s.groupHeld st = true
    · rw [giveGoal_of_held hkept hheld, setRecord_record, if_pos rfl]
      exact .inr (.inl rfl)
    · rw [giveGoal_of_free hkept hheld, issueSet_storeGoal, record_of_moves queueSet_moves, setRecord_record, if_pos rfl]
      exact .inr (.inr rfl)

theorem arrived_calm (st : Setting) (v : Word16) : Calm (fun s => Arrived v (s.record st)) := by
  refine record_calm fun g s h => ?_
  rcases giveGoal_record_cases st g s with heq | heq | heq <;> rw [heq]
  · exact ⟨h.actual, h.timer⟩
  · exact ⟨h.actual, h.timer⟩
  · exact ⟨h.actual, rfl⟩

theorem settledEvent_keep {P : State → Prop} {r : MoveRecord} (hP : ∀ t, P t → P (takeSettled st t))
    (hpublish : ∀ t, P t → P (publish t)) : ∀ c ∈ settledEvent r st, ∀ h ∈ c, ∀ t, P t → P (h t) := by
  intro c hc h hh t ht
  unfold settledEvent at hc
  split at hc
  · simp only [List.mem_cons, List.not_mem_nil, or_false] at hc
    rcases hc with rfl | rfl <;> obtain rfl := List.mem_singleton.mp hh
    · exact hP t ht
    · exact hpublish t ht
  · cases hc

theorem arrived_settledEvent {r : MoveRecord} : ∀ c ∈ settledEvent r st, ∀ h ∈ c, ∀ t : State, Arrived v (t.record st) →
    Arrived v ((h t).record st) :=
  settledEvent_keep (P := fun t => Arrived v (t.record st)) (fun _ => (arrived_calm st v).takeSettled st)
    (fun _ => (arrived_calm st v).publish)

/-- While the regulator is IDLE, a settled event is followed by a picture alone. -/
theorem settledEvent_resting {r : MoveRecord} (hidle : s.regulator.state = .idle) : ∀ c ∈ settledEvent r st, ∀ h ∈ c,
    ∀ t, OnlyTouches [.pictures, .order, .notices, .pins, .link] s t → OnlyTouches [.pictures, .order, .notices, .pins, .link] s (h t) := by
  refine settledEvent_keep (fun t ht => ?_) (fun t ht => touches_publish (by decide) ht)
  rw [takeSettled_of_resting (.inl (by rw [ht.regulator (by decide)]; exact hidle))]
  exact ht

/-- The record a SET is issued for keeps its last actual, and its move is not timed yet. -/
theorem arrived_issueSet (h : Arrived v (s.record st)) : Arrived v ((issueSet st s).record st) := by
  cases hg : (s.record st).goal with
  | none =>
    rw [issueSet_of_no_goal hg]
    exact h
  | some g =>
    rw [record_of_moves (issueSet_moves hg), setRecord_record, if_pos rfl]
    exact ⟨h.actual, rfl⟩

theorem arrived_setRecord (h : Arrived v m) : Arrived v ((setRecord st m s).record st) := by
  rw [setRecord_record, if_pos rfl]
  exact h

/-- However the leg ended, the last actual is the DONE's, and the move timer is STOPPED (R98). -/
theorem arrived_finishLeg (hstate : (s.record st).state = .moving) : ∀ outcome : Nat,
    Arrived v ((finishLeg st outcome v s).record st)
  | 0 => by
    rw [finishLeg_reached]
    split
    · rw [endMove_arrived hstate]
      exact keeps_interleave (P := fun t => Arrived v (t.record st)) (fun _ => arrived_setRecord ⟨rfl, rfl⟩) arrived_settledEvent
    · exact arrived_issueSet (arrived_setRecord ⟨rfl, rfl⟩)
  | 1 => by
    rw [finishLeg_limited hstate]
    refine keeps_interleave (P := fun t => Arrived v (t.record st)) (fun _ => arrived_setRecord ⟨rfl, rfl⟩)
      fun c hc g hg t ht => ?_
    rcases List.mem_append.mp hc with hc | hc
    · obtain rfl := List.mem_singleton.mp hc
      obtain rfl := List.mem_singleton.mp hg
      exact (arrived_calm st v).notice _ _ _ ht
    · exact arrived_settledEvent c hc g hg t ht
  | n + 2 => by
    have hrecord : (setRecord st ((s.record st).arrived v) s).record st = (s.record st).arrived v := by
      rw [setRecord_record, if_pos rfl]
    have hmoving : ((setRecord st ((s.record st).arrived v) s).record st).state ≠ .fault := by
      rw [hrecord]
      exact fun h => nomatch hstate.symm.trans h
    obtain ⟨⟨goal, deferred, hfault⟩, -⟩ := faulted_enterFault (cause := .refused) hmoving
    rw [show finishLeg st (n + 2) v s = enterFault st .refused (setRecord st ((s.record st).arrived v) s) from rfl, hfault, hrecord]
    exact ⟨rfl, rfl⟩

theorem faulted_finishLeg (hstate : (s.record st).state = .moving) : ((finishLeg st 2 v s).record st).state = .fault ∧
    ((finishLeg st 2 v s).record st).cause = .refused := by
  have hmoving : ((setRecord st ((s.record st).arrived v) s).record st).state ≠ .fault := by
    rw [setRecord_record, if_pos rfl]
    exact fun h => nomatch hstate.symm.trans h
  obtain ⟨⟨goal, deferred, hfault⟩, -⟩ := faulted_enterFault (cause := .refused) hmoving
  rw [finishLeg_refused, hfault]
  exact ⟨rfl, rfl⟩

/-- Handings that reach no move record leave the record as the DONE made it. -/
theorem record_interleave_resting {chains : List (List Handing)}
    (hchains : ∀ c ∈ chains, ∀ h ∈ c, ∀ t, OnlyTouches [.pictures, .order, .notices, .pins, .link] (setRecord st m s) t →
      OnlyTouches [.pictures, .order, .notices, .pins, .link] (setRecord st m s) (h t)) :
    (interleave chains (setRecord st m s)).record st = m := by
  have h := keeps_interleave (P := OnlyTouches [.pictures, .order, .notices, .pins, .link] (setRecord st m s))
    (fun o => touches_withOrder (by decide) (.refl _ _) o) hchains
  rw [record_of_moves (h.moves (by decide)), setRecord_record, if_pos rfl]

/-- The notice of a limited move, while the regulator is IDLE. -/
theorem notices_limited {r : MoveRecord} (hidle : s.regulator.state = .idle) :
    (interleave ([[raiseNotice .moveLimited st.num v]] ++ settledEvent r st) (setRecord st m s)).notices =
      (raiseNotice .moveLimited st.num v s).notices := by
  have hevent := settledEvent_keep (st := st) (r := r) (P := OnlyTouches [.pictures, .order] (setRecord st m s)) (fun t ht => by
    rw [takeSettled_of_resting (.inl (by rw [ht.regulator (by decide)]; exact hidle))]
    exact ht) (fun t ht => touches_publish (by decide) ht)
  have hafter := settledEvent_keep (st := st) (r := r)
    (P := fun t => t.notices = (raiseNotice .moveLimited st.num v s).notices ∧ t.regulator.state = .idle)
    (fun t ht => by rw [takeSettled_of_resting (.inl ht.2)]; exact ht) (fun t ht => ht)
  refine (interleave_once (P := OnlyTouches [.pictures, .order] (setRecord st m s))
    (Q := fun t => t.notices = (raiseNotice .moveLimited st.num v s).notices ∧ t.regulator.state = .idle)
    (g := raiseNotice .moveLimited st.num v) (rest := (settledEvent r st).flatten) (.refl _)
    (fun o => touches_withOrder (by decide) (.refl _ _) o) (fun h hh t ht => ?_) (fun t ht => ⟨?_, ?_⟩) fun h hh t ht => ?_).1
  · obtain ⟨c, hc, hhc⟩ := List.mem_flatten.mp hh
    exact hevent c hc h hhc t ht
  · exact notices_raiseNotice_congr (ht.notices (by decide)) (by rw [ht.mgmt (by decide)]; rfl) (ht.partTime (by decide))
  · rw [(touches_raiseNotice (T := touchNotices) (by decide) (.refl _ _) _ _ _).regulator (by decide), ht.regulator (by decide)]
    exact hidle
  · obtain ⟨c, hc, hhc⟩ := List.mem_flatten.mp hh
    exact hafter c hc h hhc t ht

/-! ### REPORT -/

/-- The record with a REPORT taken (R102, R103). -/
def MoveRecord.reported (r : MoveRecord) (period : Byte) (now : Word32) (v : Word16) (status : Byte) : MoveRecord :=
  { r with
    tracking := .locked
    trackWindow := some ⟨now, period.toNat + period.toNat / 2⟩
    lastActual := some v
    flagMoving := status.getLsbD 0
    flagAtLimit := status.getLsbD 1 }

theorem takeReport_eq : takeReport st v status s =
    if status.getLsbD 2 then enterFault st .driveFlag (judgeManual st (status.getLsbD 3) v
      (setRecord st ((s.record st).reported (s.moves.roster.get st).period s.partTime v status) s))
    else judgeManual st (status.getLsbD 3) v
      (setRecord st ((s.record st).reported (s.moves.roster.get st).period s.partTime v status) s) := rfl

theorem judgeManual_same {bit : Bool} (h : bit = (s.record st).manual) : judgeManual st bit v s = s := by
  unfold judgeManual
  dsimp only
  rw [← h]
  cases bit <;> rfl

theorem judgeManual_on (h : (s.record st).manual = false) : judgeManual st true v s =
    interleave ([[raiseNotice .manualOn st.num v], [takeExclusion st]] ++ newlySettled (s.record st).settled st)
      (setRecord st (s.record st).takeManual s) := by
  unfold judgeManual
  dsimp only
  rw [h]

/-- The drive is given back: the notice, and the goal it kept given again (R104). -/
theorem judgeManual_off_goal {g : Goal} (h : (s.record st).manual = true) (hg : (s.record st).goal = some g) :
    judgeManual st false v s =
      giveGoal st g (raiseNotice .manualOff st.num v (setRecord st { s.record st with manual := false } s)) := by
  unfold judgeManual
  dsimp only
  rw [h, hg]

theorem judgeManual_off_no_goal (h : (s.record st).manual = true) (hg : (s.record st).goal = none) :
    judgeManual st false v s = raiseNotice .manualOff st.num v (setRecord st { s.record st with manual := false } s) := by
  unfold judgeManual
  dsimp only
  rw [h, hg]

theorem takeManual_eq (r : MoveRecord) : r.takeManual = { r with
    manual := true
    state := if decide (r.state = .issued) || decide (r.state = .moving) then .idle else r.state
    acceptTimer := if decide (r.state = .issued) || decide (r.state = .moving) then none else r.acceptTimer
    moveTimer := if decide (r.state = .issued) || decide (r.state = .moving) then none else r.moveTimer } := by
  unfold MoveRecord.takeManual
  cases h : r.state <;> rfl

/-- Settles O38: each frame by the setting it matches, then by the record's state and the frame's fields. -/
theorem driveAnswersMoveTheExchange : Obligations.DriveAnswersMoveTheExchange := by
  refine ⟨fun f n rest s hp hk hother => takeDriveFrame_unmatched hp hk (matchDrive_none hother),
    fun f n st s hk hp hn hd => ⟨fun hstate htag => ?_, fun hstale => ?_⟩, fun f n outcome lo hi st s hk hp hn => ?_,
    fun f n lo hi status st s hk hp hn => ?_⟩
  · rw [takeDriveFrame_accept hk hp (matchDrive_some hn hd), takeAccept]
    dsimp only
    rw [if_pos ⟨hstate, htag⟩, tenths, Nat.mul_comm]
    rfl
  · rw [takeDriveFrame_accept hk hp (matchDrive_some hn hd)]
    exact if_neg hstale
  · intro r unmatched t
    refine ⟨fun hother => ?_, fun hd hle => ?_⟩
    · by_cases hd : s.driveStation st = some f.source
      · exact (takeDriveFrame_done hk hp (matchDrive_some hn hd)).trans (if_pos (hother.resolve_left (not_not_intro hd)))
      · exact takeDriveFrame_unmatched hp (.inr (.inr ⟨hk, rfl⟩)) (matchDrive_other hn hd)
    · have htaken : t = takeDone st f.tag outcome.toNat (word16 lo hi) s :=
        (takeDriveFrame_done hk hp (matchDrive_some hn hd)).trans (if_neg (Nat.not_lt.mpr hle))
      refine ⟨fun hstale => htaken.trans (if_neg hstale), fun hstate htag => ?_⟩
      have ht : t = finishLeg st outcome.toNat (word16 lo hi) s := htaken.trans (if_pos ⟨hstate, htag⟩)
      have harrived := arrived_finishLeg (v := word16 lo hi) hstate outcome.toNat
      rw [← ht] at harrived
      intro settled ended
      refine ⟨fun g l h0 hg hl hlast => ?_, fun h1 => ?_, harrived.actual, harrived.timer, fun g l h0 hg hl => ⟨fun hlast => ?_,
        fun hlast hidle => ?_⟩, fun h1 hidle => ?_, fun h2 => ?_⟩
      · rw [ht, h0]
        exact finishLeg_last hstate hg hl hlast
      · rw [ht, h1]
        exact finishLeg_limited hstate
      · have hgoal : ((setRecord st ((s.record st).arrived (word16 lo hi)) s).record st).goal = some g := by
          rw [setRecord_record, if_pos rfl]
          exact hg
        rw [ht, h0, finishLeg_next hg hl hlast, record_of_moves (issueSet_moves hgoal), setRecord_record, if_pos rfl,
          setRecord_record, if_pos rfl]
        exact ⟨rfl, rfl, hg⟩
      · rw [ht, h0, finishLeg_last hstate hg hl hlast, 
          record_interleave_resting (settledEvent_resting (s := setRecord st _ s) hidle)]
        exact ⟨rfl, rfl, hg⟩
      · rw [ht, h1, finishLeg_limited hstate, notices_limited hidle, record_interleave_resting]
        · exact ⟨rfl, rfl, rfl⟩
        · intro c hc h hh t ht
          rcases List.mem_append.mp hc with hc | hc
          · obtain rfl := List.mem_singleton.mp hc
            obtain rfl := List.mem_singleton.mp hh
            exact touches_raiseNotice (by decide) ht _ _ _
          · exact settledEvent_resting (s := setRecord st _ s) hidle c hc h hh t ht
      · rw [ht, h2]
        exact faulted_finishLeg hstate
  · intro r v heard event exchange m
    refine ⟨fun hd => takeDriveFrame_unmatched hp (.inr (.inl ⟨hk, rfl⟩)) (matchDrive_other hn hd), fun hd => ?_⟩
    have hm : judgeManual st (status.getLsbD 3) v (setRecord st heard s) = m := by
      have hrecord : (setRecord st heard s).record st = heard := by rw [setRecord_record, if_pos rfl]
      by_cases hsame : status.getLsbD 3 = r.manual
      · exact (judgeManual_same (by rw [hrecord]; exact hsame)).trans (if_pos hsame).symm
      · by_cases hman : r.manual = false
        · have hbit : status.getLsbD 3 = true := Bool.of_not_eq_false fun h => hsame (h.trans hman.symm)
          refine Eq.trans ?_ ((if_neg hsame).trans (if_pos hman)).symm
          rw [hbit, judgeManual_on (by rw [hrecord]; exact hman), hrecord, setRecord_setRecord, takeManual_eq]
          rfl
        · have hbit : status.getLsbD 3 = false := Bool.of_not_eq_true fun h =>
            hsame (h.trans (Bool.of_not_eq_false hman).symm)
          refine Eq.trans ?_ ((if_neg hsame).trans (if_neg hman)).symm
          have hmanual : ((setRecord st heard s).record st).manual = true := by
            rw [hrecord]
            exact Bool.of_not_eq_false hman
          rw [hbit]
          split
          · rename_i g hg
            rw [judgeManual_off_goal hmanual (by rw [hrecord]; exact hg), hrecord, setRecord_setRecord]
          · rename_i hg
            rw [judgeManual_off_no_goal hmanual (by rw [hrecord]; exact hg), hrecord, setRecord_setRecord]
    have ht : takeDriveFrame f s = if status.getLsbD 2 then enterFault st .driveFlag m else m := by
      rw [takeDriveFrame_report hk hp (matchDrive_some hn hd), takeReport_eq, ← hm]
      rfl
    refine ⟨fun h => ?_, fun hbit hstate => ?_⟩
    · rw [ht]
      rcases h with h | h
      · rw [h]
        rfl
      · rw [enterFault_of_fault h, ite_self]
    · rw [ht, hbit, if_pos rfl, enterFault_eq hstate]
      rfl

end Sys2Proof.Machine
end

section
/-! PROOF. Samples arrive, or do not (O27, O28). -/

namespace Sys2Proof.Machine

variable {s t u : State} {i j : Fin 24} {f : Frame} {b lo hi : Byte} {c : Channel}

/-! ### What a channel hands on -/

namespace Steady

variable {P : State → Prop} (hP : Steady P)
include hP

theorem valueHandings (r : Role) (v : Word16) : ∀ c ∈ valueHandings r v, ∀ g ∈ c, ∀ t, P t → P (g t) := by
  intro c hc g hg t ht
  unfold Machine.valueHandings at hc
  rcases List.mem_append.mp hc with hc | hc <;> split at hc <;> cases hc
  · obtain rfl := List.mem_singleton.mp hg; exact hP.takeAxisValue _ _ ht
  · contradiction
  · obtain rfl := List.mem_singleton.mp hg; exact hP.takeKept _ _ ht
  · contradiction

theorem unusableHandings (r : Role) : ∀ c ∈ unusableHandings r, ∀ g ∈ c, ∀ t, P t → P (g t) := by
  intro c hc g hg t ht
  unfold Machine.unusableHandings at hc
  rcases List.mem_append.mp hc with hc | hc <;> split at hc <;> cases hc
  · obtain rfl := List.mem_singleton.mp hg; exact hP.freezeAxis _ ht
  · contradiction
  · obtain rfl := List.mem_singleton.mp hg; exact hP.takeKept _ _ ht
  · contradiction

end Steady

/-- A predicate of the channel unit that closing the gate keeps is calm. -/
theorem channels_calm {K : ChannelUnit → Prop} (hK : ∀ u, K u → K u.closeGate) : Calm (fun s => K s.channels) where
  touches h hs := by rw [h.channels (by decide)]; exact hs
  regulator _ {_} _ h := h
  closeGate {s} h := hK s.channels h
  safeOut _ _ h := h
  publish h := h
  notice _ _ _ {s} hs := by
    rw [(touches_raiseNotice (T := touchNotices) (by decide) (.refl _ s) _ _ _).channels (by decide)]
    exact hs
  goal _ _ {s} hs := by
    rw [(touches_giveGoal (T := touchMoves) (by decide) (.refl _ s) _ _).channels (by decide)]
    exact hs

/-- The entries are these. -/
def HasEntries (e : Table Channel 24) (s : State) : Prop := s.channels.entries = e

/-- The entries are these, and the indicator is the one of R39. -/
structure Indicated (e : Table Channel 24) (s : State) : Prop where
  entries : s.channels.entries = e
  judged : s.channels.lostIndicator = s.channels.lostNow

theorem hasEntries_calm (e : Table Channel 24) : Calm (HasEntries e) :=
  channels_calm (K := fun u => u.entries = e) fun _ h => h

theorem indicated_calm (e : Table Channel 24) : Calm (Indicated e) := by
  have h : Calm (fun s => s.channels.entries = e ∧ s.channels.lostIndicator = s.channels.lostNow) :=
    channels_calm (K := fun u => u.entries = e ∧ u.lostIndicator = u.lostNow) fun _ h => h
  exact ⟨fun ht hs => (h.touches ht ⟨hs.1, hs.2⟩).casesOn .mk, fun x _ hx hs => ⟨hs.1, hs.2⟩, fun hs => ⟨hs.1, hs.2⟩,
    fun _ _ hs => ⟨hs.1, hs.2⟩, fun hs => ⟨hs.1, hs.2⟩, fun k n d _ hs => (h.notice k n d ⟨hs.1, hs.2⟩).casesOn .mk,
    fun st g _ hs => (h.goal st g ⟨hs.1, hs.2⟩).casesOn .mk⟩

/-- The indicator judged is the one of R39. -/
theorem indicated_judgeLost {e : Table Channel 24} (h : HasEntries e s) : Indicated e (judgeLost s) := by
  unfold judgeLost
  split
  · exact ⟨h, (by assumption : s.channels.lostNow = s.channels.lostIndicator).symm⟩
  · exact (indicated_calm e).steady.setCondition _ _ ⟨h, rfl⟩

/-! ### Entries replaced -/

@[simp] theorem channel_setChannel (i j : Fin 24) (c : Channel) (s : State) :
    (setChannel i c s).channel j = if j = i then c else s.channel j := Table.get_set ..

theorem Table.set_set {α : Type} {n : Nat} (tb : Table α n) (k : Fin n) (x y : α) : (tb.set k x).set k y = tb.set k y := by
  unfold Table.set
  simp only [List.set_set]

theorem Table.set_get_self {α : Type} {n : Nat} (tb : Table α n) (k : Fin n) : tb.set k (tb.get k) = tb := by
  obtain ⟨l, hl⟩ := tb
  unfold Table.set Table.get
  simp

theorem setChannel_setChannel (i : Fin 24) (c d : Channel) (s : State) : setChannel i d (setChannel i c s) = setChannel i d s := by
  change s.withChannels { s.channels with entries := (s.channels.entries.set i c).set i d } = _
  rw [Table.set_set]
  rfl

theorem setChannel_self (i : Fin 24) (s : State) : setChannel i (s.channel i) s = s := by
  rw [setChannel, State.channel, Table.set_get_self]
  rfl

theorem channel_of_entries (h : t.channels.entries = s.channels.entries.set i c) :
    t.channel j = if j = i then c else s.channel j := by
  rw [State.channel, h, Table.get_set]
  rfl

theorem touches_setChannel_own (i : Fin 24) (c : Channel) (s : State) : OnlyTouches [.channels] s (setChannel i c s) :=
  touches_withChannels (by decide) (.refl _ s) _

/-! ### The entry a SAMPLE matches -/

theorem matchSample_isSome (h : (s.channel i).defn.enabled = true) :
    (s.matchSample (s.channel i).defn.station (s.channel i).defn.sub).isSome = true := by
  rw [Option.isSome_iff_ne_none]
  exact fun hnone => matchSample_eq_none hnone i ⟨h, rfl, rfl⟩

/-- In a table that obeys R28 an enabled entry is the only one with its key. -/
theorem matchSample_unique (h : s.channelsSound = true) (hon : (s.channel i).defn.enabled = true) :
    s.matchSample (s.channel i).defn.station (s.channel i).defn.sub = some i := by
  obtain ⟨j, hj⟩ := Option.isSome_iff_exists.mp (matchSample_isSome hon)
  rw [hj, matches_unique (channelsSound_iff.mp h).1 (matchSample_eq_some hj) ⟨hon, rfl, rfl⟩]

theorem takeSample_matched (hp : f.payload = [b, lo, hi]) (h : s.matchSample f.source (b.setWidth 2) = some i) :
    takeSample f s = takeArrival i (b.getLsbD 7) (word16 lo hi) s := by
  rw [takeSample, hp]
  dsimp only
  rw [h]

theorem takeSample_unmatched (hp : f.payload = [b, lo, hi]) (h : s.matchSample f.source (b.setWidth 2) = none) :
    takeSample f s = s := by
  rw [takeSample, hp]
  dsimp only
  rw [h]

/-! ### An arrival (R30 to R36) -/

/-- The entry with an arrival counted. -/
def Channel.relocked (c : Channel) (now : Word32) : Channel :=
  ⟨c.defn, { c.rt with lock := .locked, window := c.defn.startWindow now }⟩

theorem countArrival_tracked (h : (s.channel i).rt.lock ≠ .lost) :
    countArrival i s = setChannel i ((s.channel i).relocked s.partTime) s := if_neg h

theorem countArrival_lost (h : (s.channel i).rt.lock = .lost) : countArrival i s = interleave
    [[raiseNotice .channelLocked i.val (BitVec.ofNat 16 (s.channel i).defn.role.code)], [judgeLost]]
    (setChannel i ((s.channel i).relocked s.partTime) s) := if_pos h

/-- An entry that leaves LOST is LOCKED, and the indicator is judged. -/
theorem indicated_countArrival (h : (s.channel i).rt.lock = .lost) :
    Indicated (s.channels.entries.set i ((s.channel i).relocked s.partTime)) (countArrival i s) := by
  rw [countArrival_lost h]
  refine interleave_once (P := HasEntries (s.channels.entries.set i ((s.channel i).relocked s.partTime))) (g := judgeLost)
    (rest := [raiseNotice .channelLocked i.val (BitVec.ofNat 16 (s.channel i).defn.role.code)]) (.swap _ _ _)
    (fun _ => rfl) ?_ (fun _ => indicated_judgeLost) ?_
  · simp only [List.mem_cons, List.not_mem_nil, or_false, forall_eq]
    exact fun _ => (hasEntries_calm _).notice _ _ _
  · simp only [List.mem_cons, List.not_mem_nil, or_false, forall_eq]
    exact fun _ => (indicated_calm _).notice _ _ _

theorem countArrival_relocked (h : s.channel i = (u.channel i).relocked s.partTime) : countArrival i s = s := by
  have hlock : (s.channel i).rt.lock ≠ .lost := by rw [h]; exact nofun
  have hsame : (s.channel i).relocked s.partTime = s.channel i := by rw [h]; rfl
  rw [countArrival_tracked hlock, hsame, setChannel_self]

/-- The value taken into the entry (R32, R41). -/
def Channel.valued (c : Channel) (gate : Bool) (now : Word32) (v : Word16) : Channel :=
  ⟨c.defn, { c.rt with
    lastValue := some v
    lastTime := some now
    sum := if gate && c.defn.role.isMeasured && decide (c.rt.count ≠ 65535#16) then c.rt.sum + v.signExtend 32 else c.rt.sum
    count := if gate && c.defn.role.isMeasured && decide (c.rt.count ≠ 65535#16) then c.rt.count + 1#16 else c.rt.count }⟩

theorem takeValue_eq {v : Word16} (hon : (s.channel i).defn.enabled = true) : takeValue i v s =
    interleave (valueHandings (s.channel i).defn.role v)
      (setChannel i ((s.channel i).valued s.channels.gate s.partTime v) s) := by
  have hrt : (if s.channels.gate && (s.channel i).defn.measured then
      ({ (s.channel i).rt with lastValue := some v, lastTime := some s.partTime } : ChannelRt).accumulate v
      else { (s.channel i).rt with lastValue := some v, lastTime := some s.partTime }) =
      ((s.channel i).valued s.channels.gate s.partTime v).rt := by
    unfold Channel.valued ChannelDef.measured ChannelRt.accumulate
    dsimp only
    rw [hon, Bool.true_and]
    cases s.channels.gate && (s.channel i).defn.role.isMeasured with
    | false => rfl
    | true =>
      by_cases hfull : (s.channel i).rt.count = 65535#16
      · simp [hfull]
      · simp [hfull]
  unfold takeValue
  dsimp only
  rw [if_pos hon, updRuntime]
  exact congrArg (fun r => interleave (valueHandings (s.channel i).defn.role v)
    (setChannel i ⟨(s.channel i).defn, r⟩ s)) hrt

/-- A notice raised once for a latch. -/
theorem notices_latched {kind : NoticeKind} {detail : Word16} (latched : Bool) (c : Channel) :
    (if latched then setChannel i c s else raiseNotice kind i.val detail (setChannel i c s)).notices =
      (if latched then s else raiseNotice kind i.val detail s).notices := by
  cases latched with
  | true => rfl
  | false => exact notices_raiseNotice_congr rfl rfl rfl

theorem channels_latched {kind : NoticeKind} {detail : Word16} (latched : Bool) (c : Channel) :
    (if latched then setChannel i c s else raiseNotice kind i.val detail (setChannel i c s)).channels =
      (setChannel i c s).channels := by
  cases latched with
  | true => rfl
  | false => exact (touches_raiseNotice (T := touchNotices) (by decide) (.refl _ _) _ _ _).channels (by decide)

theorem touches_latched {kind : NoticeKind} {detail : Word16} (latched : Bool) (c : Channel) :
    OnlyTouches (.channels :: touchNotices) s
      (if latched then setChannel i c s else raiseNotice kind i.val detail (setChannel i c s)) := by
  have h := (touches_setChannel_own i c s).mono (show [Block.channels] ⊆ .channels :: touchNotices by decide)
  cases latched with
  | true => exact h
  | false => exact touches_raiseNotice (by decide) h _ _ _

/-- What a faulted or out-of-range arrival leaves: the entry, with a latch, and a notice when the latch was clear. -/
theorem takeFaulted_eq {raw : Word16} {c : Channel} : takeFaulted i raw (setChannel i c s) =
    if c.rt.faultLatch then setChannel i ⟨c.defn, { c.rt with faultLatch := true }⟩ s
    else raiseNotice .sensorFault i.val raw (setChannel i ⟨c.defn, { c.rt with faultLatch := true }⟩ s) := by
  unfold takeFaulted updRuntime
  dsimp only
  rw [channel_setChannel, if_pos rfl, setChannel_setChannel]

theorem rejectValue_eq {v : Word16} {c : Channel} : rejectValue i v (setChannel i c s) =
    if c.rt.rangeLatch then setChannel i ⟨c.defn, { c.rt with rangeLatch := true, rangeCount := satInc8 c.rt.rangeCount }⟩ s
    else raiseNotice .rangeError i.val v
      (setChannel i ⟨c.defn, { c.rt with rangeLatch := true, rangeCount := satInc8 c.rt.rangeCount }⟩ s) := by
  unfold rejectValue updRuntime
  dsimp only
  rw [channel_setChannel, if_pos rfl, setChannel_setChannel]

theorem plausible_iff {d : ChannelDef} {v : Word16} : d.plausible v = true ↔
    d.plausibleMin.toInt ≤ v.toInt ∧ v.toInt ≤ d.plausibleMax.toInt := by
  rw [ChannelDef.plausible, Bool.and_eq_true, decide_eq_true_iff, decide_eq_true_iff]

theorem matchSample_congr (h : ∀ j, (u.channel j).defn = (s.channel j).defn) (source : Byte) (sub : BitVec 2) :
    u.matchSample source sub = s.matchSample source sub := by
  unfold State.matchSample
  simp only [h]

theorem takeArrival_tracked {fault : Bool} {raw : Word16} (h : (s.channel i).rt.lock ≠ .lost) : takeArrival i fault raw s =
    if fault then takeFaulted i raw (setChannel i ((s.channel i).relocked s.partTime) s)
    else if (s.channel i).defn.plausible (scaleSample (s.channel i).defn.gain (s.channel i).defn.offset raw) then
      takeValue i (scaleSample (s.channel i).defn.gain (s.channel i).defn.offset raw)
        (setChannel i ((s.channel i).relocked s.partTime) s)
    else rejectValue i (scaleSample (s.channel i).defn.gain (s.channel i).defn.offset raw)
      (setChannel i ((s.channel i).relocked s.partTime) s) := by
  unfold takeArrival
  dsimp only
  rw [countArrival_tracked h]

theorem valueHandings_eq (role : Role) (v : Word16) : valueHandings role v = match role with
    | .moisture => [[takeAxisValue .moisture v]]
    | .feedLoad => [[takeAxisValue .feed v], [takeKept role (some v)]]
    | .pitch => [[takeAxisValue .slope v], [takeKept role (some v)]]
    | .roll => [[takeAxisValue .side v], [takeKept role (some v)]]
    | .tailings => [[takeKept role (some v)]] | .drumSpeed => [[takeKept role (some v)]]
    | .fanSpeed => [[takeKept role (some v)]]
    | .shoeLoss => [] | .sepLoss => [] | .grainFlow => [] | .none => [] := by
  cases role <;> rfl

/-- Settles O27: the arrival is counted, and then taken by its fault bit and its value. -/
theorem aSampleIsTracked : Obligations.ASampleIsTracked := by
  refine ⟨fun role v => valueHandings_eq role v, fun s source sub i h => matchSample_eq_some h,
    fun s i hon => ⟨matchSample_isSome hon, fun hs => matchSample_unique hs hon⟩, fun s f b lo hi i hp hmatch hlost => ?_,
    fun s f b lo hi hp => ⟨takeSample_unmatched hp, fun i hmatch hlock => ?_⟩⟩
  · intro c relocked
    obtain ⟨hentries, hjudged⟩ := indicated_countArrival hlost
    have hchannel (j : Fin 24) : (countArrival i s).channel j = if j = i then relocked else s.channel j :=
      channel_of_entries hentries
    have htime : (countArrival i s).partTime = s.partTime :=
      (touches_countArrival (List.Subset.refl _) (.refl _ s) i).partTime (by decide)
    have hsame : (countArrival i s).channel i = (s.channel i).relocked (countArrival i s).partTime := by
      rw [hchannel, if_pos rfl, htime]
      rfl
    have hdefn (j : Fin 24) : ((countArrival i s).channel j).defn = (s.channel j).defn := by
      rw [hchannel]
      split
      · rename_i hj
        rw [hj]
      · rfl
    refine ⟨countArrival i s, by rw [hchannel, if_pos rfl], fun j hj => by rw [hchannel, if_neg hj], hjudged,
      countArrival_lost hlost, ?_⟩
    rw [takeSample_matched hp hmatch, takeSample_matched hp ((matchSample_congr hdefn _ _).trans hmatch)]
    unfold takeArrival
    dsimp only
    rw [countArrival_relocked hsame, hdefn]
  · intro c v t r counted
    have hon := (matchSample_eq_some hmatch).1
    have ht : t = takeArrival i (b.getLsbD 7) (word16 lo hi) s := takeSample_matched hp hmatch
    rw [takeArrival_tracked hlock] at ht
    have honly {x : Channel} {w : State} (hw : w.channels = (setChannel i x s).channels) (j : Fin 24) :
        w.channel j = if j = i then x else s.channel j := channel_of_entries (congrArg ChannelUnit.entries hw)
    have hfault (hbit : b.getLsbD 7 = true) : t = if (s.channel i).rt.faultLatch then
        setChannel i ⟨c.defn, { r with faultLatch := true }⟩ s
        else raiseNotice .sensorFault i.val (word16 lo hi) (setChannel i ⟨c.defn, { r with faultLatch := true }⟩ s) := by
      rw [ht, hbit, if_pos rfl, takeFaulted_eq]
      rfl
    have hrange (hbit : b.getLsbD 7 = false)
        (hout : v.toInt < c.defn.plausibleMin.toInt ∨ c.defn.plausibleMax.toInt < v.toInt) :
        t = if (s.channel i).rt.rangeLatch then
          setChannel i ⟨c.defn, { r with rangeLatch := true, rangeCount := satInc8 c.rt.rangeCount }⟩ s
          else raiseNotice .rangeError i.val v
            (setChannel i ⟨c.defn, { r with rangeLatch := true, rangeCount := satInc8 c.rt.rangeCount }⟩ s) := by
      rw [ht, hbit, if_neg Bool.false_ne_true, if_neg ((not_congr plausible_iff).mpr fun h => hout.elim (Int.not_lt.mpr h.1) (Int.not_lt.mpr h.2)), rejectValue_eq]
      rfl
    have htaken (hbit : b.getLsbD 7 = false) (hlo : c.defn.plausibleMin.toInt ≤ v.toInt)
        (hhi : v.toInt ≤ c.defn.plausibleMax.toInt) :
        t = takeValue i v (setChannel i (c.relocked s.partTime) s) := by
      rw [ht, hbit, if_neg Bool.false_ne_true, if_pos (plausible_iff.mpr ⟨hlo, hhi⟩)]
    have hvalued (hbit : b.getLsbD 7 = false) (hlo : c.defn.plausibleMin.toInt ≤ v.toInt)
        (hhi : v.toInt ≤ c.defn.plausibleMax.toInt) : t.channels.entries =
          s.channels.entries.set i ((c.relocked s.partTime).valued s.channels.gate s.partTime v) ∧
        t = interleave (valueHandings c.defn.role v)
          (setChannel i ((c.relocked s.partTime).valued s.channels.gate s.partTime v) s) := by
      have hrec : (setChannel i (c.relocked s.partTime) s).channel i = c.relocked s.partTime := by
        rw [channel_setChannel, if_pos rfl]
      have heq := (htaken hbit hlo hhi).trans (takeValue_eq (by rw [hrec]; exact hon))
      rw [hrec, setChannel_setChannel] at heq
      refine ⟨?_, heq⟩
      rw [heq]
      exact keeps_interleave (P := HasEntries _) (fun _ => rfl) ((hasEntries_calm _).steady.valueHandings _ _)
    refine ⟨fun j hj => ?_, fun hbit => ?_, fun hbit hout => ?_, fun hbit hlo hhi => ?_⟩
    · by_cases hbit : b.getLsbD 7 = true
      · rw [hfault hbit, honly (channels_latched _ _), if_neg hj]
      · have hclear := Bool.of_not_eq_true hbit
        by_cases hlo : c.defn.plausibleMin.toInt ≤ v.toInt
        · by_cases hhi : v.toInt ≤ c.defn.plausibleMax.toInt
          · rw [channel_of_entries (hvalued hclear hlo hhi).1, if_neg hj]
          · rw [hrange hclear (.inr (Int.not_le.mp hhi)), honly (channels_latched _ _), if_neg hj]
        · rw [hrange hclear (.inl (Int.not_le.mp hlo)), honly (channels_latched _ _), if_neg hj]
    · have heq := hfault hbit
      rw [heq]
      exact ⟨by rw [honly (channels_latched _ _), if_pos rfl], touches_latched _ _, notices_latched _ _⟩
    · have heq := hrange hbit hout
      rw [heq]
      exact ⟨by rw [honly (channels_latched _ _), if_pos rfl], touches_latched _ _, notices_latched _ _⟩
    · obtain ⟨hentries, heq⟩ := hvalued hbit hlo hhi
      exact ⟨by rw [channel_of_entries hentries, if_pos rfl]; rfl, heq⟩

/-! ### A missed SAMPLE (R34, R35) -/

theorem unusableHandings_eq (role : Role) : unusableHandings role = match role with
    | .moisture => [[freezeAxis .moisture]]
    | .feedLoad => [[freezeAxis .feed], [takeKept role none]]
    | .pitch => [[freezeAxis .slope], [takeKept role none]]
    | .roll => [[freezeAxis .side], [takeKept role none]]
    | .tailings => [[takeKept role none]] | .drumSpeed => [[takeKept role none]] | .fanSpeed => [[takeKept role none]]
    | .shoeLoss => [] | .sepLoss => [] | .grainFlow => [] | .none => [] := by
  cases role <;> rfl

theorem exec_channelWindowExpiry (hworks : s.works) (h : s.channelDue i = true) :
    exec (.channelWindowExpiry i) s = .next (channelExpires i s) := by
  have harm : exec (.channelWindowExpiry i) s = execChannelWindowExpiry i s := rfl
  rw [harm, execChannelWindowExpiry, live_of_works hworks, h]
  rfl

/-- The entry as it enters LOST. -/
def Channel.gone (c : Channel) (gate : Bool) : Channel :=
  ⟨c.defn, { c.rt with
    lock := .lost
    window := none
    twoMissedLatch := true
    lastValue := none
    interrupted := c.rt.interrupted || (gate && c.defn.enabled && c.defn.role.isMeasured) }⟩

/-- The handings of an entry that has lost its usable value, if it held one. -/
theorem usable_iff (h : c.rt.lock = .oneMissed) : c.usable = true ↔ c.defn.enabled = true ∧ c.rt.lastValue ≠ none := by
  rw [Channel.usable, h, Bool.and_eq_true, Bool.and_eq_true, ← Option.isSome_iff_ne_none]
  exact ⟨fun hu => ⟨hu.1.1, hu.2⟩, fun hu => ⟨⟨hu.1, rfl⟩, hu.2⟩⟩

theorem enterLost_eq : enterLost i s = interleave
    ([[raiseNotice .channelLost i.val (BitVec.ofNat 16 (s.channel i).defn.role.code)], [judgeLost]] ++
      (if (s.channel i).usable then unusableHandings (s.channel i).defn.role else []))
    (setChannel i ((s.channel i).gone s.channels.gate) s) := by
  have hgone : ({ s.channel i with rt := { (s.channel i).rt with
      lock := .lost
      window := none
      twoMissedLatch := true
      lastValue := none
      interrupted := (s.channel i).rt.interrupted || (s.channels.gate && (s.channel i).defn.measured) } } : Channel) =
      (s.channel i).gone s.channels.gate := by
    unfold Channel.gone ChannelDef.measured
    rw [Bool.and_assoc]
  rw [← hgone]
  rfl

/-- The indicator judged among handings that leave the entries. -/
theorem indicated_interleave {e : Table Channel 24} {before after : List (List Handing)} (h : s.channels.entries = e)
    (hkeep : ∀ P : State → Prop, Calm P → ∀ c ∈ before ++ after, ∀ g ∈ c, ∀ t, P t → P (g t)) :
    Indicated e (interleave (before ++ [[judgeLost]] ++ after) s) := by
  have hrest (P : State → Prop) (hP : Calm P) : ∀ g ∈ before.flatten ++ after.flatten, ∀ t, P t → P (g t) := by
    intro g hg
    rw [← List.flatten_append] at hg
    obtain ⟨c, hc, hgc⟩ := List.mem_flatten.mp hg
    exact hkeep P hP c hc g hgc
  refine interleave_once (P := HasEntries e) (g := judgeLost) (rest := before.flatten ++ after.flatten) ?_ (fun _ => h)
    (hrest _ (hasEntries_calm e)) (fun _ => indicated_judgeLost) (hrest _ (indicated_calm e))
  rw [List.flatten_append, List.flatten_append, List.append_assoc]
  exact List.perm_middle (l₁ := before.flatten)

theorem usableHandings_keep {P : State → Prop} (hP : Calm P) (b : Bool) (r : Role) :
    ∀ c ∈ (if b then unusableHandings r else []), ∀ g ∈ c, ∀ t, P t → P (g t) := by
  cases b with
  | false => exact fun c hc => nomatch hc
  | true => exact hP.steady.unusableHandings r

theorem indicated_enterLost : Indicated (s.channels.entries.set i ((s.channel i).gone s.channels.gate)) (enterLost i s) := by
  rw [enterLost_eq]
  refine indicated_interleave (before := [[raiseNotice .channelLost i.val (BitVec.ofNat 16 (s.channel i).defn.role.code)]])
    rfl fun P hP c hc g hg t ht => ?_
  rcases List.mem_append.mp hc with hc | hc
  · obtain rfl := List.mem_singleton.mp hc
    obtain rfl := List.mem_singleton.mp hg
    exact hP.notice _ _ _ ht
  · exact usableHandings_keep hP _ _ c hc g hg t ht

/-- Settles O28: the two expiries of a tracking window. -/
theorem aMissedSampleIsTracked : Obligations.AMissedSampleIsTracked := by
  refine ⟨unusableHandings_eq, fun i s hworks hdue => ⟨fun hlocked => ?_, fun hmissed => ?_⟩⟩
  · rw [exec_channelWindowExpiry hworks hdue, channelExpires, hlocked]
    rfl
  · have hexec := exec_channelWindowExpiry hworks hdue
    rw [channelExpires, hmissed] at hexec
    obtain ⟨hentries, hjudged⟩ := indicated_enterLost (s := s) (i := i)
    refine ⟨_, hexec, by rw [channel_of_entries hentries, if_pos rfl]; rfl, ?_,
      fun j hj => by rw [channel_of_entries hentries, if_neg hj], hjudged,
      touches_enterLost (by decide) (.refl _ s) i⟩
    rw [enterLost_eq]
    simp only [usable_iff hmissed]
    rfl

end Sys2Proof.Machine
end

section
/-! PROOF. CHANNEL WRITE, CHANNEL RESTART and ERROR RESET (O29). -/

namespace Sys2Proof.Machine

variable {s t : State} {r : Sender} {i j : Fin 24} {f : ChannelFields} {d : ChannelDef} {index : Byte}
  {which : Option Nat} {st o : Setting}

/-! ### The fields of CHANNEL WRITE (R44) -/

theorem Role.ofCode_isSome (n : Nat) : (Role.ofCode n).isSome ↔ n ≤ 10 := by
  unfold Role.ofCode
  split <;> simp_all
  omega

theorem Role.code_of_ofCode {n : Nat} {role : Role} (h : Role.ofCode n = some role) : role.code = n := by
  unfold Role.ofCode at h
  split at h <;> cases h <;> rfl

/-- The BAD_FIELD tests of CHANNEL WRITE, but for the role. -/
def badChannelFields (own : Byte) (f : ChannelFields) : Prop :=
  62 < f.station.toNat ∨ f.station = own ∨ 3 < f.sub.toNat ∨ f.plausibleMax.toInt ≤ f.plausibleMin.toInt ∨
    highBitsClear 3 f.flags = false

/-- The definition the fields give with a role. -/
def channelDefined (f : ChannelFields) (role : Role) : ChannelDef :=
  ⟨f.flags.getLsbD 0, f.station, f.sub.setWidth 2, role, f.gain, f.offset, f.plausibleMin, f.plausibleMax, f.period,
    f.flags.getLsbD 1, f.flags.getLsbD 2⟩

theorem channelOfFields_of_role {own : Byte} {role : Role} (h : Role.ofCode f.role.toNat = some role) [Decidable (badChannelFields own f)] :
    channelOfFields own f = if badChannelFields own f then none else some (channelDefined f role) := by
  unfold channelOfFields
  rw [h]
  dsimp only
  by_cases hbad : badChannelFields own f
  · exact (if_pos hbad).trans (if_pos hbad).symm
  · exact (if_neg hbad).trans (if_neg hbad).symm

theorem channelOfFields_eq_some {own : Byte} : channelOfFields own f = some d ↔
    ∃ role, Role.ofCode f.role.toNat = some role ∧ ¬ badChannelFields own f ∧ channelDefined f role = d := by
  classical
  cases hrole : Role.ofCode f.role.toNat with
  | none =>
    rw [channelOfFields, hrole]
    exact iff_of_false nofun nofun
  | some role => simp [channelOfFields_of_role hrole]

theorem not_badChannelFields_iff {own : Byte} : ¬ badChannelFields own f ↔ f.station.toNat ≤ 62 ∧ f.station ≠ own ∧ f.sub.toNat ≤ 3 ∧
    f.plausibleMin.toInt < f.plausibleMax.toInt ∧ f.flags.toNat < 8 := by
  have hflags : highBitsClear 3 f.flags = true ↔ f.flags.toNat < 8 := highBitsClear_iff 3 f.flags
  simp only [badChannelFields, not_or, Nat.not_lt, Int.not_le, Bool.not_eq_false, hflags]

theorem channelOfFields_isSome (own : Byte) (f : ChannelFields) : (channelOfFields own f).isSome ↔
    f.station.toNat ≤ 62 ∧ f.station ≠ own ∧ f.sub.toNat ≤ 3 ∧ f.role.toNat ≤ 10 ∧
    f.plausibleMin.toInt < f.plausibleMax.toInt ∧ f.flags.toNat < 8 := by
  have hsome : (channelOfFields own f).isSome ↔ (Role.ofCode f.role.toNat).isSome ∧ ¬ badChannelFields own f := by
    simp only [Option.isSome_iff_exists, channelOfFields_eq_some]
    exact ⟨fun ⟨_, role, hrole, hbad, _⟩ => ⟨⟨role, hrole⟩, hbad⟩, fun ⟨⟨role, hrole⟩, hbad⟩ => ⟨_, role, hrole, hbad, rfl⟩⟩
  rw [hsome, Role.ofCode_isSome, not_badChannelFields_iff]
  constructor
  · rintro ⟨hrole, hstation, hown, hsub, hrange, hflags⟩
    exact ⟨hstation, hown, hsub, hrole, hrange, hflags⟩
  · rintro ⟨hstation, hown, hsub, hrole, hrange, hflags⟩
    exact ⟨hrole, hstation, hown, hsub, hrange, hflags⟩

/-! ### CHANNEL WRITE -/

theorem taken_channels (h : s.settled) {c : Instr} : (s.taken c).channels = s.channels := by rw [taken_eq h]; rfl

theorem taken_pins (h : s.settled) {c : Instr} : (s.taken c).pins = s.pins := by rw [taken_eq h]; rfl

theorem taken_channel (h : s.settled) {c : Instr} : (s.taken c).channel i = s.channel i :=
  congrArg (fun u : ChannelUnit => u.entries.get i) (taken_channels h)

theorem taken_ownStation (h : s.settled) {c : Instr} : (s.taken c).ownStation = s.ownStation := by
  rw [State.ownStation, taken_pins h, State.ownStation]

theorem bodyChannelWrite_bad (h : 23 < index.toNat ∨ channelOfFields s.ownStation f = none) :
    bodyChannelWrite r index f s = answer r 2 .badField [] s := by
  unfold bodyChannelWrite
  split
  · rename_i hlt
    rw [h.resolve_left (Nat.not_lt.mpr (Nat.le_of_lt_succ hlt))]
  · rfl

theorem bodyChannelWrite_named (hi : index.toNat = i.val) (hd : channelOfFields s.ownStation f = some d) :
    bodyChannelWrite r index f s =
      refuseOr r 2 (if s.channels.breaksLimit i d then some .conflict else none) (writeChannel i d) s := by
  have hlt : index.toNat < 24 := hi ▸ i.isLt
  obtain rfl : (⟨index.toNat, hlt⟩ : Fin 24) = i := Fin.ext hi
  rw [bodyChannelWrite, dif_pos hlt, hd]

/-- An entry with a fresh runtime record (R45, R47). -/
def ChannelDef.fresh (d : ChannelDef) (gate : Bool) : Channel :=
  ⟨d, ⟨.search, none, false, false, false, false, 0#8, none, none, 0#32, 0#16, gate && d.enabled && d.role.isMeasured⟩⟩

theorem ChannelDef.fresh_eq (d : ChannelDef) (gate : Bool) : (⟨d, freshRuntime (gate && d.measured)⟩ : Channel) = d.fresh gate := by
  rw [ChannelDef.fresh, ChannelDef.measured, Bool.and_assoc]
  rfl

/-- What the settled table of a write or a restart is, and the arbiter's part in it. -/
theorem indicated_settled {chains : List (List Handing)} {e : Table Channel 24} (h : s.channels.entries = e)
    (hkeep : ∀ P : State → Prop, Calm P → ∀ c ∈ chains, ∀ g ∈ c, ∀ t, P t → P (g t)) :
    Indicated e (settleWaiting (interleave ([[judgeLost]] ++ chains) s)) :=
  (indicated_calm e).steady.settleWaiting (indicated_interleave (before := []) h hkeep)

theorem writeChannel_eq (i : Fin 24) (d : ChannelDef) (s : State) : writeChannel i d s =
    settleWaiting (interleave ([[judgeLost]] ++
        (if (s.channel i).usable then unusableHandings (s.channel i).defn.role else []))
      (setChannel i (d.fresh s.channels.gate) s)) := by
  rw [← ChannelDef.fresh_eq]
  rfl

theorem indicated_writeChannel (i : Fin 24) (d : ChannelDef) (s : State) :
    Indicated (s.channels.entries.set i (d.fresh s.channels.gate)) (writeChannel i d s) := by
  rw [writeChannel_eq]
  exact indicated_settled rfl fun P hP => usableHandings_keep hP _ _

/-- The blocks of a request that leads to examinations. -/
theorem touches_taken_after (h : s.settled) {c : Instr} {L : List Block} {g : State → State}
    (hg : OnlyTouches L (s.taken c) (g (s.taken c))) (hL : L ⊆ .classifier :: .mgmt :: touchGuards) :
    OnlyTouches (.classifier :: .mgmt :: touchGuards) s (g (s.taken c)) :=
  ((touches_taken h).mono (by decide)).trans (hg.mono hL)

theorem channelWrite_takes (h : s.admits r .modifying inSetup) (hd : channelOfFields s.ownStation f = some d)
    (hfree : s.channels.breaksLimit i d = false) :
    exec (.channelWrite r (BitVec.ofNat 8 i.val) f) s =
      .next (answer r 2 .done [] (writeChannel i d (s.taken (.channelWrite r (BitVec.ofNat 8 i.val) f)))) := by
  have hi : (BitVec.ofNat 8 i.val).toNat = i.val := by
    rw [BitVec.toNat_ofNat]
    exact Nat.mod_eq_of_lt (Nat.lt_trans i.isLt (by decide))
  rw [show exec (.channelWrite r (BitVec.ofNat 8 i.val) f) s = _ from live_serve_of_admits h,
    bodyChannelWrite_named hi ((congrArg (channelOfFields · f) (taken_ownStation h.settled)).trans hd),
    taken_channels h.settled, hfree]
  rfl

/-! ### CHANNEL RESTART (R47) -/

/-- The entry is named by CHANNEL RESTART. -/
abbrev namedBy (index : Byte) (k : Nat) : Prop := index = 255#8 ∨ index.toNat = k

theorem namedBy_iff (index : Byte) (k : Nat) : (if index = 255#8 then none else some index.toNat) = none ∨
    (if index = 255#8 then none else some index.toNat) = some k ↔ namedBy index k := by
  unfold namedBy
  by_cases h : index = 255#8
  · simp [h]
  · simp [h]

theorem channel_restart (which : Option Nat) (j : Fin 24) (s : State) :
    (s.withChannels (s.channels.restart which)).channel j =
      if which = none ∨ which = some j.val then (s.channel j).defn.fresh s.channels.gate else s.channel j := by
  refine (Table.get_imap _ _ j).trans ?_
  split
  · exact ChannelDef.fresh_eq _ _
  · rfl

/-- The named entries that held a usable value. -/
def State.restarted (s : State) (which : Option Nat) : List (Fin 24) :=
  allEntries.filter (fun i => (s.channel i).usable && decide (which = none ∨ which = some i.val))

theorem mem_restarted : j ∈ s.restarted which ↔ (which = none ∨ which = some j.val) ∧ (s.channel j).usable = true := by
  simp only [State.restarted, List.mem_filter, mem_allEntries, true_and, Bool.and_eq_true, decide_eq_true_iff]
  exact And.comm

theorem restarted_pairwise : (s.restarted which).Pairwise (· < ·) :=
  List.Pairwise.filter _ (by decide)

theorem restartChannels_eq (which : Option Nat) (s : State) : restartChannels which s =
    settleWaiting (interleave
      ([[judgeLost]] ++ ((s.restarted which).map (fun j => unusableHandings (s.channel j).defn.role)).flatten)
      (s.withChannels (s.channels.restart which))) := rfl

theorem indicated_restartChannels (which : Option Nat) (s : State) :
    Indicated (s.channels.restart which).entries (restartChannels which s) := by
  rw [restartChannels_eq]
  refine indicated_settled rfl fun P hP c hc g hg t ht => ?_
  obtain ⟨l, hl, hcl⟩ := List.mem_flatten.mp hc
  obtain ⟨k, -, rfl⟩ := List.mem_map.mp hl
  exact hP.steady.unusableHandings _ c hcl g hg t ht

theorem channelRestart_takes (h : s.admits r .modifying anyState) (hindex : index.toNat ≤ 23 ∨ index = 255#8) :
    exec (.channelRestart r index) s = .next (answer r 4 .done []
      (restartChannels (if index = 255#8 then none else some index.toNat) (s.taken (.channelRestart r index)))) := by
  have hgood : (decide (23 < index.toNat) && decide (index ≠ 255#8)) = false := by
    simp only [Bool.and_eq_false_iff, decide_eq_false_iff_not, Nat.not_lt, Decidable.not_not, ne_eq]
    exact hindex
  rw [show exec (.channelRestart r index) s = _ from live_serve_of_admits h, hgood, badWhen_false, refuseOr_none]

/-! ### ERROR RESET: the counters (R23) -/

/-- The five link counters of the port are zero. -/
structure PortState.Cleared (x : PortState) : Prop where
  good : x.good = 0#16
  checkErrors : x.checkErrors = 0#16
  filtered : x.filtered = 0#16
  forwardDrops : x.forwardDrops = 0#16
  collisionDrops : x.collisionDrops = 0#16

theorem PortState.cleared_joinPart {x : PortState} (h : x.Cleared) (f : Frame) : (x.joinPart f).Cleared := by
  obtain ⟨hgood, herrors, hfiltered, hforward, hcollision⟩ := h
  unfold PortState.joinPart
  repeat' split
  all_goals exact ⟨hgood, herrors, hfiltered, hforward, hcollision⟩

/-- Every link counter is zero, and the stations are known on these sides. -/
structure LinkCleared (side : Table Side 63) (s : State) : Prop where
  ports : ∀ p, (s.port p).Cleared
  side : s.link.side = side

theorem linkCleared_of_link {side : Table Side 63} (h : t.link = s.link) (hs : LinkCleared side s) : LinkCleared side t :=
  ⟨fun p => by rw [State.port, h]; exact hs.ports p, by rw [h]; exact hs.side⟩

theorem linkCleared_queuePart {side : Table Side 63} (h : LinkCleared side s) (f : Frame) : LinkCleared side (queuePart f s) := by
  refine ⟨fun p => ?_, h.side⟩
  change PortState.Cleared ((s.link.ports.set _ _).get p)
  rw [PerPort.get_set]
  split
  · exact PortState.cleared_joinPart (h.ports _) f
  · exact h.ports p

theorem linkCleared_raiseNotice {side : Table Side 63} {kind : NoticeKind} {subject : Nat} {detail : Word16}
    (h : LinkCleared side s) : LinkCleared side (raiseNotice kind subject detail s) := by
  have hsend {u : State} (hu : LinkCleared side u) : LinkCleared side (sendAttention u) := by
    unfold sendAttention
    split
    · exact linkCleared_queuePart hu _
    · exact hu
  cases henabled : s.mgmt.params.classEnables.testBit kind.classBit with
  | false => rwa [raiseNotice_of_disabled henabled]
  | true =>
    by_cases hfull : s.notices.held = 31
    · rw [raiseNotice_of_full henabled hfull]
      exact linkCleared_of_link (s := s) rfl h
    · have hjoined : LinkCleared side (s.joined kind subject detail) := linkCleared_of_link (s := s) rfl h
      rw [raiseNotice_of_room henabled hfull]
      split
      · exact hsend hjoined
      · exact hjoined

theorem linkCleared_giveGoal {side : Table Side 63} {g : Goal} (h : LinkCleared side s) : LinkCleared side (giveGoal st g s) := by
  have hset {m : MoveRecord} {u : State} (hu : LinkCleared side u) : LinkCleared side (setRecord st m u) :=
    linkCleared_of_link (s := u) rfl hu
  by_cases hkept : s.goalKept st = true
  · rw [giveGoal_of_kept hkept]
    exact hset h
  · by_cases hheld : g.source = .regulator ∧ s.groupHeld st = true
    · rw [giveGoal_of_held hkept hheld]
      exact hset h
    · rw [giveGoal_of_free hkept hheld, issueSet_storeGoal]
      unfold queueSet
      split
      · exact linkCleared_queuePart (hset h) _
      · exact hset h

/-! ### ERROR RESET: the records (R106) -/

/-- No record is in FAULT, and the counters of the move unit are zero. -/
structure MovesCleared (s : State) : Prop where
  fine : ∀ o, (s.record o).state ≠ .fault
  stale : ∀ o, s.moves.stale.get o = 0#16
  unmatched : s.moves.unmatched = 0#16

theorem movesCleared_of_moves (h : t.moves = s.moves) (hs : MovesCleared s) : MovesCleared t :=
  ⟨fun o => by rw [State.record, h]; exact hs.fine o, fun o => by rw [h]; exact hs.stale o, by rw [h]; exact hs.unmatched⟩

theorem movesCleared_giveGoal {g : Goal} (h : MovesCleared s) : MovesCleared (giveGoal st g s) := by
  refine ⟨fun o => ?_, by rw [giveGoal_moves]; exact h.stale, by rw [giveGoal_moves]; exact h.unmatched⟩
  by_cases ho : o = st
  · obtain rfl := ho
    rcases giveGoal_record_cases o g s with heq | heq | heq <;> rw [heq]
    · exact h.fine o
    · exact h.fine o
    · exact (by decide : MoveState.issued ≠ .fault)
  · rw [giveGoal_other st o g s ho]
    exact h.fine o

/-- What ERROR RESET leaves: no counter, no fault, and the entries without their latches. -/
structure Reset (side : Table Side 63) (e : Table Channel 24) (s : State) : Prop where
  link : LinkCleared side s
  moves : MovesCleared s
  entries : HasEntries e s
  known : s.moves.driveFault = false

theorem reset_of_same {side : Table Side 63} {e : Table Channel 24} (hl : t.link = s.link) (hm : t.moves = s.moves)
    (hc : t.channels.entries = s.channels.entries) (h : Reset side e s) : Reset side e t :=
  ⟨linkCleared_of_link hl h.link, movesCleared_of_moves hm h.moves, hc.trans h.entries, by rw [hm]; exact h.known⟩

theorem reset_calm (side : Table Side 63) (e : Table Channel 24) : Calm (Reset side e) where
  touches h := reset_of_same (h.link (by decide)) (h.moves (by decide)) (by rw [h.channels (by decide)])
  regulator _ {_} _ := reset_of_same rfl rfl rfl
  closeGate := reset_of_same rfl rfl rfl
  safeOut _ _ := reset_of_same rfl rfl rfl
  publish := reset_of_same rfl rfl rfl
  notice kind n x {s} h := by
    have hsame := touches_raiseNotice (T := touchNotices) (by decide) (.refl _ s) kind n x
    exact ⟨linkCleared_raiseNotice h.link, movesCleared_of_moves (hsame.moves (by decide)) h.moves,
      (hasEntries_calm e).notice kind n x h.entries, by rw [hsame.moves (by decide)]; exact h.known⟩
  goal o g {s} h := ⟨linkCleared_giveGoal h.link, movesCleared_giveGoal h.moves, (hasEntries_calm e).goal o g h.entries,
    by rw [giveGoal_moves]; exact h.known⟩

theorem anyFault_of_movesCleared (h : MovesCleared s) : s.anyFault = false := by
  rw [State.anyFault, List.any_eq_false]
  exact fun o _ => by rw [decide_eq_true_iff]; exact h.fine o

/-- The judgement of DRIVE_FAULT finds no record in FAULT. -/
theorem reset_judgeDriveFault {side : Table Side 63} {e : Table Channel 24} (hl : LinkCleared side s) (hm : MovesCleared s)
    (he : HasEntries e s) : Reset side e (judgeDriveFault s) := by
  have hany := anyFault_of_movesCleared hm
  unfold judgeDriveFault
  rw [hany]
  split
  · exact ⟨hl, hm, he, (by assumption : false = s.moves.driveFault).symm⟩
  · have hknown : Reset side e (s.withMoves { s.moves with driveFault := false }) :=
      ⟨linkCleared_of_link (s := s) rfl hl, ⟨hm.fine, hm.stale, hm.unmatched⟩, he, rfl⟩
    exact (reset_calm side e).steady.setCondition _ _ hknown

theorem reset_giveAgain {side : Table Side 63} {e : Table Channel 24} (h : Reset side e s) : Reset side e (giveAgain st s) := by
  unfold giveAgain
  split
  · exact (reset_calm side e).goal _ _ h
  · exact h

/-! ### ERROR RESET -/

/-- The state before DRIVE_FAULT is judged: latches, counters, lost notices and faults cleared. -/
def State.errorsCleared (s : State) : State :=
  ((updPort .m PortState.clearCounters (updPort .s PortState.clearCounters
    (s.withChannels s.channels.clearLatches))).withNotices { s.notices with lost := 0#16 }).withMoves s.moves.repair

theorem resetErrors_eq (s : State) : resetErrors s =
    (Setting.all.filter (fun st => decide ((s.record st).state = .fault))).foldl (fun t st => giveAgain st t)
      (judgeDriveFault s.errorsCleared) := rfl

theorem errorsCleared_port (s : State) (p : Port) : s.errorsCleared.port p = (s.port p).clearCounters := by
  cases p <;> rfl

theorem errorsCleared_record (s : State) (st : Setting) : s.errorsCleared.record st =
    if (s.record st).state = .fault then (s.record st).repaired else s.record st := PerSetting.get_tabulate _ st

theorem errorsCleared_stale (s : State) (st : Setting) : s.errorsCleared.moves.stale.get st = 0#16 := PerSetting.get_fill _ st

theorem touches_errorsCleared (s : State) : OnlyTouches [.channels, .link, .moves, .notices] s s.errorsCleared :=
  touches_withMoves (by decide) (touches_withNotices (by decide) (touches_updPort (by decide)
    (touches_updPort (by decide) (touches_withChannels (by decide) (.refl _ s) _) _ _) _ _) _) _

theorem reset_resetErrors (s : State) : Reset s.link.side s.channels.clearLatches.entries (resetErrors s) := by
  have hlink : LinkCleared s.link.side s.errorsCleared :=
    ⟨fun p => by rw [errorsCleared_port]; exact ⟨rfl, rfl, rfl, rfl, rfl⟩, rfl⟩
  have hmoves : MovesCleared s.errorsCleared := by
    refine ⟨fun o => ?_, errorsCleared_stale s, rfl⟩
    rw [errorsCleared_record]
    split
    · exact (by decide : MoveState.idle ≠ .fault)
    · assumption
  rw [resetErrors_eq]
  exact keeps_foldl _ (reset_judgeDriveFault hlink hmoves rfl) fun st t ht => reset_giveAgain ht

theorem touches_resetErrors (s : State) : OnlyTouches touchGuards s (resetErrors s) := by
  have hbase := (touches_errorsCleared s).mono (show _ ⊆ touchGuards by decide)
  rw [resetErrors_eq]
  exact keeps_foldl (P := OnlyTouches touchGuards s) _ (touches_judgeDriveFault (List.Subset.refl _) hbase)
    fun st t ht => touches_giveAgain (by decide) ht st

/-- Without a fault there is nothing to judge and no goal to give again. -/
theorem resetErrors_fine (hfine : s.anyFault = false) (hknown : s.moves.driveFault = false) :
    resetErrors s = s.errorsCleared := by
  have hfine' (st : Setting) : (s.record st).state ≠ .fault := by
    intro h
    rw [State.anyFault, List.any_eq_false] at hfine
    exact hfine st (Setting.mem_all st) (decide_eq_true h)
  have hnone : s.errorsCleared.anyFault = false := by
    rw [State.anyFault, List.any_eq_false]
    intro o _
    rw [errorsCleared_record, if_neg (hfine' o), decide_eq_true_iff]
    exact hfine' o
  have hempty : Setting.all.filter (fun st => decide ((s.record st).state = .fault)) = [] := by
    rw [List.filter_eq_nil_iff]
    exact fun st _ => by rw [decide_eq_true_iff]; exact hfine' st
  rw [resetErrors_eq, hempty]
  exact if_pos (hnone.trans hknown.symm)

theorem PerSetting.ext_get {α : Type} {p q : PerSetting α} (h : ∀ st, p.get st = q.get st) : p = q := by
  obtain ⟨_, _, _, _, _⟩ := p
  obtain ⟨_, _, _, _, _⟩ := q
  congr
  · exact h .drum
  · exact h .concave
  · exact h .upper
  · exact h .lower
  · exact h .fan

theorem errorsCleared_records_fine (hfine : s.anyFault = false) : s.errorsCleared.moves.records = s.moves.records := by
  rw [State.anyFault, List.any_eq_false] at hfine
  refine PerSetting.ext_get fun st => (errorsCleared_record s st).trans (if_neg fun h => ?_)
  exact hfine st (Setting.mem_all st) (decide_eq_true h)

theorem errorReset_takes (h : s.admits r .modifying anyState) :
    exec (.errorReset r) s = .next (answer r 3 .done [] (resetErrors (s.taken (.errorReset r)))) :=
  live_serve_of_admits h

/-- Settles O29: what each of the three requests does is a state of its own, and the judgements that follow leave it. -/
theorem channelRequestsTakeEffect : Obligations.ChannelRequestsTakeEffect := by
  refine ⟨channelOfFields_isSome, fun r index f s h => ⟨fun hbad => ?_, fun i d hi hd hfull => ?_⟩, fun r index s h hlarge hall => ?_,
    fun r i f d s h hd hfree => ?_, fun r index s h hindex => ?_, fun r s h => ?_⟩
  · exact exec_refuses rfl h (bodyChannelWrite_bad (by rwa [taken_ownStation h.settled]))
  · refine exec_refuses rfl h ?_
    rw [bodyChannelWrite_named hi ((congrArg (channelOfFields · f) (taken_ownStation h.settled)).trans hd),
      taken_channels h.settled, hfull]
    rfl
  · refine exec_refuses rfl h ?_
    rw [decide_eq_true hlarge, decide_eq_true hall]
    rfl
  · obtain ⟨role, hrole, -, rfl⟩ := channelOfFields_eq_some.mp hd
    obtain ⟨hentries, hjudged⟩ := indicated_writeChannel i (channelDefined f role) (s.taken (.channelWrite r (BitVec.ofNat 8 i.val) f))
    have hsub : (f.sub.setWidth 2).toNat = f.sub.toNat := by
      have := ((channelOfFields_isSome s.ownStation f).mp (by rw [hd]; rfl)).2.2.1
      rw [BitVec.toNat_setWidth]
      omega
    have htouch := touches_writeChannel (List.Subset.refl _) (.refl _ (s.taken (.channelWrite r (BitVec.ofNat 8 i.val) f)))
      i (channelDefined f role)
    rw [taken_channels h.settled] at hentries
    have hset : (writeChannel i (channelDefined f role) (s.taken (.channelWrite r (BitVec.ofNat 8 i.val) f))).channel i =
        (channelDefined f role).fresh s.channels.gate := by rw [channel_of_entries hentries, if_pos rfl]
    refine ⟨_, channelWrite_takes h hd hfree, rfl, rfl, rfl, rfl, hsub, Role.code_of_ofCode hrole, rfl, rfl, rfl, rfl, rfl,
      hset, fun j hj => by rw [channel_of_entries hentries, if_neg hj], hjudged, htouch.mgmt (by decide), ?_,
      touches_taken_after (g := writeChannel i (channelDefined f role)) h.settled htouch (by decide)⟩
    rw [hset, writeChannel_eq, taken_channel h.settled, taken_channels h.settled, setChannel, taken_channels h.settled]
  · have hexec := channelRestart_takes h hindex
    obtain ⟨hentries, hjudged⟩ := indicated_restartChannels (if index = 255#8 then none else some index.toNat)
      (s.taken (.channelRestart r index))
    have htouch := touches_restartChannels (List.Subset.refl _) (.refl _ (s.taken (.channelRestart r index)))
      (if index = 255#8 then none else some index.toNat)
    have hchannel (j : Fin 24) : (restartChannels (if index = 255#8 then none else some index.toNat)
        (s.taken (.channelRestart r index))).channel j =
        if namedBy index j.val then (s.channel j).defn.fresh s.channels.gate else s.channel j := by
      rw [State.channel, hentries]
      have hrestart := channel_restart (if index = 255#8 then none else some index.toNat) j (s.taken (.channelRestart r index))
      simp only [namedBy_iff, taken_channel h.settled, taken_channels h.settled] at hrestart
      rw [taken_channels h.settled]
      exact hrestart
    refine ⟨_, hexec, fun j hj => by rw [hchannel]; exact if_pos hj, fun j hj => by rw [hchannel]; exact if_neg hj, hjudged,
      htouch.mgmt (by decide), ?_, touches_taken_after (g := restartChannels _) h.settled htouch (by decide)⟩
    refine ⟨(s.taken (.channelRestart r index)).restarted (if index = 255#8 then none else some index.toNat),
      restarted_pairwise, fun j => ?_, ?_⟩
    · rw [mem_restarted, namedBy_iff, taken_channel h.settled]
    · rw [hentries, restartChannels_eq]
      simp only [taken_channel h.settled, taken_channels h.settled]
      rfl
  · have hexec := errorReset_takes h
    obtain ⟨m, hm⟩ : ∃ m, s.taken (.errorReset r) = s.withMgmt m := ⟨_, taken_eq h.settled⟩
    rw [hm] at hexec ⊢
    have hreset := reset_resetErrors (s.withMgmt m)
    have htouch := touches_resetErrors (s.withMgmt m)
    have hbase : OnlyTouches [.channels, .link, .moves, .notices, .mgmt] s (s.withMgmt m).errorsCleared :=
      (touches_withMgmt (by decide) (.refl _ s) m).trans ((touches_errorsCleared _).mono (by decide))
    have hentries : (resetErrors (s.withMgmt m)).channels.entries = s.channels.clearLatches.entries := hreset.entries
    refine ⟨_, hexec, fun j => ?_, fun p => ?_, fun o => ⟨hreset.moves.fine o, hreset.moves.stale o⟩, hreset.moves.unmatched,
      hreset.known, ?_, fun hfine hknown => ?_, hreset.link.side, htouch.mgmt (by decide),
      (touches_withMgmt (by decide) (.refl _ s) m).trans (htouch.mono (by decide))⟩
    · rw [State.channel, hentries]
      exact Table.get_map _ _ j
    · obtain ⟨hgood, herrors, hfiltered, hforward, hcollision⟩ := hreset.link.ports p
      exact ⟨hgood, herrors, hfiltered, hforward, hcollision⟩
    · refine ⟨(s.withMgmt m).errorsCleared, hbase, by rw [hentries]; rfl, rfl, (htouch.mgmt (by decide)).symm, rfl,
        errorsCleared_port _, rfl, fun o => ⟨errorsCleared_stale _ o, errorsCleared_record _ o⟩, ?_⟩
      rw [resetErrors_eq]
      refine congrArg (fun g => List.foldl g _ _) (funext fun t => funext fun o => ?_)
      unfold giveAgain
      cases (t.record o).goal <;> rfl
    · rw [resetErrors_fine (s := s.withMgmt m) hfine hknown]
      exact ⟨rfl, errorsCleared_records_fine (s := s.withMgmt m) hfine⟩

end Sys2Proof.Machine
end

section
/-! PROOF. Classes are adopted, by the dwell's expiry and by AXIS WRITE (O31). -/

namespace Sys2Proof.Machine

variable {s t : State} {r : Sender} {a : Axis} {axis band : Byte} {h v : Word16} {ts extra : List Word16} {x : AxisState}
  {d : AxisDef}

/-! ### An adoption handed on (R61, R63) -/

theorem handAdoption_classifier : (handAdoption s).classifier = s.classifier :=
  (touches_handAdoption (T := touchCycle) (List.Subset.refl _) (.refl _ s)).classifier (by decide)

theorem exec_dwellExpiry (hworks : s.works) (hdue : s.dwellDue = true) : exec .dwellExpiry s = .next (adoptCandidate s) := by
  have harm : exec .dwellExpiry s = execDwellExpiry s := rfl
  rw [harm, execDwellExpiry, live_of_works hworks, hdue]
  rfl

theorem adoptCandidate_classifier : (adoptCandidate s).classifier =
    { s.classifier with adopted := s.classifier.candidate, adoptedAt := s.partTime, dwell := none } := handAdoption_classifier

/-! ### The tests of AXIS WRITE (R52) -/

theorem axisFieldsBad_eq_true (hbad : 1000 < h.toNat ∨ a.highest < band.toNat ∨ strictlyAscending ts = false) :
    axisFieldsBad a h band ts = true := by
  simp only [axisFieldsBad, Bool.or_eq_true, decide_eq_true_iff, Bool.not_eq_true', or_assoc]
  exact hbad

theorem axisFieldsBad_eq_false (hh : h.toNat ≤ 1000) (hb : band.toNat ≤ a.highest) (hts : strictlyAscending ts = true) :
    axisFieldsBad a h band ts = false := by
  simp only [axisFieldsBad, Bool.or_eq_false_iff, decide_eq_false_iff_not, Nat.not_lt, Bool.not_eq_false']
  exact ⟨⟨hh, hb⟩, hts⟩

theorem bodyAxisWrite_beyond (haxis : Axis.ofNum axis.toNat = none) :
    bodyAxisWrite r axis h band ts s = answer r 5 .badField [] s := by
  rw [bodyAxisWrite, haxis]

theorem bodyAxisWrite_named (haxis : Axis.ofNum axis.toNat = some a) : bodyAxisWrite r axis h band ts s =
    refuseOr r 5 (badWhen (axisFieldsBad a h band ts)) (writeAxis a ⟨ts, h, band.toNat⟩) s := by
  rw [bodyAxisWrite, haxis]

/-- An admitted request with too few fields is UNKNOWN (R181 test 2). -/
theorem refuses_unknown {c : Instr} {code : Nat} {mode : RequestMode} {column : PartState → Bool}
    (hexec : exec c s = live (serveUnknown c r code) s) (hadmits : s.admits r mode column) : s.refuses c r code .unknown := by
  rw [State.refuses, hexec, live_of_works hadmits.works, serveUnknown_eq, hadmits.1.2]
  rfl

/-- AXIS WRITE with the fields its axis asks for, that pass its tests. -/
theorem axisWrite_takes (hadmits : s.admits r .modifying inSetup) (haxis : Axis.ofNum axis.toNat = some a)
    (hlength : ts.length = a.highest) (hh : h.toNat ≤ 1000) (hb : band.toNat ≤ a.highest) (hts : strictlyAscending ts = true) :
    exec (.axisWrite r axis h band (ts ++ extra)) s =
      .next (answer r 5 .done [] (writeAxis a ⟨ts, h, band.toNat⟩ (s.taken (.axisWrite r axis h band (ts ++ extra))))) := by
  have hwords : wordsAsked (axisWords axis) (ts ++ extra) = some ts := by
    rw [axisWords_of_some haxis, ← hlength]
    exact wordsAsked_append
  rw [exec_axisWrite_of_some hwords, live_serve_of_admits hadmits, bodyAxisWrite_named haxis,
    axisFieldsBad_eq_false hh hb hts, badWhen_false, refuseOr_none]

/-! ### The definition put in place (R53, R59) -/

theorem withClassifier_self (s : State) : s.withClassifier s.classifier = s := rfl

theorem PerAxis.set_eq_self {α : Type} {p : PerAxis α} {y : α} : p.set a y = p ↔ p.get a = y := by
  constructor
  · intro hset
    rw [← hset, PerAxis.get_set, if_pos rfl]
  · rintro rfl
    exact PerAxis.set_get p a

/-- The dwell acts if the candidate class has changed from that of another classifier. -/
def Classifier.acted (c old : Classifier) (now : Word32) (length : Nat) : Classifier :=
  if c.candidate = old.candidate then c
  else { c with dwell := if c.candidate = c.adopted then none else some ⟨now, length⟩ }

theorem changeAxis_acted : changeAxis a x s =
    s.withClassifier ((s.classifier.withAxis a x).acted s.classifier s.partTime (10 * s.mgmt.params.item 29)) := by
  rw [Nat.mul_comm]
  rfl

theorem writeAxis_valued (hfrozen : (s.classifier.axes.get a).frozen = false)
    (hvalue : (s.classifier.axes.get a).value = some v) : writeAxis a d s =
      changeAxis a ⟨d, false, some v, plainBand d.thresholds v.toInt⟩ s := by
  have hrecord : ({ s.classifier.axes.get a with defn := d, candidate := plainBand d.thresholds v.toInt } : AxisState) =
      ⟨d, false, some v, plainBand d.thresholds v.toInt⟩ := by
    dsimp only
    rw [hfrozen, hvalue]
  rw [writeAxis, hfrozen, hvalue]
  exact congrArg (changeAxis a · s) hrecord

/-- The classifier after a frozen axis is written. -/
def Classifier.rewritten (c : Classifier) (a : Axis) (d : AxisDef) (now : Word32) : Classifier :=
  { c with
    axes := c.axes.set a ⟨d, true, (c.axes.get a).value, d.defaultBand⟩
    adopted := c.adopted.set a d.defaultBand
    adoptedAt := if c.adopted.get a = d.defaultBand then c.adoptedAt else now }

/-- A frozen axis written, the adoption handed on if there is one. -/
def State.axisRewritten (s : State) (a : Axis) (d : AxisDef) : State :=
  if s.classifier.adopted.get a = d.defaultBand then s.withClassifier (s.classifier.rewritten a d s.partTime)
  else handAdoption (s.withClassifier (s.classifier.rewritten a d s.partTime))

theorem axisRewritten_classifier : (s.axisRewritten a d).classifier = s.classifier.rewritten a d s.partTime := by
  unfold State.axisRewritten
  split
  · rfl
  · exact handAdoption_classifier

theorem rewriteFrozenAxis_eq (hfrozen : (s.classifier.axes.get a).frozen = true) : rewriteFrozenAxis a d s =
    (s.axisRewritten a d).withClassifier
      ((s.classifier.rewritten a d s.partTime).acted s.classifier s.partTime (10 * s.mgmt.params.item 29)) := by
  have hrecord : ({ s.classifier.axes.get a with defn := d, candidate := d.defaultBand } : AxisState) =
      ⟨d, true, (s.classifier.axes.get a).value, d.defaultBand⟩ := by rw [← hfrozen]
  have hfirst : (if s.classifier.adopted.set a d.defaultBand = s.classifier.adopted then
      s.withClassifier (s.classifier.withAxis a ⟨d, true, (s.classifier.axes.get a).value, d.defaultBand⟩)
      else handAdoption (s.withClassifier { s.classifier.withAxis a ⟨d, true, (s.classifier.axes.get a).value, d.defaultBand⟩ with
        adopted := s.classifier.adopted.set a d.defaultBand, adoptedAt := s.partTime })) = s.axisRewritten a d := by
    unfold State.axisRewritten Classifier.rewritten
    by_cases hsame : s.classifier.adopted.get a = d.defaultBand
    · rw [if_pos (PerAxis.set_eq_self.mpr hsame), if_pos hsame, if_pos hsame, PerAxis.set_eq_self.mpr hsame]
      rfl
    · rw [if_neg ((not_congr PerAxis.set_eq_self).mpr hsame), if_neg hsame, if_neg hsame]
      rfl
  unfold rewriteFrozenAxis
  dsimp only
  rw [hrecord, hfirst, Nat.mul_comm, Classifier.acted]
  have hcandidate : (s.classifier.withAxis a ⟨d, true, (s.classifier.axes.get a).value, d.defaultBand⟩).candidate =
      (s.classifier.rewritten a d s.partTime).candidate := rfl
  rw [hcandidate]
  split
  · rw [← axisRewritten_classifier, withClassifier_self]
  · rw [axisRewritten_classifier]
    rfl

theorem writeAxis_frozen (hfrozen : (s.classifier.axes.get a).frozen = true) : writeAxis a d s = rewriteFrozenAxis a d s := by
  rw [writeAxis, hfrozen]

/-- Taking a request changes the management record alone, and not its parameters. -/
theorem taken_withMgmt (h : s.settled) {c : Instr} : ∃ m, s.taken c = s.withMgmt m ∧ m.params = s.mgmt.params :=
  ⟨_, taken_eq h, rfl⟩

/-- Settles O31: the two ways a class is adopted, and what AXIS WRITE rules out. -/
theorem classesAreAdopted : Obligations.ClassesAreAdopted := by
  refine ⟨fun s hworks hdue => ?_, fun r axis h db ts s hadmits => ⟨fun hbeyond => ?_, fun a haxis => ⟨fun hlength hbad => ?_,
    fun hfew => ?_⟩⟩, fun r axis a h db ts extra s hadmits haxis hlength hh hdb hts => ⟨fun v hfrozen hvalue => ?_, fun hfrozen => ?_⟩⟩
  · exact ⟨_, exec_dwellExpiry hworks hdue, adoptCandidate_classifier, rfl, rfl⟩
  · have hnone := axis_ofNum_isNone hbeyond
    have hwords : wordsAsked (axisWords axis) ts = some (ts.take 0) := by
      rw [axisWords_of_none hnone]
      exact wordsAsked_of_le (Nat.zero_le _)
    exact exec_refuses (exec_axisWrite_of_some hwords s) hadmits (bodyAxisWrite_beyond hnone)
  · have hwords : wordsAsked (axisWords axis) ts = some (ts.take a.highest) := by
      rw [axisWords_of_some haxis]
      exact wordsAsked_of_le hlength
    refine exec_refuses (exec_axisWrite_of_some hwords s) hadmits ?_
    rw [bodyAxisWrite_named haxis, axisFieldsBad_eq_true hbad, badWhen_true, refuseOr_some]
  · refine refuses_unknown (exec_axisWrite_of_none ?_ s) hadmits
    rw [axisWords_of_some haxis]
    exact wordsAsked_of_lt hfew
  · have hexec := axisWrite_takes (extra := extra) hadmits haxis hlength hh hdb hts
    obtain ⟨m, hm, hp⟩ := taken_withMgmt hadmits.settled (c := .axisWrite r axis h db (ts ++ extra))
    rw [hm] at hexec ⊢
    rw [hexec, writeAxis_valued (s := s.withMgmt m) hfrozen hvalue, changeAxis_acted, ← hp]
    rfl
  · have hexec := axisWrite_takes (extra := extra) hadmits haxis hlength hh hdb hts
    obtain ⟨m, hm, hp⟩ := taken_withMgmt hadmits.settled (c := .axisWrite r axis h db (ts ++ extra))
    rw [hm, writeAxis_frozen (s := s.withMgmt m) hfrozen, rewriteFrozenAxis_eq (s := s.withMgmt m) hfrozen] at hexec
    rw [hm, ← hp]
    exact ⟨_, hexec, rfl, rfl⟩

end Sys2Proof.Machine
end

section
/-! PROOF. Guards follow their conditions (O45). -/

namespace Sys2Proof.Machine

variable {s : State} {n : Fin 12} {w : Rotor} {v : Option Word16} {g : Guard} {now : Word32} {active : Bool}

/-! ### What the arbiter keeps of the channel values (R148) -/

theorem kept_judgeAction : (judgeAction s).guards.kept = s.guards.kept := by
  unfold judgeAction
  dsimp only
  split
  · rfl
  · refine keeps_pair (P := fun t => t.guards.kept = s.guards.kept) (fun _ => rfl) (fun t ht => ?_) (fun t ht => ht)
    rw [(touches_takeAction (T := touchCycle) (List.Subset.refl _) (.refl _ t) _).guards (by decide)]
    exact ht

theorem kept_settleGuards : (settleGuards s).guards.kept = s.guards.kept := by
  unfold settleGuards examineGuards
  rw [kept_judgeAction]
  split
  · rw [actGuard, guards_raiseNotice]
    rfl
  · rfl

theorem kept_settleRaised {due : ExamineDue} : (settleRaised due n s).guards.kept = s.guards.kept := by
  rcases settleRaised_spec due n s with h | h | ⟨-, -, h⟩ <;> rw [h]
  · exact kept_settleGuards
  · exact kept_settleGuards
  · rfl

theorem kept_setCondition : (setCondition n active s).guards.kept = s.guards.kept := by
  unfold setCondition
  split
  · rfl
  · split
    · exact kept_settleRaised
    · exact kept_settleGuards

theorem above_iff {limit : Nat} : above limit v = true ↔ ∃ x, v = some x ∧ (limit : Int) < x.toInt := by
  cases v <;> simp [above]

theorem magnitudeAbove_iff {limit : Nat} : magnitudeAbove limit v = true ↔ ∃ x, v = some x ∧ limit < x.toInt.natAbs := by
  cases v <;> simp [magnitudeAbove]

/-- A condition judged by a test is the condition of what the test decides. -/
theorem judged_kept {t : State} {test : Bool} {p : Prop} (k : KeptValues) (h : test = true ↔ p)
    (ht : t = setCondition n test (s.withGuards { s.guards with kept := k })) :
    (p → t = setCondition n true (s.withGuards { s.guards with kept := t.guards.kept })) ∧
    (¬ p → t = setCondition n false (s.withGuards { s.guards with kept := t.guards.kept })) := by
  have hk : t.guards.kept = k := by
    rw [ht, kept_setCondition]
    rfl
  rw [hk, ht]
  exact ⟨fun hp => by rw [h.mpr hp], fun hp => by rw [Bool.eq_false_iff.mpr ((not_congr h).mpr hp)]⟩

theorem slopes_iff {limit : Nat} {x : Option Word16} : (magnitudeAbove limit v || magnitudeAbove limit x) = true ↔
    (∃ y, v = some y ∧ limit < y.toInt.natAbs) ∨ ∃ y, x = some y ∧ limit < y.toInt.natAbs := by
  rw [Bool.or_eq_true, magnitudeAbove_iff, magnitudeAbove_iff]

/-! ### The slip comparison (R149) -/

/-- The value the slip comparison refers to. -/
def MoveRecord.slipNames (r : MoveRecord) (goal : Goal) (reference : Word16) : Prop :=
  (r.limited = true ∧ r.lastActual = some reference) ∨ ((r.limited = false ∨ r.lastActual = none) ∧ reference = goal.value)

theorem MoveRecord.slipReference_of_names {r : MoveRecord} {goal : Goal} {reference : Word16}
    (h : r.slipNames goal reference) : r.slipReference goal = reference.toNat := by
  unfold MoveRecord.slipReference
  rcases h with ⟨hlimited, hactual⟩ | ⟨hnone | hnone, rfl⟩
  · rw [hlimited, hactual]
  · rw [hnone]
  · rw [hnone]
    cases r.limited <;> rfl

theorem MoveRecord.exists_slipNames (r : MoveRecord) (goal : Goal) : ∃ reference, r.slipNames goal reference := by
  cases hlimited : r.limited with
  | false => exact ⟨goal.value, .inr ⟨.inl hlimited, rfl⟩⟩
  | true =>
    cases hactual : r.lastActual with
    | none => exact ⟨goal.value, .inr ⟨.inr hactual, rfl⟩⟩
    | some a => exact ⟨a, .inl ⟨hlimited, hactual⟩⟩

theorem MoveRecord.slipGoal_iff {r : MoveRecord} {goal : Goal} : r.slipGoal = some goal ↔
    r.state = .idle ∧ r.manual = false ∧ r.goal = some goal := by
  unfold MoveRecord.slipGoal
  cases hmanual : r.manual with
  | true => simp
  | false => cases hstate : r.state <;> simp

/-- The rotor slips against the goal of its drive. -/
def State.slips (s : State) (w : Rotor) : Prop :=
  ∃ x goal, s.guards.kept.speed w = some x ∧ s.regulator.state ≠ .idle ∧ (s.record w.setting).state = .idle ∧
    (s.record w.setting).manual = false ∧ (s.record w.setting).goal = some goal ∧ ∃ reference : Word16,
      (s.record w.setting).slipNames goal reference ∧ x.toInt * 100 < s.mgmt.params.slipPercent w * reference.toNat

theorem slipCompare_iff : s.slipCompare w = true ↔ s.slips w := by
  constructor
  · intro h
    unfold State.slipCompare at h
    split at h
    · rename_i x goal hspeed hgoal
      obtain ⟨hstate, hmanual, hg⟩ := MoveRecord.slipGoal_iff.mp hgoal
      obtain ⟨hreg, hless⟩ := Bool.and_eq_true_iff.mp h
      obtain ⟨reference, hnames⟩ := (s.record w.setting).exists_slipNames goal
      rw [MoveRecord.slipReference_of_names hnames] at hless
      exact ⟨x, goal, hspeed, of_decide_eq_true hreg, hstate, hmanual, hg, reference, hnames, of_decide_eq_true hless⟩
    · cases h
  · rintro ⟨x, goal, hspeed, hreg, hstate, hmanual, hg, reference, hnames, hless⟩
    unfold State.slipCompare
    rw [hspeed, MoveRecord.slipGoal_iff.mpr ⟨hstate, hmanual, hg⟩]
    dsimp only
    rw [MoveRecord.slipReference_of_names hnames, decide_eq_true hreg, decide_eq_true hless]
    rfl

/-! ### The judgement of a slip (R150) -/

theorem judgeSlip_running (h : s.slips w)
    (hrun : (s.guards.guard w.source).condition = true ∨ s.guards.slipTimer w ≠ none) : judgeSlip w s = s := by
  unfold judgeSlip
  rw [if_pos (slipCompare_iff.mpr h)]
  rcases hrun with hrun | hrun
  · rw [if_pos hrun]
  · obtain ⟨x, hx⟩ := Option.ne_none_iff_exists'.mp hrun
    rw [hx]
    exact ite_self _

theorem judgeSlip_starts (h : s.slips w) (hcond : (s.guards.guard w.source).condition = false)
    (htimer : s.guards.slipTimer w = none) :
    judgeSlip w s = setSlipTimer w (some ⟨s.partTime, 10 * s.mgmt.params.item 36⟩) s := by
  unfold judgeSlip
  rw [if_pos (slipCompare_iff.mpr h), if_neg (by rw [hcond]; exact Bool.false_ne_true), htimer, Nat.mul_comm]
  rfl

theorem judgeSlip_holds (h : ¬ s.slips w) : judgeSlip w s = setCondition w.source false (setSlipTimer w none s) := by
  unfold judgeSlip
  rw [if_neg ((not_congr slipCompare_iff).mpr h)]

/-- The judgement of a slip, by the comparison. -/
theorem judgeSlip_spec (w : Rotor) (s : State) :
    (s.slips w → (s.guards.guard w.source).condition = true ∨ s.guards.slipTimer w ≠ none → judgeSlip w s = s) ∧
    (s.slips w → (s.guards.guard w.source).condition = false → s.guards.slipTimer w = none →
      judgeSlip w s = setSlipTimer w (some ⟨s.partTime, 10 * s.mgmt.params.item 36⟩) s) ∧
    (¬ s.slips w → judgeSlip w s = setCondition w.source false (setSlipTimer w none s)) :=
  ⟨judgeSlip_running, judgeSlip_starts, judgeSlip_holds⟩

/-! ### The tables of the two triggers (R157, R158) -/

theorem Guard.levelRise_eq (g : Guard) : g.levelRise = { g with
    condition := true, armed := false
    state := if g.state = .idle then .pending else g.state
    clearTimer := if g.state = .acting then none else g.clearTimer } := by
  obtain ⟨config, state, condition, armed, clearTimer⟩ := g
  cases state <;> rfl

theorem Guard.levelFall_eq (g : Guard) (now : Word32) : g.levelFall now = { g with
    condition := false, armed := true
    state := if g.state = .pending then .idle else g.state
    clearTimer := if g.state = .acting ∧ g.config.auto = true then some ⟨now, g.clearLength⟩ else g.clearTimer } := by
  obtain ⟨⟨priority, masked, edge, action, auto, clearDwell⟩, state, condition, armed, clearTimer⟩ := g
  cases state
  · rfl
  · rfl
  · cases auto <;> rfl

/-- What an armed EDGE guard becomes when its condition goes active. -/
theorem Guard.edgeRise_armed (h : g.armed = true) (now : Word32) : g.edgeRise now = { g with
    condition := true, armed := false
    state := if g.state = .idle then .pending else g.state
    clearTimer := if g.state = .acting ∧ g.config.auto = true then some ⟨now, g.clearLength⟩ else g.clearTimer } := by
  obtain ⟨⟨priority, masked, edge, action, auto, clearDwell⟩, state, condition, armed, clearTimer⟩ := g
  obtain rfl : armed = true := h
  cases state
  · rfl
  · rfl
  · cases auto <;> rfl

theorem Guard.edgeRise_unarmed (h : g.armed = false) (now : Word32) : g.edgeRise now = { g with condition := true } := by
  unfold Guard.edgeRise
  rw [if_neg (by rw [h]; exact Bool.false_ne_true)]

theorem Guard.change_level (h : g.config.edge = false) :
    g.change now true = g.levelRise ∧ g.change now false = g.levelFall now := by
  unfold Guard.change
  rw [h]
  exact ⟨rfl, rfl⟩

theorem Guard.change_edge (h : g.config.edge = true) :
    g.change now true = g.edgeRise now ∧ g.change now false = g.edgeFall := by
  unfold Guard.change
  rw [h]
  exact ⟨rfl, rfl⟩

theorem Guard.clearLength_eq (g : Guard) : g.clearLength = 10 * g.config.clearDwell.toNat := Nat.mul_comm _ _

/-- A condition that goes active moves the guard, and the examination may be put off. -/
theorem setCondition_rises (h : (s.guards.guard n).condition = false) : setCondition n true s =
    settleRaised .raised n (updGuard n (fun g => g.change s.partTime true) s) :=
  if_neg (by rw [h]; exact Bool.false_ne_true)

theorem setCondition_falls (h : (s.guards.guard n).condition = true) : setCondition n false s =
    settleGuards (updGuard n (fun g => g.change s.partTime false) s) :=
  if_neg (by rw [h]; exact nofun)

theorem updGuard_eq {f : Guard → Guard} {h : Guard} (hf : f (s.guards.guard n) = h) :
    updGuard n f s = s.withGuards { s.guards with table := s.guards.table.set n h } := by
  rw [← hf]
  rfl

/-- Settles O45: the judged conditions, the slip comparison, and the two tables. -/
theorem guardsFollowTheirConditions : Obligations.GuardsFollowTheirConditions := by
  refine ⟨fun v s => ?_, fun w v s => ?_, fun n s => ?_⟩
  · refine ⟨kept_setCondition, ?_, kept_setCondition, ?_, kept_setCondition, ?_, kept_setCondition, ?_⟩
    · exact judged_kept { s.guards.kept with feedLoad := v } above_iff rfl
    · exact judged_kept { s.guards.kept with tailings := v } above_iff rfl
    · exact judged_kept { s.guards.kept with pitch := v } slopes_iff rfl
    · exact judged_kept { s.guards.kept with roll := v } slopes_iff rfl
  · cases w with
    | drum => exact judgeSlip_spec .drum (s.withGuards { s.guards with kept := { s.guards.kept with drumSpeed := v } })
    | fan => exact judgeSlip_spec .fan (s.withGuards { s.guards with kept := { s.guards.kept with fanSpeed := v } })
  · intro g dwell written raised fallen
    have hdwell : dwell = ⟨s.partTime, g.clearLength⟩ := by rw [Guard.clearLength_eq]
    have hrise (hcond : g.condition = false) (h : Guard) (hh : g.change s.partTime true = h) :
        setCondition n true s = raised h := by
      rw [setCondition_rises hcond, updGuard_eq hh]
    have hfall (hcond : g.condition = true) (h : Guard) (hh : g.change s.partTime false = h) :
        setCondition n false s = fallen h := by
      rw [setCondition_falls hcond, updGuard_eq hh]
    rw [hdwell]
    refine ⟨if_pos rfl, fun hedge hcond => hrise hcond _ ?_, fun hedge hcond => hfall hcond _ ?_,
      fun hedge hcond harmed => hrise hcond _ ?_, fun hedge hcond harmed => hrise hcond _ ?_,
      fun hedge hcond => hfall hcond _ ?_, fun harmed => updGuard_eq ?_, rfl⟩
    · exact (Guard.change_level hedge).1.trans g.levelRise_eq
    · exact (Guard.change_level hedge).2.trans (g.levelFall_eq _)
    · exact (Guard.change_edge hedge).1.trans (Guard.edgeRise_armed harmed _)
    · exact (Guard.change_edge hedge).1.trans (Guard.edgeRise_unarmed harmed _)
    · exact (Guard.change_edge hedge).2
    · rw [Guard.edgeRise_armed harmed]
      rfl

end Sys2Proof.Machine
end

section
/-! PROOF. The most urgent guard acts (O46). -/

namespace Sys2Proof.Machine

variable {s : State} {a : Arbiter} {n m k : Fin 12} {e : Action}

/-! ### The guard the examination picks (R160) -/

theorem Arbiter.qualifies_iff : a.qualifies n = true ↔ (a.guard n).state = .pending ∧ (a.guard n).config.masked = false ∧
    (a.guard n).config.priority < a.floor ∧ ∀ k ∈ a.stack, (a.guard n).config.priority < (a.guard k).config.priority := by
  simp only [Arbiter.qualifies, Bool.and_eq_true, decide_eq_true_iff, Bool.not_eq_true', List.all_eq_true, and_assoc]

/-- Guard `n` comes before guard `m`: a lower priority number, or the same and not a higher source number. -/
def Arbiter.precedes (a : Arbiter) (n m : Fin 12) : Prop :=
  (a.guard n).config.priority < (a.guard m).config.priority ∨
    (a.guard n).config.priority = (a.guard m).config.priority ∧ n ≤ m

/-- The first of the qualifying guards of a list. -/
def Arbiter.picks (a : Arbiter) (l : List (Fin 12)) : Option (Fin 12) → Prop
  | none => ∀ m ∈ l, a.qualifies m = false
  | some n => n ∈ l ∧ a.qualifies n = true ∧ ∀ m ∈ l, a.qualifies m = true → a.precedes n m

theorem Arbiter.picks_better {l : List (Fin 12)} {best : Option (Fin 12)} (h : a.picks l best) (hl : ∀ m ∈ l, m < n) :
    a.picks (l ++ [n]) (a.better best n) := by
  have hsplit {p : Fin 12 → Prop} : (∀ m ∈ l ++ [n], p m) ↔ (∀ m ∈ l, p m) ∧ p n := by
    simp only [List.forall_mem_append, List.mem_singleton, forall_eq]
  unfold Arbiter.better
  cases hq : a.qualifies n with
  | false =>
    rw [if_neg Bool.false_ne_true]
    cases best with
    | none => exact hsplit.mpr ⟨h, hq⟩
    | some k =>
      obtain ⟨hk, hqk, hfirst⟩ := h
      exact ⟨List.mem_append_left _ hk, hqk, hsplit.mpr ⟨hfirst, fun hn => nomatch hq.symm.trans hn⟩⟩
  | true =>
    rw [if_pos rfl]
    have hlast : n ∈ l ++ [n] := List.mem_append_right _ List.mem_cons_self
    cases best with
    | none => exact ⟨hlast, hq, hsplit.mpr ⟨fun m hm hqm => (nomatch (h m hm).symm.trans hqm), fun _ => .inr ⟨rfl, Nat.le_refl n.val⟩⟩⟩
    | some k =>
      obtain ⟨hk, hqk, hfirst⟩ := h
      dsimp only
      split
      · rename_i hless
        refine ⟨hlast, hq, hsplit.mpr ⟨fun m hm hqm => .inl ?_, fun _ => .inr ⟨rfl, Nat.le_refl n.val⟩⟩⟩
        exact Nat.lt_of_lt_of_le hless ((hfirst m hm hqm).elim Nat.le_of_lt fun h => Nat.le_of_eq h.1)
      · rename_i hless
        refine ⟨List.mem_append_left _ hk, hqk, hsplit.mpr ⟨hfirst, fun _ => ?_⟩⟩
        exact (Nat.eq_or_lt_of_le (Nat.not_lt.mp hless)).elim (fun heq => .inr ⟨heq, Nat.le_of_lt (hl k hk)⟩) .inl

theorem Arbiter.picks_foldl {l₁ l₂ : List (Fin 12)} {best : Option (Fin 12)} (h : a.picks l₁ best)
    (hsorted : (l₁ ++ l₂).Pairwise (· < ·)) : a.picks (l₁ ++ l₂) (l₂.foldl a.better best) := by
  induction l₂ generalizing l₁ best with
  | nil => rwa [List.append_nil]
  | cons n l ih =>
    rw [List.append_cons] at hsorted ⊢
    have hbelow : ∀ m ∈ l₁, m < n := fun m hm =>
      (List.pairwise_append.mp (List.pairwise_append.mp hsorted).1).2.2 m hm n List.mem_cons_self
    exact ih (Arbiter.picks_better h hbelow) hsorted

theorem Arbiter.picks_nextActing (a : Arbiter) : a.picks allSources a.nextActing :=
  Arbiter.picks_foldl (l₁ := []) (best := none) (fun _ hm => nomatch hm) (by decide)

theorem Arbiter.nextActing_eq_some : a.nextActing = some n ↔
    a.qualifies n = true ∧ ∀ m, a.qualifies m = true → a.precedes n m := by
  have hpicks := a.picks_nextActing
  constructor
  · intro h
    rw [h] at hpicks
    exact ⟨hpicks.2.1, fun m => hpicks.2.2 m (Fin12.mem_allSources m)⟩
  · rintro ⟨hq, hfirst⟩
    cases hnext : a.nextActing with
    | none =>
      rw [hnext] at hpicks
      exact nomatch (hpicks n (Fin12.mem_allSources n)).symm.trans hq
    | some k =>
      rw [hnext] at hpicks
      have hn := hfirst k hpicks.2.1
      have hk := hpicks.2.2 n (Fin12.mem_allSources n) hq
      unfold Arbiter.precedes at hn hk
      have : k = n := by omega
      rw [this]

theorem Arbiter.nextActing_eq_none : a.nextActing = none ↔ ∀ n, a.qualifies n = false := by
  have hpicks := a.picks_nextActing
  constructor
  · intro h n
    rw [h] at hpicks
    exact hpicks n (Fin12.mem_allSources n)
  · intro h
    cases hnext : a.nextActing with
    | none => rfl
    | some k =>
      rw [hnext] at hpicks
      exact nomatch (h k).symm.trans hpicks.2.1

theorem examineGuards_of_none (h : ∀ n, s.guards.qualifies n = false) : examineGuards s = s := by
  rw [examineGuards, Arbiter.nextActing_eq_none.mpr h]

theorem examineGuards_of_picked (hq : s.guards.qualifies n = true) (hfirst : ∀ m, s.guards.qualifies m = true → s.guards.precedes n m) :
    examineGuards s = actGuard n s := by
  rw [examineGuards, Arbiter.nextActing_eq_some.mpr ⟨hq, hfirst⟩]

theorem Guard.act_eq (g : Guard) (now : Word32) : g.act now = { g with
    state := .acting
    clearTimer := if g.config.edge = true ∧ g.config.auto = true then some ⟨now, 10 * g.config.clearDwell.toNat⟩ else none } := by
  unfold Guard.act
  rw [Guard.clearLength_eq]
  simp only [Bool.and_eq_true]

/-! ### The most severe action (R161) -/

theorem Action.ofCode_code (a : Action) : Action.ofCode a.code = some a := by cases a <;> rfl

theorem Action.code_injective {a b : Action} (h : a.code = b.code) : a = b :=
  Option.some.inj (by rw [← Action.ofCode_code a, h, Action.ofCode_code])

theorem Action.worse_spec (a b : Action) : a.code ≤ (a.worse b).code ∧ b.code ≤ (a.worse b).code ∧
    (a.worse b = a ∨ a.worse b = b) := by
  unfold Action.worse
  split
  · rename_i h
    exact ⟨Nat.le_of_lt h, Nat.le_refl _, .inr rfl⟩
  · rename_i h
    exact ⟨Nat.le_refl _, Nat.not_lt.mp h, .inl rfl⟩

/-- The most severe of the actions of a list, from one action on. -/
theorem severest_foldl (f : Fin 12 → Action) (l : List (Fin 12)) (w : Action) :
    w.code ≤ (l.foldl (fun w n => w.worse (f n)) w).code ∧
    (∀ n ∈ l, (f n).code ≤ (l.foldl (fun w n => w.worse (f n)) w).code) ∧
    (l.foldl (fun w n => w.worse (f n)) w = w ∨ ∃ n ∈ l, f n = l.foldl (fun w n => w.worse (f n)) w) := by
  induction l generalizing w with
  | nil => exact ⟨Nat.le_refl _, fun _ h => (nomatch h), .inl rfl⟩
  | cons k l ih =>
    obtain ⟨hw, hall, hone⟩ := ih (w.worse (f k))
    obtain ⟨hleft, hright, hchoice⟩ := Action.worse_spec w (f k)
    refine ⟨Nat.le_trans hleft hw, List.forall_mem_cons.mpr ⟨Nat.le_trans hright hw, hall⟩, ?_⟩
    rw [List.foldl_cons]
    rcases hone with hone | ⟨n, hn, hf⟩
    · rw [hone]
      exact hchoice.imp id fun h => ⟨k, List.mem_cons_self, h.symm⟩
    · exact .inr ⟨n, List.mem_cons_of_mem _ hn, hf⟩

theorem Arbiter.severest_eq (hattained : e = .noticeOnly ∨ ∃ n ∈ a.stack, (a.guard n).config.action = e)
    (hmost : ∀ n ∈ a.stack, (a.guard n).config.action.code ≤ e.code) : a.severest = e := by
  obtain ⟨-, hall, hone⟩ : _ ∧ (∀ n ∈ a.stack, (a.guard n).config.action.code ≤ a.severest.code) ∧
      (a.severest = .noticeOnly ∨ ∃ n ∈ a.stack, (a.guard n).config.action = a.severest) :=
    severest_foldl (fun n => (a.guard n).config.action) a.stack .noticeOnly
  refine Action.code_injective (Nat.le_antisymm ?_ ?_)
  · rcases hone with hone | ⟨n, hn, hf⟩
    · rw [hone]
      exact Nat.zero_le _
    · rw [← hf]
      exact hmost n hn
  · rcases hattained with rfl | ⟨n, hn, rfl⟩
    · exact Nat.zero_le _
    · exact hall n hn

/-! ### An examination at once, or put off (R165) -/

theorem settleRaised_unpicked {due : ExamineDue} (h : ¬ (s.guards.nextActing = some n ∧ s.settled)) :
    settleRaised due n s = settleGuards s := if_neg h

theorem settleRaised_picked {due : ExamineDue} (h : s.guards.nextActing = some n) (hsettled : s.settled) :
    (s.order.headD 0 % 2 = 0 → settleRaised due n s = settleGuards (s.withOrder s.order.tail)) ∧
    (s.order.headD 0 % 2 ≠ 0 →
      settleRaised due n s = (s.withOrder s.order.tail).withGuards { s.guards with examineDue := due }) := by
  have hpicked : settleRaised due n s = if s.order.headD 0 % 2 = 0 then settleGuards (s.withOrder s.order.tail)
      else (s.withOrder s.order.tail).withGuards { s.guards with examineDue := due } := if_pos ⟨h, hsettled⟩
  rw [hpicked]
  exact ⟨fun heven => if_pos heven, fun hodd => if_neg hodd⟩

/-! ### What the regulator does with an action (R138) -/

theorem takeAction_deaf (h : s.mgmt.partState ≠ .regulating ∨ s.regulator.state = .idle ∨
    (s.regulator.state = .safe ∧ s.regulator.safeCause = some .ownerLoss)) (e : Action) : takeAction e s = s := by
  unfold takeAction
  split
  · rename_i hreg
    rcases h with h | h | ⟨hsafe, hcause⟩
    · exact absurd hreg h
    · rw [h]
    · rw [hsafe]
      exact if_pos hcause
  · rfl

/-- Leaving a SAFE that a guard entered. -/
theorem takeAction_guardSafe (hreg : s.mgmt.partState = .regulating)
    (h : s.regulator.state = .safe ∧ s.regulator.safeCause = some .guard) (e : Action) : takeAction e s = leaveSafeFor e s := by
  unfold takeAction
  rw [if_pos hreg, h.1, h.2]
  exact if_neg nofun

theorem takeAction_paused (hreg : s.mgmt.partState = .regulating) (h : s.regulator.state = .paused) :
    takeAction .safeSet s = enterSafe .guard s ∧ takeAction .openConcave s = releaseConcave s ∧
    takeAction .pause s = s ∧ takeAction .noticeOnly s = enterFollow false s := by
  unfold takeAction
  rw [if_pos hreg, h]
  exact ⟨rfl, if_pos hreg, if_pos hreg, if_pos hreg⟩

/-- What a change of effective action does to a state of the cycle. -/
def cycleAction (e : Action) (s : State) : State :=
  match e with
  | .safeSet => enterSafe .guard s
  | .openConcave => enterPausedOpen s
  | .pause => enterPaused s
  | .noticeOnly => s

theorem takeAction_cycle (hreg : s.mgmt.partState = .regulating) (h : s.regulator.state ≠ .idle ∧
    s.regulator.state ≠ .paused ∧ s.regulator.state ≠ .safe) (e : Action) : takeAction e s = cycleAction e s := by
  obtain ⟨hidle, hpaused, hsafe⟩ := h
  unfold takeAction cycleAction
  rw [if_pos hreg]
  split
  · exact absurd ‹_› hidle
  · exact absurd ‹_› hsafe
  · exact absurd ‹_› hpaused
  · cases e <;> rfl

/-- Settles O46: the examination, the judgement, the two choices of their time, and the table of the regulator. -/
theorem theMostUrgentGuardActs : Obligations.TheMostUrgentGuardActs := by
  intro s g fits
  have hfits (n : Fin 12) : s.guards.qualifies n = true ↔ fits n := Arbiter.qualifies_iff
  have hpicked (n : Fin 12) : s.guards.nextActing = some n ↔ fits n ∧ ∀ m, fits m → s.guards.precedes n m := by
    simp only [Arbiter.nextActing_eq_some, hfits]
  refine ⟨fun hnone => ?_, fun n hn hfirst => ?_, fun e hattained hmost => ?_, rfl, fun n due => ⟨fun h => ?_, fun h hsettled => ?_⟩,
    rfl, fun hdeaf => takeAction_deaf hdeaf, fun hreg => ⟨fun h => ?_, fun h => ?_, fun h => ?_, fun h => ?_, fun h => ?_, fun h => ?_⟩⟩
  · exact examineGuards_of_none fun n => Bool.eq_false_iff.mpr ((not_congr (hfits n)).mpr (hnone n))
  · rw [examineGuards_of_picked ((hfits n).mpr hn) (fun m hm => hfirst m ((hfits m).mp hm)), actGuard, Guard.act_eq]
    rfl
  · rw [judgeAction, Arbiter.severest_eq hattained hmost]
  · exact settleRaised_unpicked fun hp => h.elim (fun hno => hno ((hpicked n).mp hp.1)) fun hno => hno hp.2
  · exact settleRaised_picked ((hpicked n).mpr h) hsettled
  · rcases h with h | h
    · rw [takeAction_cycle hreg h]
      exact safeEntered_enterSafe _ s
    · rw [(takeAction_paused hreg h).1]
      exact safeEntered_enterSafe _ s
  · rcases h with h | h
    · have hp := pausedBy_enterPausedOpen s
      rw [leaveSafe_of_ne h.2.2] at hp
      rw [takeAction_cycle hreg h]
      exact hp
    · rw [takeAction_guardSafe hreg h]
      exact pausedBy_enterPausedOpen s
  · rcases h with h | h
    · have hp := pausedBy_enterPaused s
      rw [leaveSafe_of_ne h.2.2] at hp
      rw [takeAction_cycle hreg h]
      exact hp
    · rw [takeAction_guardSafe hreg h]
      exact pausedBy_enterPaused s
  · exact (takeAction_paused hreg h).2.1
  · exact (takeAction_paused hreg h).2.2.1
  · rcases h with h | h
    · have hf := followed_enterFollow s
      rw [leaveSafe_of_ne (by rw [show s.regulator.state = .paused from h]; exact nofun)] at hf
      rw [(takeAction_paused hreg h).2.2.2]
      exact hf
    · rw [takeAction_guardSafe hreg h]
      exact followed_enterFollow s

end Sys2Proof.Machine
end

section
/-! PROOF. The arbiter takes requests, timers and machine lines (O47). -/

namespace Sys2Proof.Machine

variable {s : State} {r : Sender} {n : Fin 12} {source : Byte} {f : GuardFields} {a : Action} {g : Guard}

/-! ### The guard named -/

theorem sourceOf_of_toNat (h : source.toNat = n.val) : sourceOf source = some n := by
  rw [sourceOf, dif_pos (by rw [h]; exact n.isLt)]
  exact congrArg some (Fin.ext h)

theorem exists_source (h : ¬ 11 < source.toNat) : ∃ n : Fin 12, source.toNat = n.val :=
  ⟨⟨source.toNat, by omega⟩, rfl⟩

theorem isEventSource_iff : isEventSource n = true ↔ n.val = 5 ∨ n.val = 10 ∨ n.val = 11 := by
  revert n
  decide

/-! ### GUARD CONFIG (R154) -/

theorem guardFieldsBad_iff : guardFieldsBad n f = true ↔ 7 < f.priority.toNat ∨ 3 < f.action.toNat ∨ f.clearDwell = 0#8 ∨
    8 ≤ f.flags.toNat ∨ isEventSource n = true ∧ f.flags.getLsbD 1 = false := by
  have hflags : (!highBitsClear 3 f.flags) = true ↔ 8 ≤ f.flags.toNat := by
    rw [Bool.not_eq_true', ← Bool.not_eq_true]
    exact (not_congr (highBitsClear_iff 3 f.flags)).trans Nat.not_lt
  simp only [guardFieldsBad, Bool.or_eq_true, decide_eq_true_iff, hflags, Bool.and_eq_true, Bool.not_eq_true', or_assoc]

theorem bodyGuardConfig_beyond (h : 11 < source.toNat) : bodyGuardConfig r source f s = answer r 24 .badField [] s := by
  rw [bodyGuardConfig, sourceOf_beyond h]

theorem bodyGuardConfig_named (h : sourceOf source = some n) : bodyGuardConfig r source f s =
    refuseOr r 24 (badWhen (guardFieldsBad n f)) (configureGuard n f) s := by
  rw [bodyGuardConfig, h]

theorem Action.ofCode_le {k : Nat} (h : Action.ofCode k = some a) : k ≤ 3 := by
  refine Decidable.byContradiction fun hk => ?_
  obtain ⟨j, rfl⟩ : ∃ j, k = j + 4 := ⟨k - 4, by omega⟩
  cases h

/-! ### A release (R162) -/

theorem Guard.released_eq (g : Guard) : g.released = { g with
    clearTimer := none, state := if g.config.edge = false ∧ g.condition = true then .pending else .idle } := by
  simp only [Guard.released, Bool.and_eq_true, Bool.not_eq_true']

theorem removeGuard_eq (n : Fin 12) (cause : Nat) (s : State) : removeGuard n cause s =
    raiseNotice .guardReleased n.val (BitVec.ofNat 16 cause) (s.withGuards { s.guards with
      table := s.guards.table.set n { s.guards.guard n with
        clearTimer := none
        state := if (s.guards.guard n).config.edge = false ∧ (s.guards.guard n).condition = true then .pending else .idle }
      stack := s.guards.stack.filter (fun k => decide (k ≠ n)) }) := by
  rw [removeGuard, Guard.released_eq]
  rfl

theorem Guard.configured_eq (g : Guard) (c : GuardConfig) : g.configured c =
    ⟨c, if c.edge = false ∧ g.condition = true then .pending else .idle, g.condition, !g.condition, none⟩ := by
  simp only [Guard.configured, Bool.and_eq_true, Bool.not_eq_true']

/-- The configuration the fields give with an action. -/
def GuardConfig.ofFields (f : GuardFields) (a : Action) : GuardConfig :=
  ⟨f.priority.toNat, f.flags.getLsbD 0, f.flags.getLsbD 1, a, f.flags.getLsbD 2, f.clearDwell⟩

theorem guardOfFields_eq (h : Action.ofCode f.action.toNat = some a) : guardOfFields f = .ofFields f a := by
  rw [guardOfFields, h]
  rfl

/-- A guard set afresh under a new configuration, its condition that of another guard. -/
theorem configured_withGuards (h : (s.guards.guard n).condition = g.condition) (c : GuardConfig) :
    updGuard n (fun k => k.configured c) s = s.withGuards { s.guards with
      table := s.guards.table.set n
        ⟨c, if c.edge = false ∧ g.condition = true then .pending else .idle, g.condition, !g.condition, none⟩ } := by
  rw [updGuard_eq (Guard.configured_eq _ c), h]

theorem configureGuard_idle (h : (s.guards.guard n).state ≠ .acting) : configureGuard n f s =
    settleGuards (updGuard n (fun g => g.configured (guardOfFields f)) s) := by
  unfold configureGuard
  dsimp only
  rw [if_neg h]

theorem configureGuard_acting (h : (s.guards.guard n).state = .acting) : configureGuard n f s =
    settleGuards (updGuard n (fun g => g.configured (guardOfFields f)) (removeGuard n 3 s)) := by
  unfold configureGuard
  dsimp only
  rw [if_pos h]

/-- A release leaves the condition. -/
theorem removeGuard_condition (n : Fin 12) (cause : Nat) (s : State) :
    ((removeGuard n cause s).guards.guard n).condition = (s.guards.guard n).condition := by
  rw [removeGuard, guards_raiseNotice]
  refine congrArg Guard.condition ((Arbiter.guard_withGuard s.guards n n _).trans (if_pos rfl)) |>.trans ?_
  rfl

theorem guardConfig_takes (h : s.admits r .modifying notRegulating) (hgood : guardFieldsBad n f = false) :
    exec (.guardConfig r (BitVec.ofNat 8 n.val) f) s = .next (answer r 24 .done []
      (configureGuard n f (s.taken (.guardConfig r (BitVec.ofNat 8 n.val) f)))) := by
  rw [show exec (.guardConfig r (BitVec.ofNat 8 n.val) f) s = _ from live_serve_of_admits h,
    bodyGuardConfig_named (sourceOf_byte n), hgood, badWhen_false, refuseOr_none]

/-! ### GUARD RELEASE (R163) -/

theorem bodyGuardRelease_named (h : sourceOf source = some n) : bodyGuardRelease r source s =
    refuseOr r 27 (if (s.guards.guard n).state = .acting then none else some .wrongState) (releaseNamed n) s := by
  rw [bodyGuardRelease, h]

theorem bodyGuardRelease_beyond (h : 11 < source.toNat) (hall : source ≠ 255#8) :
    bodyGuardRelease r source s = answer r 27 .badField [] s := by
  rw [bodyGuardRelease, sourceOf_beyond h]
  exact if_neg hall

theorem bodyGuardRelease_empty (h : s.guards.stack = []) : bodyGuardRelease r 255#8 s = answer r 27 .wrongState [] s := by
  rw [bodyGuardRelease, sourceOf_beyond (by decide), if_pos rfl, h]
  rfl

theorem bodyGuardRelease_top (h : s.guards.stack.getLast? = some n) :
    bodyGuardRelease r 255#8 s = answer r 27 .done [] (releaseGuard n 1 s) := by
  rw [bodyGuardRelease, sourceOf_beyond (by decide), if_pos rfl, h]
  rfl

theorem guardRelease_takes (h : s.admits r .modifying anyState) : exec (.guardRelease r source) s =
    .next (bodyGuardRelease r source (s.taken (.guardRelease r source))) := live_serve_of_admits h

/-! ### GUARD MASK (R155), taken also while a raise waits for its examination -/

theorem taken_guardMask {mask : Word16} (h : s.guards.examineDue ≠ .released) : s.taken (.guardMask r mask) =
    s.withMgmt { s.mgmt with inbox := s.mgmt.inbox.erase (.guardMask r mask) } := by
  have hbefore : settleBefore (.guardMask r mask) s = s := by
    cases hdue : s.guards.examineDue with
    | no => exact settleBefore_of_settled hdue _
    | raised =>
      unfold settleBefore
      rw [hdue]
    | released => exact absurd hdue h
  rw [State.taken, takeRequest, hbefore]

theorem guardMask_takes {mask : Word16} (hfree : s.free) (howner : s.mgmt.owner = some r.station) :
    exec (.guardMask r mask) s = .next (refuseOr r 25 (badWhen (decide (4096 ≤ mask.toNat))) (writeMasks mask)
      (s.taken (.guardMask r mask))) := by
  have harm : exec (.guardMask r mask) s = execGuardMask r mask s := rfl
  rw [harm, execGuardMask, live_of_works hfree.1, serve_anyState_of_owner hfree.2 howner]

/-! ### Timers and lines -/

theorem exec_slipDwellExpiry {w : Rotor} (hworks : s.works) (h : s.slipDue w = true) :
    exec (.slipDwellExpiry w) s = .next (setCondition w.source true (setSlipTimer w none s)) := by
  have harm : exec (.slipDwellExpiry w) s = execSlipDwellExpiry w s := rfl
  rw [harm, execSlipDwellExpiry, live_of_works hworks, h]
  rfl

theorem exec_clearDwellExpiry (hworks : s.works) (h : s.clearDue n = true) :
    exec (.clearDwellExpiry n) s = .next (releaseGuard n 2 s) := by
  have harm : exec (.clearDwellExpiry n) s = execClearDwellExpiry n s := rfl
  rw [harm, execClearDwellExpiry, live_of_works hworks, h]
  rfl

theorem exec_lineLevelSettled {line : MachineLine} {high : Bool} (hworks : s.works) :
    exec (.lineLevelSettled line high) s = .next (settleLine line high s) := live_of_works hworks

theorem taken_guards (h : s.settled) {c : Instr} : (s.taken c).guards = s.guards := by rw [taken_eq h]; rfl

/-- Settles O47: each request, timer and line makes its change, and the examination and the judgement follow. -/
theorem theArbiterTakesRequestsTimersAndLines : Obligations.TheArbiterTakesRequestsTimersAndLines := by
  refine ⟨⟨fun r source f s h hbad => ?_, fun r mask s hfree howner hdue hlarge => ?_, fun r s h => ⟨fun floor hfloor => ?_,
    fun source n hn hstate => ?_, fun hempty => ?_, fun source hbeyond hall => ?_⟩⟩,
    ⟨fun r n f a s h hpriority hdwell hflags hcode hevent => ?_, fun r mask s hfree howner hdue hsmall => ?_,
      fun r floor s h hlow hhigh => ?_, fun r source n s h hnamed => ?_, fun r s h => ?_⟩,
    fun s hworks => ⟨exec_slipDwellExpiry (w := .drum) hworks, exec_slipDwellExpiry (w := .fan) hworks, fun n hdue => ?_,
      fun high => ⟨exec_lineLevelSettled hworks, exec_lineLevelSettled hworks⟩⟩⟩
  · refine exec_refuses rfl h ?_
    by_cases hbeyond : 11 < source.toNat
    · exact bodyGuardConfig_beyond hbeyond
    · obtain ⟨n, hn⟩ := exists_source hbeyond
      have hfields : guardFieldsBad n f = true := by
        rw [guardFieldsBad_iff, isEventSource_iff, ← hn]
        exact (hbad.resolve_left hbeyond)
      rw [bodyGuardConfig_named (sourceOf_of_toNat hn), hfields, badWhen_true, refuseOr_some]
  · rw [State.refuses, guardMask_takes hfree howner, decide_eq_true hlarge, badWhen_true, refuseOr_some]
  · refine exec_refuses rfl h ?_
    have hbad : (decide (floor = 0#8) || decide (8 < floor.toNat)) = true := by
      rw [Bool.or_eq_true, decide_eq_true_iff, decide_eq_true_iff]
      exact hfloor.imp (fun h => BitVec.eq_of_toNat_eq h) id
    rw [hbad, badWhen_true, refuseOr_some]
  · refine exec_refuses rfl h ?_
    rw [bodyGuardRelease_named (sourceOf_of_toNat hn), taken_guards h.settled, if_neg hstate, refuseOr_some]
  · exact exec_refuses rfl h (bodyGuardRelease_empty (by rw [taken_guards h.settled]; exact hempty))
  · exact exec_refuses rfl h (bodyGuardRelease_beyond hbeyond hall)
  · have hgood : guardFieldsBad n f = false := by
      rw [← Bool.not_eq_true, guardFieldsBad_iff]
      rintro (hp | hc | hd | hf | ⟨he, hedge⟩)
      · omega
      · have := Action.ofCode_le hcode
        omega
      · exact hdwell hd
      · omega
      · exact nomatch hedge.symm.trans (hevent he)
    intro c g written set
    have hguards : (s.taken c).guards = s.guards := taken_guards h.settled
    have hset (t : State) (ht : (t.guards.guard n).condition = g.condition) :
        updGuard n (fun g => g.configured (guardOfFields f)) t = set t := by
      rw [guardOfFields_eq hcode]
      exact configured_withGuards ht _
    refine ⟨fun hstate => ?_, fun hstate => ?_⟩
    · rw [guardConfig_takes h hgood, configureGuard_idle (by rw [taken_guards h.settled]; exact hstate),
        hset _ (by rw [taken_guards h.settled])]
    · rw [guardConfig_takes h hgood, configureGuard_acting (by rw [taken_guards h.settled]; exact hstate),
        hset _ (by rw [removeGuard_condition, taken_guards h.settled]), removeGuard_eq, taken_guards h.settled]
  · have hsmall' : decide (4096 ≤ mask.toNat) = false := decide_eq_false (Nat.not_le.mpr hsmall)
    have hguards : (s.taken (.guardMask r mask)).guards = s.guards := by
      rw [taken_guardMask hdue]
      rfl
    refine ⟨s.guards.maskAll mask, ?_, fun n => ?_, rfl⟩
    · rw [guardMask_takes hfree howner, hsmall', badWhen_false, refuseOr_none, writeMasks, hguards]
    · exact Table.get_imap _ _ n
  · have hgood : (decide (floor = 0#8) || decide (8 < floor.toNat)) = false := by
      rw [Bool.or_eq_false_iff, decide_eq_false_iff_not, decide_eq_false_iff_not]
      refine ⟨fun h => ?_, Nat.not_lt.mpr hhigh⟩
      rw [h] at hlow
      exact absurd hlow (by decide)
    rw [show exec (.guardFloor r floor) s = _ from live_serve_of_admits h, hgood, badWhen_false, refuseOr_none, writeFloor,
      taken_guards h.settled]
  · rw [guardRelease_takes h]
    rcases hnamed with ⟨hn, hstate⟩ | ⟨rfl, htop⟩
    · have hone : source ≠ 255#8 := by
        rintro rfl
        exact absurd hn (by have := n.isLt; change 255 ≠ n.val; omega)
      rw [bodyGuardRelease_named (sourceOf_of_toNat hn), taken_guards h.settled, if_pos hstate, refuseOr_none, if_neg hone,
        if_neg hone, releaseNamed, removeGuard_eq, taken_guards h.settled]
    · rw [bodyGuardRelease_top (by rw [taken_guards h.settled]; exact htop), if_pos rfl, if_pos rfl, releaseGuard,
        removeGuard_eq, taken_guards h.settled]
  · exact live_serve_of_admits h
  · rw [exec_clearDwellExpiry hworks hdue, releaseGuard, removeGuard_eq]

end Sys2Proof.Machine
end

section
/-! PROOF. The parameter block is written, closed and opened (O52). -/

namespace Sys2Proof.Machine

variable {s : State} {r : Sender} {p : Params} {st o : Setting} {k : BankId} {n : Nat} {c : CellRecord} {m : SettingMap}
  {item : CellRecord → Setting → Option Nat} {cause i v : Nat} {b : Bank} {u : Substitute} {fields : List Byte}

/-! ### The first that a test finds -/

theorem findSome?_of_first {α β : Type} {f : α → Option β} {l : List α} {i : Nat} {a : α} {x : β} (hi : l[i]? = some a)
    (ha : f a = some x) (hbefore : ∀ j, j < i → ∀ y, l[j]? = some y → f y = none) : l.findSome? f = some x := by
  obtain ⟨hlt, rfl⟩ := List.getElem?_eq_some_iff.mp hi
  refine List.findSome?_eq_some_iff.mpr ⟨l.take i, l[i], l.drop (i + 1), ?_, ha, fun y hy => ?_⟩
  · rw [← List.drop_eq_getElem_cons hlt, List.take_append_drop]
  · obtain ⟨j, hj⟩ := List.mem_iff_getElem?.mp hy
    obtain ⟨hji, hjl⟩ : j < i ∧ l[j]? = some y := by
      rw [List.getElem?_take] at hj
      split at hj
      · exact ⟨by assumption, hj⟩
      · cases hj
    exact hbefore j hji y hjl

theorem Setting.getElem?_all (st : Setting) : Setting.all[st.num]? = some st := by cases st <;> rfl

theorem Setting.num_of_getElem? {j : Nat} (h : Setting.all[j]? = some o) : o.num = j := by
  match j, h with
  | 0, h | 1, h | 2, h | 3, h | 4, h =>
    obtain rfl := Option.some.inj h
    rfl

theorem findSome?_settings {β : Type} {f : Setting → Option β} {x : β} (h : f st = some x)
    (hbefore : ∀ o : Setting, o.num < st.num → f o = none) : Setting.all.findSome? f = some x :=
  findSome?_of_first (Setting.getElem?_all st) h fun _ hj o ho => hbefore o (Setting.num_of_getElem? ho ▸ hj)

theorem findSome?_settings_none {β : Type} {f : Setting → Option β} (h : ∀ st, f st = none) : Setting.all.findSome? f = none :=
  List.findSome?_eq_none_iff.mpr fun st _ => h st

/-! ### The first cell, bank A before bank B -/

/-- What the search for a cell asks of one entry of a bank. -/
def cellConflict (item : CellRecord → Setting → Option Nat) (cause : Nat) (k : BankId) (e : Nat × Option CellRecord) :
    Option (List Byte) :=
  match e.2 with
  | some c => Setting.all.findSome? (fun st => (item c st).map (fun i => conflictFields i cause k.num e.1))
  | none => none

theorem cellConflict_written (c : CellRecord) : cellConflict item cause k (n, some c) =
    Setting.all.findSome? (fun st => (item c st).map (fun i => conflictFields i cause k.num n)) := rfl

theorem firstInBank_eq : firstInBank item cause k b = b.cells.entries.findSome? (cellConflict item cause k) := by
  refine congrArg (fun f => b.cells.entries.findSome? f) (funext fun e => ?_)
  obtain ⟨_, _ | _⟩ := e <;> rfl

/-- No setting of a cell is given an item. -/
def clearCell (item : CellRecord → Setting → Option Nat) (b : Bank) (n : Nat) : Prop :=
  ∀ c, b.cell n = some c → ∀ st, item c st = none

theorem cellConflict_clear {x : Option CellRecord} (hx : b.cells.get? n = some x) (h : clearCell item b n) :
    cellConflict item cause k (n, x) = none := by
  cases x with
  | none => rfl
  | some c =>
    rw [cellConflict_written]
    refine findSome?_settings_none fun st => ?_
    rw [h c (Bank.cell_of_get?.mpr hx) st]
    rfl

theorem firstInBank_clear (h : ∀ n, clearCell item b n) : firstInBank item cause k b = none := by
  rw [firstInBank_eq]
  exact List.findSome?_eq_none_iff.mpr fun e he => cellConflict_clear (Table.mem_entries.mp he) (h e.1)

theorem firstInBank_first (hc : b.cell n = some c) (hitem : item c st = some i)
    (hsettings : ∀ o : Setting, o.num < st.num → item c o = none) (hcells : ∀ j, j < n → clearCell item b j) :
    firstInBank item cause k b = some (conflictFields i cause k.num n) := by
  have hentry {j : Nat} : b.cells.entries[j]? = (b.cells.get? j).map (fun x => (j, x)) := by
    rw [Table.entries, Table.getElem?_mapFrom, Table.get?_eq_getElem?, Nat.zero_add]
  rw [firstInBank_eq]
  refine findSome?_of_first (i := n) (a := (n, some c)) ?_ ?_ fun j hj y hy => ?_
  · rw [hentry, Bank.cell_of_get?.mp hc]
    rfl
  · rw [cellConflict_written]
    exact findSome?_settings (st := st) (by rw [hitem]; rfl) fun o ho => by rw [hsettings o ho]; rfl
  · rw [hentry] at hy
    obtain ⟨x, hx, rfl⟩ := Option.map_eq_some_iff.mp hy
    exact cellConflict_clear hx (hcells j hj)

/-- Every cell before this one is clear: those below it in its bank, and all of bank A before bank B. -/
def clearBefore (item : CellRecord → Setting → Option Nat) (m : SettingMap) (k : BankId) (n : Nat) : Prop :=
  (k = .b → ∀ j, clearCell item (m.bank .a) j) ∧ ∀ j, j < n → clearCell item (m.bank k) j

theorem firstInBanks_eq : firstInBanks item cause m =
    (firstInBank item cause .a (m.bank .a)).or (firstInBank item cause .b (m.bank .b)) := rfl

theorem firstInBanks_clear (h : ∀ k n, clearCell item (m.bank k) n) : firstInBanks item cause m = none := by
  rw [firstInBanks_eq, firstInBank_clear (h .a), firstInBank_clear (h .b)]
  rfl

theorem firstInBanks_first (hc : (m.bank k).cell n = some c) (hbefore : clearBefore item m k n) (hitem : item c st = some i)
    (hsettings : ∀ o : Setting, o.num < st.num → item c o = none) :
    firstInBanks item cause m = some (conflictFields i cause k.num n) := by
  obtain ⟨hbank, hcells⟩ := hbefore
  have hfirst := firstInBank_first (cause := cause) (k := k) hc hitem hsettings hcells
  cases k with
  | a => exact congrArg (Option.or · _) hfirst
  | b => exact (congrArg (Option.or · _) (firstInBank_clear (hbank rfl))).trans hfirst

/-! ### The five causes of a CONFLICT (R186) -/

/-- A value breaks the limit of an item. -/
def Params.breaks (p : Params) (st : Setting) (v item : Nat) : Prop :=
  v < p.item st.num ∧ item = st.num ∨ p.item st.num ≤ v ∧ p.item (5 + st.num) < v ∧ item = 5 + st.num

theorem brokenLimit_eq_some : brokenLimit p st v = some i ↔ p.breaks st v i := by
  unfold brokenLimit Params.breaks
  split
  · rename_i h
    rw [Option.some.injEq]
    exact ⟨fun hi => .inl ⟨h, hi.symm⟩, fun hi => hi.elim (fun h => h.2.symm) fun h' => absurd h (Nat.not_lt.mpr h'.1)⟩
  · rename_i h
    split
    · rename_i hmax
      rw [Option.some.injEq]
      exact ⟨fun hi => .inr ⟨Nat.not_lt.mp h, hmax, hi.symm⟩, fun hi => hi.elim (fun h' => absurd h'.1 h) fun h => h.2.2.symm⟩
    · rename_i hmax
      exact iff_of_false nofun fun hi => hi.elim (fun h' => h h'.1) fun h' => hmax h'.2.1

theorem brokenLimit_of_inside (h : ∀ item, ¬ p.breaks st v item) : brokenLimit p st v = none :=
  Option.eq_none_iff_forall_ne_some.mpr fun i hi => h i (brokenLimit_eq_some.mp hi)

/-- Global min below Global max, for every setting. -/
def Params.ordered (p : Params) : Prop := ∀ st : Setting, p.item st.num < p.item (5 + st.num)

theorem limitsConflict_none (h : p.ordered) : limitsConflict p = none :=
  findSome?_settings_none fun st => if_pos (h st)

theorem limitsConflict_first (h : ¬ p.item st.num < p.item (5 + st.num))
    (hbefore : ∀ o : Setting, o.num < st.num → p.item o.num < p.item (5 + o.num)) :
    limitsConflict p = some (conflictFields st.num 1 255 255) :=
  findSome?_settings (if_neg h) fun o ho => if_pos (hbefore o ho)

/-- The item that a substitute value breaks. -/
def substituteItem (p : Params) (u : Substitute) (st : Setting) : Option (List Byte) :=
  (u.values.get st).bind fun v => (brokenLimit p st v.toNat).map fun item => conflictFields item 2 255 255

theorem substituteConflict_eq : substituteConflict p u = Setting.all.findSome? (substituteItem p u) := by
  refine congrArg (fun f => Setting.all.findSome? f) (funext fun st => ?_)
  unfold substituteItem
  cases u.values.get st <;> rfl

/-- The substitute value of a setting, if there is one, is inside its limits. -/
def substituteInside (p : Params) (u : Substitute) (st : Setting) : Prop :=
  ∀ x : Word16, u.values.get st = some x → ∀ item, ¬ p.breaks st x.toNat item

theorem substituteItem_none (h : substituteInside p u st) : substituteItem p u st = none := by
  unfold substituteItem
  cases hx : u.values.get st with
  | none => rfl
  | some x =>
    rw [Option.bind_some, brokenLimit_of_inside (h x hx)]
    rfl

theorem substituteConflict_none (h : ∀ st, substituteInside p u st) : substituteConflict p u = none := by
  rw [substituteConflict_eq]
  exact findSome?_settings_none fun st => substituteItem_none (h st)

theorem substituteConflict_first {x : Word16} (hx : u.values.get st = some x) (hbreaks : p.breaks st x.toNat i)
    (hbefore : ∀ o : Setting, o.num < st.num → substituteInside p u o) :
    substituteConflict p u = some (conflictFields i 2 255 255) := by
  rw [substituteConflict_eq]
  refine findSome?_settings (st := st) ?_ fun o ho => substituteItem_none (hbefore o ho)
  rw [substituteItem, hx, Option.bind_some, brokenLimit_eq_some.mpr hbreaks]
  rfl

/-- The item that a target of a cell breaks. -/
def targetItem (p : Params) (c : CellRecord) (st : Setting) : Option Nat := brokenLimit p st (c.targets.get st).toNat

/-- The item that a trim offset of a cell breaks. -/
def trimItem (p : Params) (c : CellRecord) (st : Setting) : Option Nat :=
  if p.item (20 + st.num) < (c.trimOffset st).natAbs then some (20 + st.num) else none

theorem paramConflict_eq : paramConflict p u m =
    (((limitsConflict p).or (substituteConflict p u)).or (firstInBanks (targetItem p) 3 m)).or
      (((brokenLimit p .concave (p.item 25)).map (fun item => conflictFields item 4 255 255)).or
        (firstInBanks (trimItem p) 5 m)) := rfl

theorem clearCell_targetItem (h : ∀ c, b.cell n = some c → ∀ st, ∀ item, ¬ p.breaks st (c.targets.get st).toNat item) :
    clearCell (targetItem p) b n := fun c hc st => brokenLimit_of_inside (h c hc st)

theorem clearCell_trimItem (h : ∀ c, b.cell n = some c → ∀ st, (c.trimOffset st).natAbs ≤ p.item (20 + st.num)) :
    clearCell (trimItem p) b n := fun c hc st => if_neg (Nat.not_lt.mpr (h c hc st))

theorem clearBefore_of {item : CellRecord → Setting → Option Nat} {ok : BankId → Nat → Prop}
    (hok : ∀ k n, ok k n → clearCell item (m.bank k) n) (h : (k = .b → ∀ j, ok .a j) ∧ ∀ j, j < n → ok k j) :
    clearBefore item m k n := ⟨fun hk j => hok _ _ (h.1 hk j), fun j hj => hok _ _ (h.2 j hj)⟩

/-! ### The block that keeps every constraint -/

/-- Every cross-item constraint of R186. -/
def Params.keeps (p : Params) (u : Substitute) (m : SettingMap) : Prop :=
  p.ordered ∧ substituteFits p u = true ∧ bankFits p m.bankA = true ∧ bankFits p m.bankB = true ∧
    p.item 1 ≤ p.item 25 ∧ p.item 25 ≤ p.item 6

theorem cellFits_of_cell (h : m.Fits p) (hc : (m.bank k).cell n = some c) : cellFits p c = true := by
  obtain ⟨i, hi⟩ : ∃ i, (i, some c) ∈ (m.bank k).cells.entries := ⟨n, Table.mem_entries.mpr (Bank.cell_of_get?.mp hc)⟩
  have hmem : some c ∈ (m.bank k).cells.list := by
    rw [Table.mem_entries, Table.get?_eq_getElem?] at hi
    exact List.mem_of_getElem? hi
  exact bankFits_iff.mp (h k) _ hmem

theorem limitsConflict_eq_none : limitsConflict p = none ↔ p.ordered := by
  refine ⟨fun h st => ?_, limitsConflict_none⟩
  have hst := List.findSome?_eq_none_iff.mp h st (Setting.mem_all st)
  refine Classical.byContradiction fun hnot => ?_
  cases (if_neg hnot).symm.trans hst

theorem releaseConflict_eq_none : (brokenLimit p .concave (p.item 25)).map (fun item => conflictFields item 4 255 255) = none ↔
    p.item 1 ≤ p.item 25 ∧ p.item 25 ≤ p.item 6 := by
  rw [Option.map_eq_none_iff, brokenLimit_eq_none, inLimits_iff]
  rfl

theorem paramConflict_eq_none : paramConflict p u m = none ↔ p.keeps u m := by
  constructor
  · intro h
    obtain ⟨hsubstitute, hbanks⟩ := fits_of_no_conflict h
    rw [paramConflict_eq, Option.or_eq_none_iff, Option.or_eq_none_iff, Option.or_eq_none_iff, Option.or_eq_none_iff] at h
    obtain ⟨⟨⟨hlimits, -⟩, -⟩, hrelease, -⟩ := h
    obtain ⟨ha, hb⟩ := SettingMap.fits_iff.mp hbanks
    exact ⟨limitsConflict_eq_none.mp hlimits, hsubstitute, ha, hb, releaseConflict_eq_none.mp hrelease⟩
  · rintro ⟨hordered, hsubstitute, ha, hb, hrelease⟩
    have hfits : m.Fits p := SettingMap.fits_iff.mpr ⟨ha, hb⟩
    have htargets : firstInBanks (targetItem p) 3 m = none := firstInBanks_clear fun k n c hc st =>
      brokenLimit_eq_none.mpr (cellFits_iff.mp (cellFits_of_cell hfits hc) st).1
    have htrims : firstInBanks (trimItem p) 5 m = none := firstInBanks_clear fun k n c hc st =>
      if_neg (Nat.not_lt.mpr (cellFits_iff.mp (cellFits_of_cell hfits hc) st).2)
    have hvalues : substituteConflict p u = none := substituteConflict_none fun st x hx item hbreaks =>
      nomatch (brokenLimit_eq_none.mpr (substituteFits_iff.mp hsubstitute st x hx)).symm.trans (brokenLimit_eq_some.mpr hbreaks)
    rw [paramConflict_eq, limitsConflict_none hordered, hvalues, htargets, releaseConflict_eq_none.mpr hrelease, htrims]
    rfl

/-- What the fields of a CONFLICT are. -/
theorem exists_conflictFields (h : paramConflict p u m = some fields) : ∃ i cause k n, fields = conflictFields i cause k n := by
  have hsettings {f : Setting → Option (List Byte)} (hf : ∀ st x, f st = some x → ∃ i cause k n, x = conflictFields i cause k n)
      (hall : Setting.all.findSome? f = some fields) : ∃ i cause k n, fields = conflictFields i cause k n := by
    obtain ⟨st, -, hst⟩ := List.exists_of_findSome?_eq_some hall
    exact hf st fields hst
  have hmapped {o : Option Nat} {cause k n : Nat} {x : List Byte} (hx : o.map (fun i => conflictFields i cause k n) = some x) :
      ∃ i cause k n, x = conflictFields i cause k n := by
    obtain ⟨i, -, rfl⟩ := Option.map_eq_some_iff.mp hx
    exact ⟨i, _, _, _, rfl⟩
  have hbank {item : CellRecord → Setting → Option Nat} {cause : Nat} {k : BankId} {b : Bank}
      (hx : firstInBank item cause k b = some fields) : ∃ i cause k n, fields = conflictFields i cause k n := by
    rw [firstInBank_eq] at hx
    obtain ⟨⟨n, _ | c⟩, -, hc⟩ := List.exists_of_findSome?_eq_some hx
    · cases hc
    · exact hsettings (fun st x => hmapped) hc
  have hbanks {item : CellRecord → Setting → Option Nat} {cause : Nat} (hx : firstInBanks item cause m = some fields) :
      ∃ i cause k n, fields = conflictFields i cause k n :=
    (Option.or_eq_some_iff.mp hx).elim hbank fun h => hbank h.2
  rw [paramConflict_eq] at h
  rcases Option.or_eq_some_iff.mp h with h | ⟨-, h⟩
  · rcases Option.or_eq_some_iff.mp h with h | ⟨-, h⟩
    · rcases Option.or_eq_some_iff.mp h with h | ⟨-, h⟩
      · refine hsettings (fun st x hx => ?_) h
        split at hx
        · cases hx
        · obtain rfl := Option.some.inj hx
          exact ⟨_, _, _, _, rfl⟩
      · rw [substituteConflict_eq] at h
        refine hsettings (fun st x hx => ?_) h
        obtain ⟨v, -, hv⟩ := Option.bind_eq_some_iff.mp hx
        exact hmapped hv
    · exact hbanks h
  · rcases Option.or_eq_some_iff.mp h with h | ⟨-, h⟩
    · exact hmapped h
    · exact hbanks h

/-! ### The three requests -/

theorem taken_pendingParams {c : Instr} : (s.taken c).mgmt.pendingParams = s.mgmt.pendingParams := by rw [taken_mgmt]

theorem taken_conflict (h : s.settled) {c : Instr} :
    paramConflict (s.taken c).mgmt.pendingParams (s.taken c).safe.substitute (s.taken c).map =
      paramConflict s.mgmt.pendingParams s.safe.substitute s.map := by
  rw [taken_pendingParams, taken_safe, taken_map h]

theorem paramClose_conflicts (h : s.admits r .modifying inAwaitParam)
    (hconflict : paramConflict s.mgmt.pendingParams s.safe.substitute s.map = some fields) :
    exec (.paramClose r) s = .next (answer r 36 .conflict fields (s.taken (.paramClose r))) := by
  rw [show exec (.paramClose r) s = _ from live_serve_of_admits h, bodyParamClose, taken_conflict h.settled, hconflict]
  rfl

theorem paramClose_takes (h : s.admits r .modifying inAwaitParam)
    (hfree : paramConflict s.mgmt.pendingParams s.safe.substitute s.map = none) :
    exec (.paramClose r) s = .next (answer r 36 .done [] (closeParams (s.taken (.paramClose r)))) := by
  rw [show exec (.paramClose r) s = _ from live_serve_of_admits h, bodyParamClose, taken_conflict h.settled, hfree]
  rfl

theorem paramBad_iff {item : Byte} {v : Word16} : paramBad item v = true ↔
    42 < item.toNat ∨ v.toNat < (paramRange item.toNat).1 ∨ (paramRange item.toNat).2 < v.toNat := by
  simp only [paramBad, Bool.or_eq_true, decide_eq_true_iff, or_assoc]

theorem Params.write_eq_set {p : Params} {k : Fin 43} {v : Word16} : p.write k.val v = ⟨p.items.set k v⟩ := by
  rw [Params.write, Table.put, dif_pos k.isLt]

theorem touches_closeParams_own : OnlyTouches [.mgmt, .pins, .pictures] s (closeParams s) :=
  touches_withPictures (by decide) (touches_withMgmt (by decide) (touches_withPins (by decide)
    (touches_withMgmt (by decide) (.refl _ s) _) _) _) _

theorem touches_openParams_own : OnlyTouches [.mgmt, .pictures] s (openParams s) :=
  touches_withPictures (by decide) (touches_withMgmt (by decide) (touches_withMgmt (by decide) (.refl _ s) _) _) _

/-- Settles O52: what each request does to the two copies, and the first constraint that is broken. -/
theorem parametersComeIntoForce : Obligations.ParametersComeIntoForce := by
  refine ⟨fun r k v s h hlow hhigh => ?_, fun r s h => ⟨fun hkeeps => ?_, fun hbroken => ?_, ?_⟩, fun r item v s h hbad => ?_,
    fun r s h => ⟨_, live_serve_of_admits h, by rw [← taken_params (s := s) (c := .paramOpen r)]; rfl,
      ((touches_taken h.settled).mono (by decide)).trans touches_openParams_own⟩⟩
  · have hk : (BitVec.ofNat 8 k.val).toNat = k.val := toNat_ofNat_byte (by omega)
    have hgood : paramBad (BitVec.ofNat 8 k.val) v = false := by
      rw [← Bool.not_eq_true, paramBad_iff, hk]
      omega
    intro c
    rw [show exec c s = _ from live_serve_of_admits h, hgood, badWhen_false, refuseOr_none, writePending, hk,
      Params.write_eq_set, taken_pendingParams]
  · have hexec := paramClose_takes h (paramConflict_eq_none.mpr hkeeps)
    refine ⟨_, hexec, ?_, ?_, ?_, ((touches_taken h.settled).mono (by decide)).trans touches_closeParams_own⟩
    · rw [← taken_pendingParams (s := s) (c := .paramClose r)]
      rfl
    · rw [taken_eq h.settled]
      rfl
    · rw [taken_eq h.settled]
      rfl
  · cases hconflict : paramConflict s.mgmt.pendingParams s.safe.substitute s.map with
    | none => exact absurd (paramConflict_eq_none.mp hconflict) hbroken
    | some fields =>
      obtain ⟨_, _, _, _, rfl⟩ := exists_conflictFields hconflict
      exact ⟨_, rfl, paramClose_conflicts h hconflict⟩
  · intro conflict limits breaks inside substitutes targetsOf trimsOf before release
    have hconflict {item cause bank cell : Nat} (hfields : paramConflict s.mgmt.pendingParams s.safe.substitute s.map =
        some (conflictFields item cause bank cell)) : conflict item cause bank cell := paramClose_conflicts h hfields
    have hsubstitutes (hall : substitutes) : substituteConflict s.mgmt.pendingParams s.safe.substitute = none :=
      substituteConflict_none fun st x hx => hall st x hx
    have htarget (k : BankId) (n : Nat) (hok : targetsOf k n) :
        clearCell (targetItem s.mgmt.pendingParams) (s.map.bank k) n := clearCell_targetItem hok
    have htrim (k : BankId) (n : Nat) (hok : trimsOf k n) :
        clearCell (trimItem s.mgmt.pendingParams) (s.map.bank k) n := clearCell_trimItem hok
    refine ⟨fun st hst hfirst => hconflict ?_, fun st v item hlimits hv hbreaks hfirst => hconflict ?_,
      fun k n c st item hlimits hsub hc hbefore hbreaks hfirst => hconflict ?_, fun item hlimits hsub htargets hbreaks => hconflict ?_,
      fun k n c st hlimits hsub htargets hrelease hc hbefore hbound hfirst => hconflict ?_⟩
    · rw [paramConflict_eq, limitsConflict_first hst hfirst]
      rfl
    · rw [paramConflict_eq, limitsConflict_none hlimits,
        substituteConflict_first hv hbreaks fun o ho x hx => hfirst o x ho hx]
      rfl
    · rw [paramConflict_eq, limitsConflict_none hlimits, hsubstitutes hsub,
        firstInBanks_first hc (clearBefore_of htarget hbefore) (brokenLimit_eq_some.mpr hbreaks)
          fun o ho => brokenLimit_of_inside (hfirst o ho)]
      rfl
    · rw [paramConflict_eq, limitsConflict_none hlimits, hsubstitutes hsub,
        firstInBanks_clear fun k n => htarget k n (htargets k n), brokenLimit_eq_some.mpr hbreaks]
      rfl
    · rw [paramConflict_eq, limitsConflict_none hlimits, hsubstitutes hsub,
        firstInBanks_clear fun k n => htarget k n (htargets k n), brokenLimit_of_inside hrelease,
        firstInBanks_first hc (clearBefore_of htrim hbefore) (if_pos hbound) fun o ho => if_neg (Nat.not_lt.mpr (hfirst o ho))]
      rfl
  · exact exec_refuses rfl h (by rw [paramBad_iff.mpr hbad, badWhen_true, refuseOr_some])

end Sys2Proof.Machine
end

section
/-! PROOF. The layout is written and closed, and the drives are checked (O53). -/

namespace Sys2Proof.Machine

variable {s t : State} {r : Sender} {st o n : Setting} {f : Frame} {k : Checking} {d : Byte} {K L : MoveUnit → Prop}
  {roster : PerSetting RosterEntry} {pairs : PerSetting (Byte × Byte)} {kind a0 a1 b0 b1 : Byte}

/-! ### The roster tests (R188) -/

/-- The drive station of the setting is absent, the own station, or another setting's too. -/
def State.badStation (s : State) (o : Setting) : Prop :=
  s.driveStation o = none ∨ s.driveStation o = some s.ownStation ∨ ∃ q, q ≠ o ∧ s.driveStation q = s.driveStation o

theorem layoutFault_iff : s.layoutFault o = true ↔ s.badStation o := by
  unfold State.layoutFault State.badStation
  cases hd : s.driveStation o with
  | none => exact iff_of_true rfl (.inl rfl)
  | some d =>
    simp only [Bool.or_eq_true, decide_eq_true_iff, List.any_eq_true, Bool.and_eq_true, Option.some.injEq, reduceCtorEq, false_or]
    exact or_congr_right ⟨fun ⟨q, _, hq⟩ => ⟨q, hq⟩, fun ⟨q, hq⟩ => ⟨q, Setting.mem_all q, hq⟩⟩

theorem firstLayoutFault_first (h : s.badStation st) (hbefore : ∀ o : Setting, o.num < st.num → ¬ s.badStation o) :
    s.firstLayoutFault = some st := by
  rw [State.firstLayoutFault, List.find?_eq_findSome?_guard]
  refine findSome?_settings (st := st) ?_ fun o ho => ?_
  · rw [Option.guard_eq_some_iff]
    exact ⟨rfl, layoutFault_iff.mpr h⟩
  · rw [Option.guard_eq_none_iff]
    exact Bool.eq_false_iff.mpr ((not_congr layoutFault_iff).mpr (hbefore o ho))

theorem firstLayoutFault_none (h : ∀ o, ¬ s.badStation o) : s.firstLayoutFault = none :=
  List.find?_eq_none.mpr fun o _ => (not_congr layoutFault_iff).mpr (h o)

theorem not_badStation (hgood : (∀ st, s.driveStation st ≠ none ∧ s.driveStation st ≠ some s.ownStation) ∧
    ∀ a b : Setting, a ≠ b → s.driveStation a ≠ s.driveStation b) (o : Setting) : ¬ s.badStation o := by
  rintro (hnone | hown | ⟨q, hq, hshared⟩)
  · exact (hgood.1 o).1 hnone
  · exact (hgood.1 o).2 hown
  · exact hgood.2 q o hq hshared

theorem layoutRefusal_taken {c : Instr} (h : s.settled) : (s.taken c).layoutRefusal = s.layoutRefusal := by
  rw [taken_eq h]
  rfl

theorem layoutRefusal_first (h : s.badStation st) (hbefore : ∀ o : Setting, o.num < st.num → ¬ s.badStation o) :
    s.layoutRefusal = some (.badField, [BitVec.ofNat 8 st.num]) := by
  rw [State.layoutRefusal, firstLayoutFault_first h hbefore]
  rfl

theorem layoutRefusal_none (h : ∀ o, ¬ s.badStation o) : s.layoutRefusal = none := by
  rw [State.layoutRefusal, firstLayoutFault_none h]
  rfl

theorem exec_layoutClose (h : s.admits r .modifying inAwaitLayout) : exec (.layoutClose r) s =
    .next (refuseWithOr r 40 s.layoutRefusal startChecking (s.taken (.layoutClose r))) := by
  rw [show exec (.layoutClose r) s = _ from live_serve_of_admits h, layoutRefusal_taken h.settled]

theorem exec_resume (h : s.admits r .modifying inAwaitParam) : exec (.resume r) s =
    .next (refuseWithOr r 49 s.resumeRefusal resumePart (s.taken (.resume r))) := by
  rw [show exec (.resume r) s = _ from live_serve_of_admits h, State.resumeRefusal, layoutRefusal_taken h.settled, taken_mgmt]
  rfl

theorem resumeRefusal_held (h : s.mgmt.imageHeld = true) : s.resumeRefusal = s.layoutRefusal :=
  if_neg (by rw [h]; exact nofun)

/-! ### A drive asked (R189) -/

theorem askIdent_of_station (h : s.driveStation st = some d) :
    askIdent st s = queuePart (Frame.make d s.ownStation .identAsk 0#4 []) s := by
  rw [askIdent, h]

theorem askSetting_of_station {asks : Nat} (h : s.driveStation st = some d) : askSetting st asks s =
    queuePart (Frame.make d s.ownStation .identAsk 0#4 [])
      (s.withMgmt { s.mgmt with checking := some ⟨st, asks, ⟨s.partTime, 10⟩⟩ }) :=
  askIdent_of_station (s := s.withMgmt _) h

theorem startChecking_of_station (h : s.driveStation .drum = some d) : startChecking s =
    queuePart (Frame.make d s.ownStation .identAsk 0#4 [])
      ((publish (s.withMgmt { s.mgmt with partState := .checking })).withMgmt
        { (publish (s.withMgmt { s.mgmt with partState := .checking })).mgmt with
          checking := some ⟨.drum, 1, ⟨s.partTime, 10⟩⟩ }) :=
  askSetting_of_station (s := enterPart .checking s) h

/-! ### An IDENT (R189) -/

theorem takeIdent_unchecked (h : s.mgmt.checking = none) : takeIdent f s = s := by
  unfold takeIdent
  rw [h]

theorem takeIdent_other (h : s.mgmt.checking = some k) (hp : f.payload = [kind, a0, a1, b0, b1])
    (hd : s.driveStation k.setting ≠ some f.source) : takeIdent f s = s := by
  unfold takeIdent
  rw [h, hp]
  exact if_neg hd

/-- What an IDENT of the drive being checked leads to, by the cause with which it fails. -/
def identOutcome (k : Checking) (cause : Nat) (s : State) : State :=
  if cause = 0 then passDrive k.setting s else failDrive k.setting cause s

theorem takeIdent_asked (h : s.mgmt.checking = some k) (hp : f.payload = [kind, a0, a1, b0, b1])
    (hd : s.driveStation k.setting = some f.source) : takeIdent f s =
      identOutcome k (identFault s.mgmt.params k.setting kind (word16 a0 a1) (word16 b0 b1)) s := by
  unfold takeIdent identOutcome
  rw [h, hp]
  dsimp only
  rw [if_pos hd]
  split
  · rename_i hcause
    rw [hcause, if_pos rfl]
  · rename_i hcause
    rw [if_neg hcause]

theorem identFault_kind {p : Params} {lo hi : Word16} (h : kind.toNat ≠ st.num) : identFault p st kind lo hi = 2 := if_pos h

theorem identFault_range {p : Params} {lo hi : Word16} (hkind : kind.toNat = st.num)
    (h : ¬ (lo.toNat ≤ p.item st.num ∧ p.item (5 + st.num) ≤ hi.toNat)) : identFault p st kind lo hi = 3 := by
  unfold identFault
  rw [if_neg (Classical.not_not.mpr hkind), if_pos]
  unfold Params.globalMin Params.globalMax
  omega

theorem identFault_passes {p : Params} {lo hi : Word16} (hkind : kind.toNat = st.num)
    (h : lo.toNat ≤ p.item st.num ∧ p.item (5 + st.num) ≤ hi.toNat) : identFault p st kind lo hi = 0 := by
  unfold identFault
  rw [if_neg (Classical.not_not.mpr hkind), if_neg]
  unfold Params.globalMin Params.globalMax
  omega

theorem nextSetting_eq (st : Setting) : nextSetting st = Setting.ofNum (st.num + 1) := by cases st <;> rfl

theorem passDrive_next (h : n.num = st.num + 1) : passDrive st s = askSetting n 1 s := by
  rw [passDrive, nextSetting_eq, ← h, setting_ofNum_num]

/-! ### The regulator at rest -/

/-- The move unit is such, and neither a settled event nor an action moves the regulator. -/
structure AtRest (K : MoveUnit → Prop) (s : State) : Prop where
  moves : K s.moves
  part : s.mgmt.partState ≠ .regulating
  state : s.regulator.state = .idle ∨ s.regulator.state = .safe

theorem atRest_of_touches {T : List Block} (h : OnlyTouches T s t)
    (hT : Block.moves ∉ T ∧ Block.mgmt ∉ T ∧ Block.regulator ∉ T) (hs : AtRest K s) : AtRest K t :=
  ⟨by rw [h.moves hT.1]; exact hs.moves, by rw [h.mgmt hT.2.1]; exact hs.part, by rw [h.regulator hT.2.2]; exact hs.state⟩

theorem takeExclusion_atRest (h : s.regulator.state = .idle ∨ s.regulator.state = .safe) : takeExclusion st s = s := by
  have htrial : s.regulator.state.inTrial = false := by rcases h with h | h <;> rw [h] <;> rfl
  unfold takeExclusion
  split
  · rfl
  · exact if_neg fun hin => Bool.false_ne_true (htrial.symm.trans hin.2)

theorem atRest_steady (K : MoveUnit → Prop) : Steady (AtRest K) where
  touches h := atRest_of_touches h (by decide)
  publish {s} := atRest_of_touches (touches_publish (T := [.pictures]) (by decide) (.refl _ s)) (by decide)
  notice _ _ _ {s} := atRest_of_touches (touches_raiseNotice (T := touchNotices) (by decide) (.refl _ s) _ _ _) (by decide)
  action a {s} h := by rwa [takeAction_deaf (.inl h.part)]
  settled st {s} h := by rwa [takeSettled_of_resting h.state]
  exclusion st {s} h := by rwa [takeExclusion_atRest h.state]
  retarget {s} h := by rwa [takeRetarget_of_resting (h.state.imp_right .inr)]

/-- A judgement of DRIVE_FAULT, made at rest. -/
theorem atRest_judgeDriveFault (h : AtRest K s) (hK : ∀ m b, K m → K { m with driveFault := b }) :
    AtRest (fun m => K m ∧ m.driveFault = Setting.all.any (fun st => decide ((m.records.get st).state = .fault)))
      (judgeDriveFault s) := by
  obtain ⟨hmoves, hpart, hstate⟩ := h
  unfold judgeDriveFault
  split
  · rename_i hsame
    exact ⟨⟨hmoves, hsame.symm⟩, hpart, hstate⟩
  · exact (atRest_steady _).setCondition _ _ ⟨⟨hK _ _ hmoves, rfl⟩, hpart, hstate⟩

/-- The new layout is in the move unit. -/
def laidOut (u : MoveUnit) (roster : PerSetting RosterEntry) (m : MoveUnit) : Prop :=
  m.roster = roster ∧ m.records = (u.relayout roster).records

theorem relayoutMoves_atRest (roster : PerSetting RosterEntry) (hpart : s.mgmt.partState ≠ .regulating)
    (hstate : s.regulator.state = .idle ∨ s.regulator.state = .safe) :
    AtRest (fun m => laidOut s.moves roster m ∧
      m.driveFault = Setting.all.any (fun st => decide ((m.records.get st).state = .fault))) (relayoutMoves roster s) := by
  have hkeep {K : MoveUnit → Prop} (l : List Setting) : ∀ h ∈ ((l.map settledHandings).flatten).flatten, ∀ t, AtRest K t → AtRest K (h t) := by
    intro h hh
    obtain ⟨c, hc, hhc⟩ := List.mem_flatten.mp hh
    exact (atRest_steady K).settledOf l c hc h hhc
  exact interleave_once (P := AtRest (laidOut s.moves roster)) (g := judgeDriveFault) (.refl _)
    (fun _ => ⟨⟨rfl, rfl⟩, hpart, hstate⟩) (hkeep _) (fun _ ht => atRest_judgeDriveFault ht fun _ _ h => h) (hkeep _)

/-- What LAYOUT WRITE leaves at rest (R91). -/
theorem relayoutMoves_laidOut (roster : PerSetting RosterEntry) (hpart : s.mgmt.partState ≠ .regulating)
    (hstate : s.regulator.state = .idle ∨ s.regulator.state = .safe) :
    (relayoutMoves roster s).moves.roster = roster ∧
    (∀ st, (relayoutMoves roster s).driveStation st = s.driveStation st →
      (relayoutMoves roster s).record st = s.record st) ∧
    (∀ st, (relayoutMoves roster s).driveStation st ≠ s.driveStation st →
      (relayoutMoves roster s).record st = .fresh (s.record st).tag) ∧
    (relayoutMoves roster s).moves.driveFault = (relayoutMoves roster s).anyFault := by
  obtain ⟨⟨⟨hroster, hrecords⟩, hfault⟩, -, -⟩ := relayoutMoves_atRest roster hpart hstate
  have hstation (st : Setting) : (relayoutMoves roster s).driveStation st = (roster.get st).station := by
    rw [State.driveStation, hroster]
  have hrecord (st : Setting) : (relayoutMoves roster s).record st =
      if s.driveStation st = (roster.get st).station then s.record st else .fresh (s.record st).tag := by
    rw [State.record, hrecords]
    exact PerSetting.get_tabulate _ st
  refine ⟨hroster, fun st hst => ?_, fun st hst => ?_, hfault⟩
  · rw [hrecord, if_pos (hst.symm.trans (hstation st))]
  · rw [hrecord, if_neg fun h => hst ((hstation st).trans h.symm)]

theorem atRest_of_cycleSound (hs : s.cycleSound = true) (h : s.mgmt.partState ≠ .regulating) :
    s.regulator.state = .idle ∨ s.regulator.state = .safe := by
  simp only [State.cycleSound, Bool.and_eq_true, Bool.or_eq_true, decide_eq_true_iff] at hs
  obtain ⟨⟨-, hrest⟩, -⟩ := hs
  exact hrest.resolve_right h

/-! ### LAYOUT WRITE -/

theorem layoutPairBad_iff {own : Byte} {p : Byte × Byte} : layoutPairBad own p = true ↔
    62 < p.1.toNat ∧ p.1 ≠ 255#8 ∨ p.1 = own ∨ p.2.toNat < 5 := by
  have hlast : p.1.toNat < 255 ↔ p.1 ≠ 255#8 := by
    have hlt := p.1.isLt
    rw [ne_eq, ← BitVec.toNat_inj]
    change _ ↔ ¬ p.1.toNat = 255
    omega
  simp only [layoutPairBad, Bool.or_eq_true, Bool.and_eq_true, decide_eq_true_iff, hlast, or_assoc]

theorem PerSetting.mem_toList {α : Type} {p : PerSetting α} {x : α} : x ∈ p.toList ↔ ∃ st, p.get st = x := by
  have hlist : p.toList = Setting.all.map p.get := rfl
  rw [hlist, List.mem_map]
  exact ⟨fun ⟨st, _, h⟩ => ⟨st, h⟩, fun ⟨st, h⟩ => ⟨st, Setting.mem_all st, h⟩⟩

theorem anyPairBad_iff {own : Byte} : pairs.toList.any (layoutPairBad own) = true ↔
    ∃ st, 62 < (pairs.get st).1.toNat ∧ (pairs.get st).1 ≠ 255#8 ∨ (pairs.get st).1 = own ∨ (pairs.get st).2.toNat < 5 := by
  simp only [List.any_eq_true, PerSetting.mem_toList, ← layoutPairBad_iff]
  exact ⟨fun ⟨_, ⟨st, rfl⟩, h⟩ => ⟨st, h⟩, fun ⟨st, h⟩ => ⟨_, ⟨st, rfl⟩, h⟩⟩

theorem layoutWrite_takes (h : s.admits r .modifying inAwaitLayout)
    (hgood : pairs.toList.any (layoutPairBad s.ownStation) = false) : exec (.layoutWrite r pairs) s =
      .next (answer r 39 .done [] (relayoutMoves (PerSetting.tabulate (fun st => rosterOfPair (pairs.get st)))
        (s.taken (.layoutWrite r pairs)))) := by
  rw [show exec (.layoutWrite r pairs) s = _ from live_serve_of_admits h, bodyLayoutWrite, taken_ownStation h.settled, hgood,
    badWhen_false, refuseOr_none]

/-! ### The answer timer -/

theorem exec_answerTimerExpiry (hworks : s.works) (h : s.mgmt.checking = some k) (hdue : s.answerDue = true) :
    exec .answerTimerExpiry s = .next (answerExpires k s) := by
  have harm : exec .answerTimerExpiry s = execAnswerTimerExpiry s := rfl
  rw [State.answerDue, h] at hdue
  rw [harm, execAnswerTimerExpiry, live_of_works hworks, h]
  exact congrArg Host.Outcome.next (if_pos hdue)

/-- What the end of CHECKING leaves, in whatever order the notice and the picture come. -/
theorem endChecking_ended (next : PartState) (notice : NoticeKind) (subject detail : Nat) (s : State) :
    (endChecking next notice subject detail s).mgmt = { s.mgmt with checking := none, partState := next } ∧
    (endChecking next notice subject detail s).notices = (raiseNotice notice subject (BitVec.ofNat 16 detail) s).notices ∧
    OnlyTouches [.mgmt, .notices, .pins, .link, .pictures, .order] s (endChecking next notice subject detail s) := by
  unfold endChecking
  have hstart : OnlyTouches [.mgmt] s (s.withMgmt { s.mgmt with checking := none, partState := next }) :=
    touches_withMgmt (by decide) (.refl _ s) _
  have hmgmt : (s.withMgmt { s.mgmt with checking := none, partState := next }).mgmt =
      { s.mgmt with checking := none, partState := next } := rfl
  generalize s.withMgmt { s.mgmt with checking := none, partState := next } = t at hstart hmgmt
  have hend : OnlyTouches [.notices, .pins, .link, .pictures, .order] t
      (interleave [[raiseNotice notice subject (BitVec.ofNat 16 detail)], [publish]] t) :=
    keeps_pair (P := OnlyTouches [.notices, .pins, .link, .pictures, .order] t) (fun o => touches_withOrder (by decide) (.refl _ t) o)
      (fun u hu => touches_raiseNotice (by decide) hu _ _ _) (fun u hu => touches_publish (by decide) hu)
  have hraise (u : State) (hu : OnlyTouches [.pictures, .order] t u) :
      (raiseNotice notice subject (BitVec.ofNat 16 detail) u).notices =
        (raiseNotice notice subject (BitVec.ofNat 16 detail) s).notices :=
    notices_raiseNotice_congr ((hu.notices (by decide)).trans (hstart.notices (by decide)))
      (by rw [hu.mgmt (by decide), hmgmt]) ((hu.partTime (by decide)).trans (hstart.partTime (by decide)))
  refine ⟨(hend.mgmt (by decide)).trans hmgmt, ?_, (hstart.mono (by decide)).trans (hend.mono (by decide))⟩
  rcases interleave_pair (raiseNotice notice subject (BitVec.ofNat 16 detail)) publish t with h | h <;> rw [h]
  · exact hraise _ (touches_withOrder (by decide) (.refl _ t) _)
  · exact hraise _ (touches_publish (by decide) (touches_withOrder (by decide) (.refl _ t) _))

theorem taken_partTime (h : s.settled) {c : Instr} : (s.taken c).partTime = s.partTime := by rw [taken_eq h]; rfl

theorem refuseWithOr_some {code : Nat} {result : Result} {fields : List Byte} {effect : State → State} :
    refuseWithOr r code (some (result, fields)) effect s = answer r code result fields s := rfl

theorem refuseWithOr_none {code : Nat} {effect : State → State} :
    refuseWithOr r code none effect s = answer r code .done [] (effect s) := rfl

/-- Settles O53: the layout at rest, the drives asked in turn, and the refusals. -/
theorem drivesAreCheckedInOrder : Obligations.DrivesAreCheckedInOrder := by
  refine ⟨fun r v s h hbad => exec_refuses rfl h ?_, fun r s st => ⟨fun h hbad hfirst => ?_, fun h hnone => ?_,
    fun h hheld hbad hfirst => ?_⟩, fun f s kind a0 a1 b0 b1 hp => ⟨takeIdent_unchecked, fun k hk => ⟨takeIdent_other hk hp,
      fun hd => ⟨fun hkind => ?_, fun hkind hrange => ?_, fun hkind hrange hfan => ?_, fun hkind hrange n d hn hnd => ?_⟩⟩⟩,
    fun r v s h hcycle hgood => ?_, fun r s d hd => ⟨fun h hgood => ?_, fun h hheld hgood => ?_⟩,
    fun s k d hworks hk hdue hd => ⟨fun hasks => ?_, fun hasks => ?_⟩⟩
  · rw [bodyLayoutWrite, taken_ownStation h.settled, anyPairBad_iff.mpr hbad, badWhen_true, refuseOr_some]
  · rw [exec_layoutClose h, layoutRefusal_first hbad hfirst, refuseWithOr_some]
  · rw [State.refuses, exec_resume h, State.resumeRefusal, if_pos hnone, refuseWithOr_some]
  · rw [exec_resume h, resumeRefusal_held hheld, layoutRefusal_first hbad hfirst, refuseWithOr_some]
  · rw [takeIdent_asked hk hp hd, identFault_kind hkind]
    rfl
  · rw [takeIdent_asked hk hp hd, identFault_range hkind hrange]
    rfl
  · rw [takeIdent_asked hk hp hd, identFault_passes hkind hrange, identOutcome, if_pos rfl, hfan]
    rfl
  · rw [takeIdent_asked hk hp hd, identFault_passes hkind hrange, identOutcome, if_pos rfl, passDrive_next hn,
      askSetting_of_station hnd]
  · have hclean : v.toList.any (layoutPairBad s.ownStation) = false := by
      rw [← Bool.not_eq_true, anyPairBad_iff]
      rintro ⟨st, hbad⟩
      obtain ⟨hstation, hown, hperiod⟩ := hgood st
      rcases hbad with ⟨hlarge, hlast⟩ | hbad | hbad
      · exact hstation.elim (fun h => absurd hlarge (Nat.not_lt.mpr h)) hlast
      · exact hown hbad
      · omega
    have hpart : s.mgmt.partState ≠ .regulating := by
      have hcolumn : inAwaitLayout s.mgmt.partState = true := h.2.2.2
      rw [of_decide_eq_true hcolumn]
      exact nofun
    have hexec := layoutWrite_takes h hclean
    obtain ⟨hroster, hstays, hfresh, hfault⟩ := relayoutMoves_laidOut (s := s.taken (.layoutWrite r v))
      (PerSetting.tabulate (fun st => rosterOfPair (v.get st))) (by rw [taken_mgmt]; exact hpart)
      (by rw [taken_regulator h.settled]; exact atRest_of_cycleSound hcycle hpart)
    have hstation (st : Setting) : (s.taken (.layoutWrite r v)).driveStation st = s.driveStation st := by
      rw [taken_eq h.settled]
      rfl
    have hrecord (st : Setting) : (s.taken (.layoutWrite r v)).record st = s.record st := by
      rw [taken_eq h.settled]
      rfl
    simp only [hstation, hrecord] at hstays hfresh
    refine ⟨_, hexec, fun st => by rw [hroster, PerSetting.get_tabulate]; rfl, hstays, fun st hst => ?_, hfault,
      (touches_relayoutMoves (List.Subset.refl _) (.refl _ _) _).mgmt (by decide)⟩
    rw [hfresh st hst]
    exact ⟨rfl, rfl, rfl, rfl, rfl, rfl, rfl, rfl⟩
  · rw [exec_layoutClose h, layoutRefusal_none (not_badStation hgood), refuseWithOr_none,
      startChecking_of_station (d := d) (by rw [taken_eq h.settled]; exact hd), taken_ownStation h.settled, taken_partTime h.settled]
  · rw [exec_resume h, resumeRefusal_held hheld, layoutRefusal_none (not_badStation hgood), refuseWithOr_none, resumePart,
      startChecking_of_station (d := d) (by rw [taken_eq h.settled]; exact hd), taken_eq h.settled]
    rfl
  · rw [exec_answerTimerExpiry hworks hk hdue, answerExpires, if_pos hasks, askSetting_of_station hd]
  · refine ⟨_, exec_answerTimerExpiry hworks hk hdue, ?_⟩
    rw [answerExpires, if_neg (Nat.not_lt.mpr hasks)]
    exact endChecking_ended .awaitLayout .layoutConflict k.setting.num 1 s

end Sys2Proof.Machine
end

section
/-! PROOF. Pictures are published and read (O58). -/

namespace Sys2Proof.Machine

variable {s : State} {r : Sender} {x : PictureUnit} {p : Picture} {k j : Fin 3} {port : Port}

/-! ### A picture published (R198) -/

theorem PictureUnit.freeBuffer_eq_some (h : x.freeBuffer = some k) :
    (x.buffers.get k).role = .f ∧ ∀ j, j < k → (x.buffers.get j).role ≠ .f := by
  unfold PictureUnit.freeBuffer at h
  by_cases h0 : (x.buffers.get 0).role = .f
  · rw [if_pos h0] at h
    obtain rfl := Option.some.inj h
    exact ⟨h0, fun j hj => absurd hj (Fin.not_lt_zero j)⟩
  · rw [if_neg h0] at h
    by_cases h1 : (x.buffers.get 1).role = .f
    · rw [if_pos h1] at h
      obtain rfl := Option.some.inj h
      refine ⟨h1, fun j hj => ?_⟩
      obtain rfl : j = 0 := by omega
      exact h0
    · rw [if_neg h1] at h
      split at h
      · rename_i h2
        obtain rfl := Option.some.inj h
        refine ⟨h2, fun j hj => ?_⟩
        obtain rfl | rfl : j = 0 ∨ j = 1 := by omega
        · exact h0
        · exact h1
      · cases h

/-- One U, at most one N, and three buffers: one of them is F. -/
theorem PictureUnit.exists_freeBuffer (h : x.sound = true) : ∃ k, x.freeBuffer = some k := by
  obtain ⟨a, b, c, hx⟩ := x.buffers_eq
  rw [PictureUnit.sound_eq, hx] at h
  unfold PictureUnit.freeBuffer
  rw [hx]
  change rolesSound [a.role, b.role, c.role] = true at h
  change ∃ k, (if a.role = .f then some 0 else if b.role = .f then some 1 else if c.role = .f then some 2 else none) = some k
  generalize a.role = ra at h
  generalize b.role = rb at h
  generalize c.role = rc at h
  revert h
  cases ra <;> cases rb <;> cases rc <;> decide

theorem PictureUnit.publish_buffers (h : x.freeBuffer = some k) :
    (x.publish p).buffers = (x.buffers.map Buffer.freed).set k ⟨.n, p⟩ := by
  rw [PictureUnit.publish, h]

theorem PictureUnit.get_publish (h : x.freeBuffer = some k) (j : Fin 3) :
    (x.publish p).buffers.get j = if j = k then ⟨.n, p⟩ else (x.buffers.get j).freed := by
  rw [publish_buffers h, Table.get_set, Table.get_map]

theorem Buffer.freed_role (b : Buffer) : b.freed.role = if b.role = .n then .f else b.role := by
  unfold Buffer.freed
  split <;> rfl

theorem Buffer.freed_picture (b : Buffer) : b.freed.picture = b.picture := by
  unfold Buffer.freed
  split <;> rfl

/-! ### The bytes of a picture (R198) -/

theorem length_stackBytes (l : List (Fin 12)) : (stackBytes l).length = 8 := by
  rw [stackBytes, List.length_take, List.length_append, List.length_map, List.length_replicate]
  omega

theorem Picture.length_bytes (p : Picture) : p.bytes.length = 63 := by
  unfold Picture.bytes
  simp only [List.length_append, length_stackBytes]
  cases p.last <;> rfl

theorem Picture.length_part (p : Picture) {k : Nat} (h : k < 3) : (p.part k).length = 21 := by
  rw [Picture.part, List.length_take, List.length_drop, p.length_bytes]
  omega

/-- Three parts of 21 make up a list of 63. -/
theorem three_parts {l : List Byte} (h : l.length = 63) :
    l = (l.drop (21 * 0)).take 21 ++ (l.drop (21 * 1)).take 21 ++ (l.drop (21 * 2)).take 21 := by
  have hlast : (l.drop 42).take 21 = l.drop 42 := List.take_of_length_le (by rw [List.length_drop]; omega)
  have hmiddle : (l.drop 21).take 21 ++ l.drop 42 = l.drop 21 := by
    rw [show l.drop 42 = (l.drop 21).drop 21 by rw [List.drop_drop], List.take_append_drop]
  calc l = l.take 21 ++ l.drop 21 := (List.take_append_drop 21 l).symm
    _ = l.take 21 ++ ((l.drop 21).take 21 ++ (l.drop 42).take 21) := by rw [hlast, hmiddle]
    _ = l.take 21 ++ (l.drop 21).take 21 ++ (l.drop 42).take 21 := (List.append_assoc ..).symm

theorem Picture.parts_append (p : Picture) : p.bytes = p.part 0 ++ p.part 1 ++ p.part 2 := three_parts p.length_bytes

/-! ### A picture read (R199) -/

theorem PictureUnit.exists_reading (h : x.sound = true) : ∃ k, (x.buffers.get k).role = .u ∧
    x.buffers.list.find? (fun b => decide (b.role = .u)) = some (x.buffers.get k) := by
  obtain ⟨hone, -⟩ := Bool.and_eq_true_iff.mp h
  cases hfind : x.buffers.list.find? (fun b => decide (b.role = .u)) with
  | none =>
    rw [List.find?_eq_none] at hfind
    rw [List.filter_eq_nil_iff.mpr hfind] at hone
    cases hone
  | some b =>
    obtain ⟨i, hi, rfl⟩ := List.mem_iff_getElem.mp (List.mem_of_find?_eq_some hfind)
    exact ⟨⟨i, x.buffers.size ▸ hi⟩, of_decide_eq_true (List.find?_some hfind :), rfl⟩

theorem Buffer.turn_picture (b : Buffer) : b.turn.picture = b.picture := by
  obtain ⟨role, p⟩ := b
  cases role <;> rfl

theorem Buffer.turn_role_u {b : Buffer} (h : b.turn.role = .u) : b.role = .n := by
  obtain ⟨role, p⟩ := b
  cases role
  · cases h
  · rfl
  · cases h

/-- Which picture a read begins with. -/
theorem PictureUnit.turn_reading (hk : (x.turn.buffers.get k).role = .u) : (x.buffers.get k).role = .n ∨
    (x.buffers.get k).role = .u ∧ ∀ j, (x.buffers.get j).role ≠ .n := by
  unfold PictureUnit.turn at hk
  split at hk
  · rw [Table.get_map] at hk
    exact .inl (Buffer.turn_role_u hk)
  · rename_i hnone
    exact .inr ⟨hk, fun j hj => hnone (List.any_eq_true.mpr ⟨x.buffers.get j, List.get_mem _ _, decide_eq_true hj⟩)⟩

theorem PictureUnit.turn_picture (x : PictureUnit) (j : Fin 3) : (x.turn.buffers.get j).picture = (x.buffers.get j).picture := by
  unfold PictureUnit.turn
  split
  · rw [Table.get_map, Buffer.turn_picture]
  · rfl

theorem PictureUnit.turn_seq (x : PictureUnit) : x.turn.seq = x.seq := by
  unfold PictureUnit.turn
  split <;> rfl

theorem readingPart_of_find {b : Buffer} {n : Nat}
    (h : s.pictures.buffers.list.find? (fun b => decide (b.role = .u)) = some b) : s.readingPart n = b.picture.part n := by
  rw [State.readingPart, h]

theorem replyLeft_picture {job : ReadJob} (hreading : s.mgmt.reading = some job)
    (hleft : s.mgmt.outstanding.get port = some .picture) : (replyLeft port s).mgmt = { s.mgmt with
      outstanding := s.mgmt.outstanding.set port none
      reading := if job.part < 2 then some ⟨job.sender, job.part + 1⟩ else none
      waiting := if job.part < 2 then s.mgmt.waiting ++
        [⟨job.sender, 45#8, .done, job.part + 1, decide (job.part + 1 < 2), s.readingPart (job.part + 1), .picture⟩]
        else s.mgmt.waiting } := by
  unfold replyLeft
  dsimp only
  rw [hleft]
  dsimp only
  unfold nextPicturePart
  rw [State.withMgmt_mgmt, hreading]
  dsimp only
  by_cases hpart : job.part < 2
  · rw [if_pos hpart, if_pos hpart, if_pos hpart]
    rfl
  · rw [if_neg hpart, if_neg hpart, if_neg hpart]
    rfl

/-- Settles O58: the free buffer, the bytes, the three parts, and the read. -/
theorem picturesArePublishedAndRead : Obligations.PicturesArePublishedAndRead := by
  refine ⟨fun s hs => ?_, fun s i => Table.get_map _ _ i, fun s => ?_, fun p => ⟨p.length_bytes, p.parts_append, fun k hk => p.length_part hk⟩,
    fun r s hfree hsettled hs => ?_, fun p j s hreading hleft => replyLeft_picture hreading hleft⟩
  · intro t
    obtain ⟨k, hk⟩ := PictureUnit.exists_freeBuffer hs
    obtain ⟨hfree, hfirst⟩ := PictureUnit.freeBuffer_eq_some hk
    have hget (j : Fin 3) : t.pictures.buffers.get j = if j = k then ⟨.n, s.nextPicture⟩ else (s.pictures.buffers.get j).freed :=
      PictureUnit.get_publish hk j
    refine ⟨rfl, touches_publish (by decide) (.refl _ s), k, hfree, hfirst, by rw [hget, if_pos rfl], fun j hj => ?_⟩
    rw [hget, if_neg hj]
    exact ⟨Buffer.freed_picture _, Buffer.freed_role _⟩
  · intro g words part state cause window move
    have hpart : byteOf s.mgmt.partState.code = part := by
      simp only [part]
      cases s.mgmt.partState <;> rfl
    have hstate : byteOf (g.state.code + 16 * safeCauseCode g.safeCause) = state ||| cause := by
      simp only [state, cause]
      cases g.state <;> cases g.safeCause with
      | none => rfl
      | some c => cases c <;> rfl
    have hwindow : byteOf (windowCode (g.window.map Prod.fst)) = window := by
      simp only [window]
      cases g.window with
      | none => rfl
      | some w =>
        obtain ⟨w, _⟩ := w
        cases w <;> rfl
    have hmove (st : Setting) : pictureMoveByte (pictureMove (s.record st)) = move st := by
      simp only [move]
      unfold pictureMoveByte pictureMove
      cases (s.record st).state <;> rfl
    have hmoves : Setting.all.map move = Setting.all.map (fun st => pictureMoveByte (pictureMove (s.record st))) :=
      List.map_congr_left fun st _ => (hmove st).symm
    rw [← hpart, ← hstate, ← hwindow, hmoves]
    unfold State.nextPicture composePicture Picture.bytes State.activeBank
    simp only [g]
    cases s.map.active <;> cases s.regulator.last <;> rfl
  · have hadmits : s.admits r .read anyState := ⟨hfree, hsettled, .inl rfl, rfl⟩
    obtain ⟨k, hk, hfind⟩ := PictureUnit.exists_reading (PictureUnit.sound_turn hs)
    refine ⟨((s.taken (.pictureRead r)).withPictures s.pictures.turn).withMgmt
      { (s.taken (.pictureRead r)).mgmt with reading := some ⟨r, 0⟩ }, k, hk, s.pictures.turn_seq, s.pictures.turn_picture,
      PictureUnit.turn_reading hk, rfl, ?_, ?_⟩
    · exact touches_withMgmt (by decide) (touches_withPictures (by decide) ((touches_taken hsettled).mono (by decide)) _) _
    · have hpictures : (s.taken (.pictureRead r)).pictures = s.pictures := by rw [taken_eq hsettled]; rfl
      rw [show exec (.pictureRead r) s = _ from live_serve_of_admits hadmits, startReading, hpictures,
        readingPart_of_find (s := (s.taken (.pictureRead r)).withPictures s.pictures.turn) hfind, PictureUnit.turn_picture]
      rfl

end Sys2Proof.Machine
end
